-- ==== Sys2Proof/Word.lean ====
section
/-! DEFINITION. The word types of the CV480: bytes, 16-bit and 32-bit fields, round numbers. -/

namespace Sys2Proof

/-- One byte of board memory or of a link frame. -/
abbrev Byte := BitVec 8

/-- A 16-bit field: sequences, generations, link counters (3.3, R16, R17). -/
abbrev Half := BitVec 16

/-- A 32-bit register or counter field. -/
abbrev Word := BitVec 32

/-- The 32-bit round number, advanced only by the lead (3.3, R38). -/
abbrev Round := BitVec 32

end Sys2Proof
end

