-- ==== Sys2Proof/Config.lean ====
section
/-! DEFINITION. The fixed quantities of the part that the manual states as numbers: times, capacities and limits. -/

namespace Sys2Proof.Config

/-- What the ID register reads at all times (R1). -/
def idValue : Word := 0x04800100#32

/-- The scan timer's period in ms (R14). -/
def scanPeriod : Nat := 100

/-- The reply timer of the launch bus in ms (R66). -/
def replyTime : Nat := 5

/-- One look: 2 ms settle and 10 ms integration (R84). -/
def lookTime : Nat := 12

/-- A mark closer than this to the last accepted one is ignored (R47). -/
def markSpacing : Nat := 50

/-- The lead-lost timer at a start in FOLLOW mode, in ms (R50). -/
def leadLostStart : Nat := 8000

/-- The pool of lendable credit (R113). -/
def creditPool : Nat := 64

/-- The sum the reserves never exceed (R101, R102). -/
def reserveLimit : Nat := 128

/-- The local share of the sighting queue (R94, R137). -/
def localShare : Nat := 64

/-- The follower's hold queue (R119). -/
def holdDepth : Nat := 32

/-- The journal writer's request list (R174). -/
def journalDepth : Nat := 16

/-- The stuck list (R69); stuck entries and contexts not IDLE stay below it at an admission (R62). -/
def stuckDepth : Nat := 8

/-- The most watches one WATCH_LIST carries (R86). -/
def watchListDepth : Nat := 64

/-- The most found tones one look reports (R92). -/
def lookTones : Nat := 8

/-- The size of a circuit record in bytes (R59). -/
def circuitBytes : Nat := 272

/-- The size of a verdict record in bytes (R79). -/
def verdictBytes : Nat := 64

/-- The size of a journal entry in bytes (R172). -/
def journalEntryBytes : Nat := 32

/-- The rounds of silence after which a peer is SILENT (R103). -/
def silenceLimit : Nat := 8

/-- The accepted marks between STEADY HELLOs (R118). -/
def helloPeriod : Nat := 16

end Sys2Proof.Config
end

