-- ==== Sys2Proof/Syntax.lean ====
section
/-! DEFINITION. The commands of the CV480: one constructor of `Instr` for each row of spec/opcode_table.json.
A completion names the board access it completes by the access's tag (log entry 2). -/

namespace Sys2Proof

/-- What a board read brings back at its completion: it failed on PCIe, or the bytes read (R13). -/
inductive ReadResult where
  | failed
  | bytes (data : List Byte)
  deriving DecidableEq, Repr

/-- One tone the detector's front end found in a look, with its raw code 0..1023 (R83, R92). -/
structure FoundTone where
  tone : Fin 48
  raw : BitVec 10
  deriving DecidableEq, Repr

/-- The commands and events the part takes, as spec/opcode_table.json lists them. -/
inductive Instr where
  /-- COLD_RESET (R10). -/
  | coldReset
  /-- RUN_SET (R6): CONTROL written with RUN = 1 and BOARD_RESET = 0. -/
  | runSet
  /-- RUN_CLEAR (R8): CONTROL written with RUN = 0 and BOARD_RESET = 0. -/
  | runClear
  /-- BOARD_RESET (R9): CONTROL written with BOARD_RESET = 1 and the given RUN bit. -/
  | boardReset (run : Bool)
  /-- NUDGE (R4): a full-word write of any value. -/
  | nudge (value : Word)
  /-- WINDOW_SIZE_WRITE (R2). -/
  | windowSizeWrite (value : Word)
  /-- IRQ_CAUSE_WRITE (R177). -/
  | irqCauseWrite (value : Word)
  /-- IRQ_MASK_WRITE (R178). -/
  | irqMaskWrite (value : Word)
  /-- REGISTER_WRITE (R1): a write of `size` bytes at a BAR offset. -/
  | registerWrite (offset : BitVec 12) (size : Nat) (value : Word)
  /-- START_HEADER_READ_DONE (R6). -/
  | startHeaderReadDone (tag : Nat) (result : ReadResult)
  /-- START_REQUEST_READ_DONE (R6). -/
  | startRequestReadDone (tag : Nat) (result : ReadResult)
  /-- START_HEADER_WRITE_DONE (R6). -/
  | startHeaderWriteDone (tag : Nat) (ok : Bool)
  /-- START_SHADOW_WRITE_DONE (R6). -/
  | startShadowWriteDone (tag : Nat) (ok : Bool)
  /-- SCAN_TIMER_EXPIRY (R14). -/
  | scanTimerExpiry
  /-- SCAN_READ_DONE (R15). -/
  | scanReadDone (tag : Nat) (result : ReadResult)
  /-- DESCRIPTOR_READ_DONE (R18). -/
  | descriptorReadDone (tag : Nat) (result : ReadResult)
  /-- SHADOW_WRITE_DONE (R25). -/
  | shadowWriteDone (tag : Nat) (ok : Bool)
  /-- NOT_RUN_WRITE_DONE (R24). -/
  | notRunWriteDone (tag : Nat) (ok : Bool)
  /-- SUMMARY_WRITE_DONE (R24). -/
  | summaryWriteDone (tag : Nat) (ok : Bool)
  /-- WINDOW_STATUS_WRITE_DONE (R32). -/
  | windowStatusWriteDone (tag : Nat) (ok : Bool)
  /-- MARK_COUNTER_WRITE_DONE (R52). -/
  | markCounterWriteDone (tag : Nat) (ok : Bool)
  /-- LINK_COUNTER_WRITE_DONE (R120). -/
  | linkCounterWriteDone (tag : Nat) (ok : Bool)
  /-- SIGHTING_COUNTER_WRITE_DONE (R152). -/
  | sightingCounterWriteDone (tag : Nat) (ok : Bool)
  /-- SETTINGS_READ_DONE (R53). -/
  | settingsReadDone (tag : Nat) (result : ReadResult)
  /-- SETTINGS_ACK_WRITE_DONE (R55). -/
  | settingsAckWriteDone (tag : Nat) (ok : Bool)
  /-- PEER_STATUS_WRITE_DONE (R105). -/
  | peerStatusWriteDone (tag : Nat) (ok : Bool)
  /-- JOURNAL_ENTRY_WRITE_DONE (R174). -/
  | journalEntryWriteDone (tag : Nat) (ok : Bool)
  /-- PRODUCED_COUNT_WRITE_DONE (R174). -/
  | producedCountWriteDone (tag : Nat) (ok : Bool)
  /-- CONSUMED_READ_DONE (R175). -/
  | consumedReadDone (tag : Nat) (result : ReadResult)
  /-- CIRCUIT_FETCH_DONE (R60). -/
  | circuitFetchDone (tag : Nat) (result : ReadResult)
  /-- VERDICT_WRITE_DONE (R170). -/
  | verdictWriteDone (tag : Nat) (ok : Bool)
  /-- COMMAND_SENT (R66). -/
  | commandSent
  /-- ACK_ON (R67), naming a launch point. -/
  | ackOn (point : Byte)
  /-- ACK_OFF (R68). -/
  | ackOff (point : Byte)
  /-- NACK (R67). -/
  | nack (point : Byte)
  /-- FAULT (R78), the modulator's reply. -/
  | modulatorFault (point : Byte)
  /-- REPLY_TIMER_EXPIRY (R69) of one launch context. -/
  | replyTimerExpiry (ctx : Fin 8)
  /-- ROUND_START (R42). -/
  | roundStart
  /-- WATCH_ISSUE (R85). -/
  | watchIssue
  /-- LOOK_OPEN (R87). -/
  | lookOpen
  /-- LOOK_END (R92) of one detector, with the tones its front end found. -/
  | lookEnd (detector : Fin 4) (found : List FoundTone)
  /-- LOOK_DEADLINE (R97). -/
  | lookDeadline
  /-- ROUND_MARK_RECEIVED (R48): a frame of kind 1 arriving not before `time`. -/
  | roundMarkReceived (time : Nat) (source dest : Byte) (body : List Byte)
  /-- WATCH_LIST_RECEIVED (R88): a frame of kind 2 arriving not before `time`. -/
  | watchListReceived (time : Nat) (source dest : Byte) (body : List Byte)
  /-- SIGHTING_RECEIVED (R109): a frame of kind 3. -/
  | sightingReceived (source dest : Byte) (body : List Byte)
  /-- HELLO_RECEIVED (R104): a frame of kind 4. -/
  | helloReceived (source dest : Byte) (body : List Byte)
  /-- UNKNOWN_FRAME_RECEIVED (R181): a frame too short or of an unknown kind, byte for byte. -/
  | unknownFrameReceived (frame : List Byte)
  /-- FRAMER_READY (R117). -/
  | framerReady
  /-- LEAD_LOST_TIMER_EXPIRY (R50). -/
  | leadLostTimerExpiry
  /-- CLASSIFY_SIGHTING (R140). -/
  | classifySighting
  /-- WALK_READ_DONE (R130). -/
  | walkReadDone (tag : Nat) (result : ReadResult)
  /-- SWEEP_STEP (R133) of one area. -/
  | sweepStep (area : Fin 8)
  deriving DecidableEq, Repr

end Sys2Proof
end

