-- ==== Sys2Proof/Machine/State.lean ====
section
/-! DEFINITION. The state of the CV480 as plain data: every register, slot, window, probe record, launch context, tone,
detector, peer, LTB entry, walk, queue, counter and board access in flight, with its value after a cold reset. -/

namespace Sys2Proof.Machine

/-- Why the machine stops. The CV480's manual gives every command an effect in every device state (a failed access makes
the device FAULTED, which is a device state and not a stop), so no command of the model ends in a fault: the type is empty. -/
inductive Fault where
  deriving DecidableEq, Repr

/-- Why a command has no meaning. -/
inductive Refusal where
  /-- Raised by `exec`'s arm of a command that has no meaning yet; safe. No arm of this model raises it. -/
  | notModelled (mnemonic : String)
  deriving DecidableEq, Repr

/-! ### Registers and the board interface (chapter 1) -/

/-- A location (node, port, slot) (3.5). -/
structure Location where
  node : Fin 16
  port : Fin 32
  slot : Fin 96
  deriving DecidableEq, Repr

/-- The operating mode (R6, R57). -/
inductive Mode where
  | lead
  | follow
  deriving DecidableEq, Repr

/-- The device state of STATUS.STATE (R5). -/
inductive DeviceState where
  | detached
  | stopped
  | running
  | faulted
  deriving DecidableEq, Repr

/-- STATUS.FAULT_REASON (R7). -/
inductive FaultReason where
  | none
  | noWindow
  | badIdentity
  | badJournal
  | headerFault
  | scanFault
  | slotWriteFault
  | closeFault
  | journalFault
  deriving DecidableEq, Repr

/-- The writable registers of the BAR (R1, R2, R177, R178). ID is constant and STATUS is computed from the state. -/
structure Regs where
  /-- CONTROL.RUN; BOARD_RESET reads 0 at all times. -/
  run : Bool
  baseLo : Word
  baseHi : Word
  windowSize : Word
  irqCause : BitVec 5
  irqMask : BitVec 5
  deriving DecidableEq, Repr

/-- The memory-window bounds the board interface copied at a start (R2, R12). -/
structure Bounds where
  base : Nat
  size : Nat
  deriving DecidableEq, Repr

/-- The memory access a start in progress waits for (R6). -/
inductive StartStep where
  | headerRead
  | requestRead
  | headerWrite
  | shadowWrites
  deriving DecidableEq, Repr

/-- A start in progress: its step, and the header and request area bytes it has read (R6). -/
structure Start where
  step : StartStep
  header : List Byte
  request : List Byte
  deriving DecidableEq, Repr

/-- The board interface's device-level state (R5, R7, R14). -/
structure BoardInterface where
  state : DeviceState
  /-- The fresh-start flag (R5). -/
  fresh : Bool
  start : Option Start
  reason : FaultReason
  /-- STATUS.MODE: the mode taken at the latest successful start. -/
  mode : Option Mode
  bounds : Option Bounds
  /-- The time at which the running scan timer expires. -/
  scanTimer : Option Nat
  scanPending : Bool
  deriving DecidableEq, Repr

/-- The identity settings copied at the latest completed start (R57). -/
structure Identity where
  mode : Mode
  ownNode : Fin 16
  /-- The lead node; not used in LEAD mode and absent there when it names no node. -/
  leadNode : Option (Fin 16)
  journalBase : Nat
  journalSize : Nat
  deriving DecidableEq, Repr

/-! ### Campaign slots (chapter 1) -/

/-- The slot states of 1.5. -/
inductive SlotState where
  | free
  | validating
  | rejected
  | waiting
  | running
  | suspended
  | draining
  | closed
  | sweeping
  deriving DecidableEq, Repr

/-- The reasons of a slot (11.1.3). -/
inductive Reason where
  | none
  | badCount
  | badPointer
  | badWindow
  | followMode
  | memoryFault
  | complete
  | aborted
  | planError
  deriving DecidableEq, Repr

/-- The outcome of the latest request (R16). -/
inductive RequestOutcome where
  | none
  | taken
  | ignored
  deriving DecidableEq, Repr

/-- The latched campaign descriptor (R18). -/
structure Descriptor where
  circuitBase : Nat
  directoryBase : Nat
  verdictBase : Nat
  count : Nat
  windowId : Nat
  priority : Nat
  reach : BitVec 16
  nmax : Nat
  deriving DecidableEq, Repr

/-- The cleared descriptor (R17). -/
def Descriptor.cleared : Descriptor := ⟨0, 0, 0, 0, 0, 0, 0#16, 0⟩

/-- The summary accumulators of a slot (R26, R171). -/
structure Summary where
  codes : Vector Word 12
  bins : Vector Word 16
  outOfReach : Word
  unclassified : Word
  lateDiscard : Word
  deriving DecidableEq, Repr

/-- All accumulators 0 (R26). -/
def Summary.zero : Summary :=
  ⟨Vector.replicate 12 0#32, Vector.replicate 16 0#32, 0#32, 0#32, 0#32⟩

/-- How far the closing writes of R24 have come. -/
inductive ClosePhase where
  /-- The NOT_RUN record of this circuit is in flight. -/
  | notRun (circuit : Nat)
  /-- The summary write is in flight. -/
  | summary
  /-- The closing shadow write is due or in flight. -/
  | shadow
  deriving DecidableEq, Repr

/-- The board interface's internal copy of one campaign slot (1.5). -/
structure Slot where
  state : SlotState
  reason : Reason
  generation : Half
  lastSeq : Half
  outcome : RequestOutcome
  /-- Verdicts written (R25). -/
  verdicts : Nat
  desc : Descriptor
  summary : Summary
  /-- The descriptor read of R18 is in flight (also through an ABORT in VALIDATING, R20). -/
  validating : Bool
  /-- REJECTED was entered and no shadow write showing it has been issued (R177). -/
  announce : Bool
  closing : Option ClosePhase
  /-- The verdicts-written value in the slot's last shadow write (R15). -/
  shadowVerdicts : Nat
  deriving DecidableEq, Repr

/-- A slot after a cold reset (R10). -/
def Slot.cold : Slot :=
  ⟨.free, .none, 0#16, 0#16, .none, 0, Descriptor.cleared, Summary.zero, false, false, none, 0⟩

/-! ### Maintenance windows (chapter 2) -/

/-- The phases of a maintenance window (R27). -/
inductive Phase where
  | opened
  | settling
  | quiet
  deriving DecidableEq, Repr

/-- One maintenance window (R27). -/
structure Window where
  phase : Phase
  settle : Nat
  reopens : Half
  deriving DecidableEq, Repr

/-- A window after a cold or board reset (R27). -/
def Window.cold : Window := ⟨.opened, 0, 0#16⟩

/-! ### Rounds and settings (chapter 3) -/

/-- A tap table entry as read from the settings block (11.1.2). -/
structure RawTap where
  enabled : Bool
  loss : Nat
  first : Nat
  last : Nat
  deriving DecidableEq, Repr

/-- The host-owned half of a peer table entry as read (11.1.2). -/
structure RawPeer where
  configured : Bool
  code : Nat
  deriving DecidableEq, Repr

/-- The contents of a settings block: period, guard, tap table and peer table (3.4). -/
structure Settings where
  period : Nat
  guardTime : Nat
  taps : Vector RawTap 32
  peers : Vector RawPeer 16
  deriving DecidableEq, Repr

/-- The lead state of a follower (R50, R51). -/
inductive LeadState where
  | following
  | leadLost
  deriving DecidableEq, Repr

/-- The last accepted mark: arrival time, period and guard (R48). -/
structure MarkTiming where
  arrival : Nat
  period : Nat
  guardTime : Nat
  deriving DecidableEq, Repr

/-- Where the current round stands between its start and its look deadline (R43, R48). -/
inductive LookPhase where
  /-- No round is in progress, or its look deadline has passed. -/
  | closed
  /-- LOOK_OPEN is scheduled at `openAt`; the deadline is `deadline`. -/
  | scheduled (openAt deadline : Nat)
  /-- LOOK_OPEN has been taken; the deadline is `deadline`. -/
  | opened (deadline : Nat)
  deriving DecidableEq, Repr

/-- The round timer (chapter 3). -/
structure Rounds where
  number : Round
  /-- The settings in force, period and guard derived by R39; `none` when nothing is in force (R40). -/
  inForce : Option Settings
  /-- The lead's scheduled WATCH_ISSUE (R42). -/
  watchAt : Option Nat
  /-- The lead's scheduled next ROUND_START (R42). -/
  nextAt : Option Nat
  /-- The lead waits for its first settings (R41). -/
  awaitFirst : Bool
  phase : LookPhase
  leadState : LeadState
  lastMark : Option MarkTiming
  requested : Option Half
  readPending : Bool
  /-- The staged copy with its sequence (R53). -/
  staged : Option (Half × Settings)
  hold : Bool
  /-- Applied sequence and round (R54). -/
  applied : Option (Half × Round)
  marksTooClose : Word
  marksForeign : Word
  deriving DecidableEq, Repr

/-- The round timer after a cold or board reset (R38, R40, R51, R52, 3.4). -/
def Rounds.cold : Rounds :=
  ⟨0#32, none, none, none, false, .closed, .following, none, none, false, none, false, none, 0#32, 0#32⟩

/-! ### Circuits, probes, launch bus and tones (chapters 4 and 9) -/

/-- The status of a circuit in the circuit status map (R58). -/
inductive CircuitStatus where
  | queued
  | inFlight
  | done
  deriving DecidableEq, Repr

/-- One entry of the circuit status map (R58). -/
structure CircuitEntry where
  status : CircuitStatus
  voids : Nat
  deriving DecidableEq, Repr

/-- The role of a hop (11.2.1). -/
inductive Role where
  | through
  | drop
  | guarded
  deriving DecidableEq, Repr

/-- A hop entry that passed the checks, clamped at fetch (R60). -/
structure Hop where
  loc : Location
  role : Role
  powerCheck : Bool
  expected : Int
  tolLow : Int
  tolHigh : Int
  budget : Int
  gain : Int
  deriving DecidableEq, Repr

/-- A circuit record that passed the checks, clamped at fetch (R60). -/
structure Circuit where
  id : Word
  point : Byte
  depth : Nat
  looks : Nat
  spread : Int
  hops : List Hop
  /-- Nmax_eff (R60). -/
  nmaxEff : Nat
  deriving DecidableEq, Repr

/-- A place of a ready stage (4.2). -/
inductive Place where
  | empty
  | fetching (circuit : Nat)
  | fetched (circuit : Nat) (record : Circuit)
  deriving DecidableEq, Repr

/-- The probe scheduler's state of one campaign slot: the circuit status map (a canonical list; an unlisted index is QUEUED
with void count 0) and the ready stage (R58, R59). -/
structure SlotSchedule where
  circuits : List (Nat × CircuitEntry)
  stage : Vector Place 2
  deriving DecidableEq, Repr

/-- An empty schedule (R58, R61). -/
def SlotSchedule.cold : SlotSchedule := ⟨[], Vector.replicate 2 .empty⟩

/-- The value of a stored look (R153). -/
inductive LookValue where
  | power (p : Int)
  | dark
  | over
  | noLevel
  | empty
  deriving DecidableEq, Repr

/-- A stored look (R153). -/
structure StoredLook where
  round : Round
  value : LookValue
  deriving DecidableEq, Repr

/-- A hop accumulator (R153). -/
structure Accumulator where
  looksDone : Nat
  looksSeen : Nat
  stored : List StoredLook
  foundOnly : Bool
  overload : Bool
  clamped : Bool
  deriving DecidableEq, Repr

/-- An emptied accumulator (R153). -/
def Accumulator.empty : Accumulator := ⟨0, 0, [], false, false, false⟩

/-- The states of a probe that holds a record (chapter 4). -/
inductive ProbeState where
  | launching
  | armed
  | listening
  | grace
  | evaluating
  deriving DecidableEq, Repr

/-- The cause of a launch fault (R75, R78). -/
inductive LaunchCause where
  | nack
  | timeout
  | fault
  deriving DecidableEq, Repr

/-- A probe record (R64, R153). -/
structure Probe where
  state : ProbeState
  slot : Fin 8
  generation : Half
  circuit : Nat
  record : Circuit
  tone : Fin 48
  ctx : Fin 8
  voids : Nat
  accums : List Accumulator
  listenFrom : Option Round
  lastListen : Option Round
  roundsListened : Nat
  launchFault : Option LaunchCause
  /-- The cross finding with the other circuit's index (R149). -/
  cross : Option Nat
  /-- The misroute finding with its first location (R149). -/
  misroute : Option Location
  /-- The leak finding with its hop (R154). -/
  leak : Option Nat
  /-- False once a GRACE probe's point is stuck (R69). -/
  holdsPoint : Bool
  deriving DecidableEq, Repr

/-- The probe table (R81) with its admission order (R64) and the admission pointer (R63). -/
structure ProbeTable where
  records : Vector (Option Probe) 16
  order : List (Fin 16)
  pointer : Fin 8
  deriving DecidableEq, Repr

/-- The probe table after a cold or board reset (R81). -/
def ProbeTable.cold : ProbeTable := ⟨Vector.replicate 16 none, [], 7⟩

/-- The states of a launch context (R67). -/
inductive ContextState where
  | idle
  | arming
  | on
  | stopping
  deriving DecidableEq, Repr

/-- A launch context (R67). `timer` is the expiry time of a running reply timer. -/
structure Context where
  state : ContextState
  owner : Option (Fin 16)
  point : Byte
  tone : Fin 48
  timer : Option Nat
  deriving DecidableEq, Repr

/-- A context after a cold or board reset (R71). -/
def Context.cold : Context := ⟨.idle, none, 0#8, 0, none⟩

/-- A command on the launch bus (R66); `ctx` is the context whose command it is, none for the STOPs of a board reset. -/
inductive BusCommand where
  | launch (point : Byte) (tone : Fin 48) (depth : Nat) (ctx : Option (Fin 8))
  | stop (point : Byte) (ctx : Option (Fin 8))
  | stopAll
  deriving DecidableEq, Repr

/-- An entry of the stuck list (R69). -/
structure StuckEntry where
  point : Byte
  tone : Fin 48
  deriving DecidableEq, Repr

/-- The launch controller (R66, R67, R69): contexts, the command being sent, the commands waiting, the stuck list. -/
structure Launch where
  contexts : Vector Context 8
  sending : Option BusCommand
  waiting : List BusCommand
  stuck : List StuckEntry
  /-- The commands issued in the step in progress, in ascending context number; the step's end sends them (R66). -/
  issued : List BusCommand
  deriving DecidableEq, Repr

/-- The launch controller as a cold reset leaves it: STOP_ALL is the first command on the bus (R71). -/
def Launch.cold : Launch := ⟨Vector.replicate 8 Context.cold, some .stopAll, [], [], []⟩

/-- The holder status of a quarantine record (R73). -/
inductive HolderStatus where
  | grace
  | ended
  | voided
  | none
  deriving DecidableEq, Repr

/-- A quarantine record (R73). -/
structure Quarantine where
  release : Round
  holder : Option (Fin 16)
  status : HolderStatus
  lastListen : Option Round
  stopConfirmed : Bool
  deriving DecidableEq, Repr

/-- The state of a tone (R72). -/
inductive ToneState where
  | free
  | held (record : Fin 16)
  | quarantined (q : Quarantine)
  | stuck
  deriving DecidableEq, Repr

/-! ### Local taps and looks (chapter 5) -/

/-- A tap table entry as the array holds it, clamped by R82. -/
structure Tap where
  enabled : Bool
  loss : Nat
  first : Fin 96
  last : Fin 96
  deriving DecidableEq, Repr

/-- A watch at the local node: a port, a slot and a tone (R85). -/
structure Watch where
  port : Fin 32
  slot : Fin 96
  tone : Fin 48
  deriving DecidableEq, Repr

/-- A watched entry of the look plan not yet begun (5.5). -/
structure PlanEntry where
  port : Fin 32
  slot : Fin 96
  tones : List (Fin 48)
  deriving DecidableEq, Repr

/-- A look in progress (5.2): `tones` is the tone set of a watched look, none for a sweep look. -/
structure Look where
  port : Fin 32
  slot : Fin 96
  tones : Option (List (Fin 48))
  round : Round
  loss : Nat
  endAt : Nat
  deriving DecidableEq, Repr

/-- A sighting, local or from a peer (R93, R109). `level` is the level code of a found sighting and none for EMPTY. -/
structure Sighting where
  source : Option (Fin 16)
  round : Round
  loc : Location
  tone : Fin 48
  level : Option Nat
  loss : Nat
  capLevel : Bool
  capEmpty : Bool
  deriving DecidableEq, Repr

/-- The state of a detector (5.2). -/
inductive Detector where
  | idle
  | looking (look : Look)
  | holding (held : List Sighting)
  deriving DecidableEq, Repr

/-- The tap detector array (chapter 5) with the watch builder's local list (R86). -/
structure TapArray where
  table : Option (Vector Tap 32)
  detectors : Vector Detector 4
  /-- Plan entries not yet begun, in the order detectors take them (5.5). -/
  plan : List PlanEntry
  watched : List (Fin 32 × Fin 96)
  cursor : Option (Fin 32 × Fin 96)
  /-- The first position drawn in the round (R91). -/
  sweepFirst : Option (Fin 32 × Fin 96)
  /-- No further sweep look is drawn in the round (R91). -/
  sweepOver : Bool
  /-- The local watch list of the latest WATCH_ISSUE (lead, R86). -/
  localWatches : List Watch
  /-- The watches a follower holds for the round (R88). -/
  heldWatches : List Watch
  deriving DecidableEq, Repr

/-- The array after a cold or board reset (R82, R91, R96). -/
def TapArray.cold : TapArray := ⟨none, Vector.replicate 4 .idle, [], [], none, none, false, [], []⟩

/-! ### The supervisory link (chapter 6) -/

/-- The peer states (R103). -/
inductive PeerState where
  | absent
  | unknown
  | present
  | silent
  deriving DecidableEq, Repr

/-- A follower state carried by a HELLO (6.2). -/
inductive FollowerState where
  | joining
  | steady
  deriving DecidableEq, Repr

/-- A withdrawn-pending credit block (6.7): an amount and a return round. -/
structure CreditBlock where
  amount : Nat
  due : Round
  deriving DecidableEq, Repr

/-- What the lead keeps for one node (chapter 6). -/
structure Peer where
  configured : Bool
  target : Nat
  state : PeerState
  silence : Nat
  capLevel : Bool
  capEmpty : Bool
  /-- The hello state; none when no HELLO has been taken (R104). -/
  hello : Option FollowerState
  reserve : Nat
  lent : Nat
  blocks : List CreditBlock
  arrived : Half
  /-- The backlog reported in the round in progress (R109). -/
  report : Option Nat
  malformed : Word
  violations : Word
  deriving DecidableEq, Repr

/-- A peer after a cold or board reset (R101, R103, R105, R115). -/
def Peer.cold : Peer :=
  ⟨false, 0, .absent, 0, false, false, none, 0, 0, [], 0#16, none, 0#32, 0#32⟩

/-- A frame in the lead's transmit queue (R106). -/
inductive TxFrame where
  | mark (round : Round) (period guardTime : Nat) (grants : Vector Half 16)
  | watchList (dest : Fin 16) (round : Round) (entries : List Watch)
  deriving DecidableEq, Repr

/-- The lead's link state (R115) and the transmit queue (R106). -/
structure LeadLink where
  peers : Vector Peer 16
  pool : Nat
  /-- The lending pointer (R113). -/
  pointer : Fin 16
  transmit : List TxFrame
  deriving DecidableEq, Repr

/-- The lead's link state after a cold or board reset (R115). -/
def LeadLink.cold : LeadLink := ⟨Vector.replicate 16 Peer.cold, 64, 15, []⟩

/-- The follower's link state (R121). -/
structure FollowerLink where
  hold : List Sighting
  sent : Half
  grant : Option Half
  hello : Option FollowerState
  helloCount : Nat
  shed : Word
  malformed : Word
  /-- The expiry time of a running lead-lost timer (R50). -/
  leadLostAt : Option Nat
  deriving DecidableEq, Repr

/-- The follower's link state after a cold or board reset (R120, R121). -/
def FollowerLink.cold : FollowerLink := ⟨[], 0#16, none, none, 0, 0#32, 0#32, none⟩

/-! ### Location translation (chapter 7) and sighting classification (chapter 8) -/

/-- An answer of the LTB: EXPECT with circuit, hop, role byte as read and POWER_CHECK, or NONE (R125, R128). -/
inductive Answer where
  | expect (circuit hop : Nat) (role : Byte) (powerCheck : Bool)
  | nothing
  deriving DecidableEq, Repr

/-- A valid LTB entry: its tag and its answer (7.4). -/
structure LtbEntry where
  tag : Location
  answer : Answer
  deriving DecidableEq, Repr

/-- One LTB area: the valid entries keyed 2 × index + way (way A = 0, B = 1), as a canonical list in which an unlisted
key is an invalid entry; the 64 replacement toggles, a set bit naming way B; the sweep counter (7.4, R133). -/
structure Area where
  entries : List (Nat × LtbEntry)
  toggles : BitVec 64
  sweep : Option Nat
  deriving DecidableEq, Repr

/-- An area after a cold or board reset (R132, R133). -/
def Area.cold : Area := ⟨[], 0#64, none⟩

/-- The read a walk has in flight (7.5); a FREE record is an absent one. -/
inductive WalkState where
  | node
  | port
  | slot
  | circuit
  deriving DecidableEq, Repr

/-- A walk record that is not FREE (7.5). Its parked sightings are the queue entries whose parked mark names it. -/
structure Walk where
  state : WalkState
  area : Fin 8
  generation : Half
  key : Location
  portTable : Nat
  slotTable : Nat
  circuit : Nat
  hop : Nat
  deriving DecidableEq, Repr

/-- The memo of a queue entry that was presented to the classifier (R137). -/
structure Memo where
  record : Fin 16
  slot : Fin 8
  generation : Half
  circuit : Nat
  deriving DecidableEq, Repr

/-- An entry of the sighting queue (R137); `parked` names the walk record it waits on. -/
structure QueueEntry where
  sighting : Sighting
  parked : Option (Fin 4)
  memo : Option Memo
  deriving DecidableEq, Repr

/-- The sighting queue, whether the classifier is stalled, and its header counters (R137, R140, R152). -/
structure Classifier where
  queue : List QueueEntry
  stalled : Bool
  stale : Word
  lateTone : Word
  stray : Word
  deriving DecidableEq, Repr

/-- The classifier after a cold or board reset (R139, R152). -/
def Classifier.cold : Classifier := ⟨[], false, 0#32, 0#32, 0#32⟩

/-! ### Journal (chapter 10) -/

/-- The journal entry kinds (11.2.4). -/
inductive JournalKind where
  | stray
  | misroute
  | cross
  | leak
  | creditViolation
  | malformed
  | launchFault
  | launchStuck
  | stuckCleared
  | planError
  | markIgnored
  | leadLost
  | peerSilent
  deriving DecidableEq, Repr

/-- A journal entry request with its round stamp; a field its kind does not use is 0 (11.2.4, log entry 22). -/
structure JournalEntry where
  kind : JournalKind
  stamp : Round
  node : Byte
  slot : Nat
  tone : Nat
  generation : Half
  circuit : Nat
  second : Nat
  loc : Location
  code : Nat
  level : Nat
  round : Round
  deriving DecidableEq, Repr

/-- A key of the round's coalescing memory (R173). -/
inductive CoalesceKey where
  | stray (tone : Nat)
  | malformed (source : Byte)
  | creditViolation (peer : Byte)
  | markIgnored (source : Byte) (reason : Nat)
  | planError (slot : Nat)
  deriving DecidableEq, Repr

/-- The ring given to the journal writer by the latest completed start (R172). -/
structure Ring where
  base : Nat
  size : Nat
  deriving DecidableEq, Repr

/-- The journal writer (R172). `usable` is false while DETACHED and from a board reset until a start completes. -/
structure Journal where
  ring : Option Ring
  usable : Bool
  produced : Word
  consumed : Word
  overflow : Word
  notified : Bool
  requests : List JournalEntry
  memory : List CoalesceKey
  /-- A consumed read waits behind the one in flight (R175). -/
  readPending : Bool
  deriving DecidableEq, Repr

/-- The journal writer after a cold reset (R172). -/
def Journal.cold : Journal := ⟨none, false, 0#32, 0#32, 0#32, false, [], [], false⟩

/-! ### Board accesses (1.3, R180) -/

/-- The structures kept current by coalesced writes: at most one in flight each, a further one owed (R25, R32, R52, R55,
R105, R120, R152, R174). -/
inductive Channel where
  | shadow (slot : Fin 8)
  | window (w : Fin 4)
  | peer (node : Fin 16)
  | markCounters
  | linkCounters
  | sightingCounters
  | acknowledgment
  | produced
  deriving DecidableEq, Repr

/-- What a board access is for (R180), with what its completion needs. -/
inductive AccessKind where
  | startHeaderRead
  | startRequestRead
  | startHeaderWrite
  | startShadowWrite (slot : Fin 8)
  | scanRead
  | descriptorRead (slot : Fin 8)
  /-- A coalesced write; for a shadow write: is it the closing write of R24, does it first show REJECTED. -/
  | channelWrite (ch : Channel) (closing announces : Bool)
  | notRunWrite (slot : Fin 8) (circuit : Nat)
  | summaryWrite (slot : Fin 8)
  /-- The settings read issued for a sequence (R53). -/
  | settingsRead (seq : Half)
  | journalWrite
  | consumedRead
  | circuitFetch (slot : Fin 8) (place : Fin 2) (circuit : Nat)
  /-- A verdict record write, with the probe record to free, the primary code and the worst margin (R170, R171). -/
  | verdictWrite (slot : Fin 8) (generation : Half) (circuit : Nat) (record : Option (Fin 16)) (code : Fin 12)
      (margin : Option Int)
  | walkRead (walk : Fin 4)
  deriving DecidableEq, Repr

/-- A board access: its tag, its purpose, its extent, the bytes of a write, whether its completion is to be discarded,
and whether it belongs to a start in progress. -/
structure Access where
  tag : Nat
  kind : AccessKind
  addr : Nat
  len : Nat
  data : List Byte
  discarded : Bool
  ofStart : Bool
  deriving DecidableEq, Repr

/-- The board accesses: those in flight, those refused by R12 whose failure is being handled within a step, the channels
that owe a write behind the one in flight, and those of them that owe it for the start in progress alone (R7). -/
structure Dma where
  inFlight : List Access
  nextTag : Nat
  refused : List Access
  owed : List Channel
  startOwed : List Channel
  deriving DecidableEq, Repr

/-- No access made yet. -/
def Dma.cold : Dma := ⟨[], 0, [], [], []⟩

/-! ### The whole machine -/

/-- Everything inside the part. -/
structure Device where
  /-- The model's clock in ms (log entry 1). -/
  now : Nat
  /-- The detectors' factory offsets, fixed in fuses, signed −32..+31 (R83). -/
  fuses : Vector (BitVec 6) 4
  regs : Regs
  iface : BoardInterface
  identity : Option Identity
  slots : Vector Slot 8
  sched : Vector SlotSchedule 8
  windows : Vector Window 4
  rounds : Rounds
  probes : ProbeTable
  launch : Launch
  tones : Vector ToneState 48
  taps : TapArray
  lead : LeadLink
  follower : FollowerLink
  /-- The latest frame handed to the framer, byte for byte (R98). -/
  framer : Option (List Byte)
  areas : Vector Area 8
  walks : Vector (Option Walk) 4
  classifier : Classifier
  journal : Journal
  dma : Dma
  deriving DecidableEq, Repr

/-- The registers after a cold reset (R1, R178). -/
def Regs.cold : Regs := ⟨false, 0#32, 0#32, 0#32, 0#5, 0#5⟩

/-- The board interface after a cold reset (R10). -/
def BoardInterface.cold : BoardInterface :=
  ⟨.detached, true, none, .none, none, none, none, false⟩

/-- The part after a cold reset. The factory offsets are the fuses' and are 0 here (log entry 3). -/
def Device.cold : Device where
  now := 0
  fuses := Vector.replicate 4 0#6
  regs := Regs.cold
  iface := BoardInterface.cold
  identity := none
  slots := Vector.replicate 8 Slot.cold
  sched := Vector.replicate 8 SlotSchedule.cold
  windows := Vector.replicate 4 Window.cold
  rounds := Rounds.cold
  probes := ProbeTable.cold
  launch := Launch.cold
  tones := Vector.replicate 48 .free
  taps := TapArray.cold
  lead := LeadLink.cold
  follower := FollowerLink.cold
  framer := none
  areas := Vector.replicate 8 Area.cold
  walks := Vector.replicate 4 none
  classifier := Classifier.cold
  journal := Journal.cold
  dma := Dma.cold

/-- The state: the commands waiting, first in first out; the board bytes the part has written, as a canonical list
(addresses strictly rising; an unlisted address is a byte the part has not written); the part itself. -/
structure State where
  pending : List Instr
  board : List Host.Cell
  dev : Device
  deriving DecidableEq, Repr

/-- The machine right after a cold reset: no command waits and the part has written nothing to the board (R10). -/
def State.reset : State := ⟨[], [], Device.cold⟩

end Sys2Proof.Machine
end

