-- ==== Sys2Proof/Machine/Ops.lean ====
section
/-! DEFINITION. The named operations over the state's containers: canonical lists keyed by numbers (board bytes, the
circuit status map, LTB entries), vectors indexed by a unit's number, and one update per indexed part of the device. -/

namespace Sys2Proof.Machine

/-! ### Canonical lists: keys strictly rising -/

/-- The value listed under a key. -/
def Sparse.get {α : Type} : List (Nat × α) → Nat → Option α
  | [], _ => none
  | (k, v) :: rest, q => if q = k then some v else Sparse.get rest q

/-- List a value under a key, in the key's place. -/
def Sparse.put {α : Type} : List (Nat × α) → Nat → α → List (Nat × α)
  | [], q, x => [(q, x)]
  | (k, v) :: rest, q, x =>
    if q < k then (q, x) :: (k, v) :: rest
    else if q = k then (k, x) :: rest
    else (k, v) :: Sparse.put rest q x

/-- List nothing under a key. -/
def Sparse.erase {α : Type} : List (Nat × α) → Nat → List (Nat × α)
  | [], _ => []
  | (k, v) :: rest, q => if q = k then rest else (k, v) :: Sparse.erase rest q

/-- The canonical form: keys strictly rising. -/
def Sparse.rising {α : Type} : List (Nat × α) → Bool
  | [] => true
  | [_] => true
  | (k, _) :: (j, w) :: rest => decide (k < j) && Sparse.rising ((j, w) :: rest)

/-! ### Board memory: the bytes the part has written -/

/-- The byte the part last wrote at an address; none where it has written nothing. -/
def Memory.read (m : List Host.Cell) (a : Nat) : Option Byte := Sparse.get m a

/-- Write consecutive bytes from an address upward. -/
def Memory.write : List Host.Cell → Nat → List Byte → List Host.Cell
  | m, _, [] => m
  | m, a, b :: bs => Memory.write (Sparse.put m a b) (a + 1) bs

/-- The board memory has its canonical form. -/
def Memory.wf (m : List Host.Cell) : Bool := Sparse.rising m

/-! ### Vectors -/

/-- Every element replaced by a function of its index and itself. -/
def mapVec {α β : Type} {n : Nat} (f : Fin n → α → β) (v : Vector α n) : Vector β n :=
  ⟨⟨(List.finRange n).map (fun i => f i v[i])⟩, by simp⟩

/-! ### Updates of the device's indexed parts -/

/-- Replace one campaign slot. -/
def Device.setSlot (d : Device) (n : Fin 8) (x : Slot) : Device := { d with slots := d.slots.set n x }

/-- Replace one slot's schedule. -/
def Device.setSched (d : Device) (n : Fin 8) (x : SlotSchedule) : Device := { d with sched := d.sched.set n x }

/-- Replace one place of a slot's ready stage. -/
def Device.setPlace (d : Device) (n : Fin 8) (p : Fin 2) (x : Place) : Device :=
  d.setSched n { d.sched[n] with stage := d.sched[n].stage.set p x }

/-- Replace one maintenance window. -/
def Device.setWindow (d : Device) (w : Fin 4) (x : Window) : Device := { d with windows := d.windows.set w x }

/-- Replace one probe record. -/
def Device.setRecord (d : Device) (r : Fin 16) (x : Option Probe) : Device :=
  { d with probes := { d.probes with records := d.probes.records.set r x } }

/-- Replace one launch context. -/
def Device.setContext (d : Device) (c : Fin 8) (x : Context) : Device :=
  { d with launch := { d.launch with contexts := d.launch.contexts.set c x } }

/-- Replace one tone's state. -/
def Device.setTone (d : Device) (t : Fin 48) (x : ToneState) : Device := { d with tones := d.tones.set t x }

/-- Replace one detector's state. -/
def Device.setDetector (d : Device) (i : Fin 4) (x : Detector) : Device :=
  { d with taps := { d.taps with detectors := d.taps.detectors.set i x } }

/-- Replace one peer's state. -/
def Device.setPeer (d : Device) (p : Fin 16) (x : Peer) : Device :=
  { d with lead := { d.lead with peers := d.lead.peers.set p x } }

/-- Replace one LTB area. -/
def Device.setArea (d : Device) (n : Fin 8) (x : Area) : Device := { d with areas := d.areas.set n x }

/-- Replace one walk record. -/
def Device.setWalk (d : Device) (w : Fin 4) (x : Option Walk) : Device := { d with walks := d.walks.set w x }

/-- Replace the sighting queue. -/
def Device.setQueue (d : Device) (q : List QueueEntry) : Device :=
  { d with classifier := { d.classifier with queue := q } }

/-! ### The circuit status map (R58) -/

/-- The entry an unlisted index stands for: QUEUED, never voided. -/
def CircuitEntry.fresh : CircuitEntry := ⟨.queued, 0⟩

/-- A circuit's entry in a slot's map. -/
def circuitEntry (d : Device) (n : Fin 8) (c : Nat) : CircuitEntry :=
  (Sparse.get d.sched[n].circuits c).getD CircuitEntry.fresh

/-- Replace a circuit's entry, keeping the map's canonical form. -/
def setCircuit (d : Device) (n : Fin 8) (c : Nat) (e : CircuitEntry) : Device :=
  d.setSched n { d.sched[n] with
    circuits := if e = CircuitEntry.fresh then Sparse.erase d.sched[n].circuits c
      else Sparse.put d.sched[n].circuits c e }

/-! ### Common readings -/

/-- The device is RUNNING. -/
def Device.running (d : Device) : Bool := d.iface.state == .running

/-- The device is RUNNING in LEAD mode. -/
def Device.leading (d : Device) : Bool := d.running && d.iface.mode == some .lead

/-- The device is RUNNING in FOLLOW mode. -/
def Device.following (d : Device) : Bool := d.running && d.iface.mode == some .follow

/-- The own node of the identity settings in force (R57). -/
def Device.ownNode (d : Device) : Fin 16 := (d.identity.map (·.ownNode)).getD 0

/-- The clock moved forward to a time, never back (log entry 1). -/
def Device.advance (d : Device) (t : Nat) : Device := { d with now := max d.now t }

/-- The number of a peer's sightings the queue holds, in_queue_p (R111). -/
def inQueue (d : Device) (p : Fin 16) : Nat :=
  d.classifier.queue.countP (fun e => e.sighting.source == some p)

/-- The number of local sightings the queue holds: the filled part of the local share (R137). -/
def localCount (d : Device) : Nat :=
  d.classifier.queue.countP (fun e => e.sighting.source == none)

/-- A peer's withdrawn-pending credit W_p (6.7). -/
def Peer.withdrawn (p : Peer) : Nat := (p.blocks.map (·.amount)).sum

end Sys2Proof.Machine
end

