-- ==== Sys2Proof/Machine/Operands.lean ====
section
/-! DEFINITION. The operand forms: little-endian fields, and the decoding of every host-owned structure and every received
frame body the part reads (chapter 11, R179, R181). A byte beyond the end of the data given reads as 0 (log entry 5). -/

namespace Sys2Proof.Machine

/-! ### Little-endian fields (3.4, chapter 11) -/

/-- The byte at an offset. -/
def byteAt (b : List Byte) (i : Nat) : Byte := b.getD i 0#8

/-- An unsigned 8-bit field. -/
def u8 (b : List Byte) (i : Nat) : Nat := (byteAt b i).toNat

/-- A 16-bit field. -/
def half (b : List Byte) (i : Nat) : Half := byteAt b (i + 1) ++ byteAt b i

/-- A 32-bit field. -/
def word (b : List Byte) (i : Nat) : Word := half b (i + 2) ++ half b i

/-- An unsigned 16-bit field. -/
def u16 (b : List Byte) (i : Nat) : Nat := (half b i).toNat

/-- An unsigned 32-bit field. -/
def u32 (b : List Byte) (i : Nat) : Nat := (word b i).toNat

/-- An unsigned 64-bit field: a board pointer. -/
def u64 (b : List Byte) (i : Nat) : Nat := u32 b i + 2 ^ 32 * u32 b (i + 4)

/-- A signed 16-bit field, two's complement. -/
def s16 (b : List Byte) (i : Nat) : Int := (half b i).toInt

/-- One bit of the byte at an offset. -/
def bitAt (b : List Byte) (i j : Nat) : Bool := (byteAt b i).getLsbD j

/-- A value clamped into a range (3.1). -/
def clampNat (lo hi x : Nat) : Nat := max lo (min hi x)

/-- A signed value clamped into a range (3.1). -/
def clampInt (lo hi x : Int) : Int := max lo (min hi x)

/-- A number as an index below `n`, if it is one. -/
def index? (n x : Nat) : Option (Fin n) := if h : x < n then some ⟨x, h⟩ else none

/-- A location from its three numbers, if each is in range (3.5). -/
def location? (node port slot : Nat) : Option Location :=
  match index? 16 node, index? 32 port, index? 96 slot with
  | some a, some b, some c => some ⟨a, b, c⟩
  | _, _, _ => none

/-! ### The memory window (R12) -/

/-- An access of `n` bytes at address `a` lies inside the bounds (R12). -/
def inWindow (bounds : Option Bounds) (a n : Nat) : Bool :=
  match bounds with
  | none => false
  | some w => decide (w.base ≤ a) && decide (a + n ≤ w.base + w.size)

/-! ### Board header (11.1.1) -/

/-- A mode byte (R179). -/
def mode? (x : Nat) : Option Mode :=
  if x = 1 then some .lead else if x = 2 then some .follow else none

/-- The identity settings of a header, when the identity check of start step 3 passes (R6). The journal fields are as read. -/
def identity? (h : List Byte) : Option Identity :=
  match mode? (u8 h 4), index? 16 (u8 h 5) with
  | some .lead, some own => some ⟨.lead, own, index? 16 (u8 h 6), u64 h 8, u32 h 0x10⟩
  | some .follow, some own =>
    match index? 16 (u8 h 6) with
    | some lead => if lead = own then none else some ⟨.follow, own, some lead, u64 h 8, u32 h 0x10⟩
    | none => none
  | _, _ => none

/-- The journal check of start step 3 (R6). -/
def journalOk (bounds : Option Bounds) (i : Identity) : Bool :=
  i.journalBase != 0 && i.journalBase % 16 == 0 && decide (64 ≤ i.journalSize) && decide (i.journalSize ≤ 4096) &&
    inWindow bounds i.journalBase (i.journalSize * Config.journalEntryBytes)

/-! ### Request area (11.1.2; offsets from 0x0100) -/

/-- The settings sequence. -/
def areaSequence (r : List Byte) : Half := half r 0

/-- The HOLD flag. -/
def areaHold (r : List Byte) : Bool := bitAt r 2 0

/-- A window's want is CLOSED (R28): every other value is OPEN. -/
def wantClosed (r : List Byte) (w : Fin 4) : Bool := u8 r (0x10 + 16 * w.val) == 1

/-- A window's hold-off, clamped to 63 (R28). -/
def holdOff (r : List Byte) (w : Fin 4) : Nat := min (u8 r (0x11 + 16 * w.val)) 63

/-- The kinds of a slot request (R16). -/
inductive RequestKind where
  | submit
  | abort
  | release
  | other
  deriving DecidableEq, Repr

/-- The sequence of a slot request word. -/
def requestSequence (r : List Byte) (n : Fin 8) : Half := half r (0x50 + 4 * n.val)

/-- The kind of a slot request word; NONE and an unlisted value are one kind (R16). -/
def requestKind (r : List Byte) (n : Fin 8) : RequestKind :=
  match u8 r (0x52 + 4 * n.val) with
  | 1 => .submit
  | 2 => .abort
  | 3 => .release
  | _ => .other

/-! ### Settings block (11.1.2; offsets from 0x0100) -/

/-- The staged settings a settings read brings back (R53). -/
def settingsOf (b : List Byte) : Settings where
  period := u16 b 0x80
  guardTime := u16 b 0x82
  taps := mapVec (fun t _ => ⟨bitAt b (0x100 + 8 * t.val) 0, u16 b (0x102 + 8 * t.val), u8 b (0x104 + 8 * t.val),
    u8 b (0x105 + 8 * t.val)⟩) (Vector.replicate 32 ())
  peers := mapVec (fun p _ => ⟨bitAt b (0x200 + 32 * p.val) 0, u8 b (0x201 + 32 * p.val)⟩) (Vector.replicate 16 ())

/-- The period in force from a staged period (R39). -/
def derivePeriod (p : Nat) : Nat := clampNat 100 2000 (p / 10 * 10)

/-- The guard in force from a staged guard and the period just derived (R39). -/
def deriveGuard (period g : Nat) : Nat :=
  let g' := clampNat 10 500 (g / 10 * 10)
  if 2 * g' > period then period / 2 / 10 * 10 else g'

/-- A tap table entry clamped by R82. -/
def clampTap (t : RawTap) : Tap :=
  ⟨t.enabled, min t.loss 250, ⟨min t.first 95, by omega⟩, ⟨min t.last 95, by omega⟩⟩

/-- The credits of a reserved credit code; a code above 4 is taken as 4 (R101). -/
def codeCredits (code : Nat) : Nat :=
  match code with
  | 0 => 0
  | 1 => 4
  | 2 => 8
  | 3 => 16
  | _ => 32

/-! ### Campaign descriptor (11.1.3, R18) -/

/-- A descriptor as read, its priority and round limit clamped as latched (R18). -/
def descriptorOf (b : List Byte) : Descriptor where
  circuitBase := u64 b 0
  directoryBase := u64 b 8
  verdictBase := u64 b 0x10
  count := u16 b 0x18
  windowId := u8 b 0x1A
  priority := min (u8 b 0x1B) 3
  nmax := clampNat 1 32 (u8 b 0x1E)
  reach := half b 0x1C

/-- A pointer is non-zero, a multiple of 16, and its structure of `n` bytes lies inside the window (R18, R123). -/
def pointerOk (bounds : Option Bounds) (p n : Nat) : Bool :=
  p != 0 && p % 16 == 0 && inWindow bounds p n

/-- The checks of validation in their order (R18): the reason of the first that fails. -/
def descriptorFault (bounds : Option Bounds) (x : Descriptor) : Option Reason :=
  if x.count < 1 ∨ x.count > 4096 then some .badCount
  else if ¬(x.windowId < 4 ∨ x.windowId = 7) then some .badWindow
  else if pointerOk bounds x.circuitBase (x.count * Config.circuitBytes) &&
      pointerOk bounds x.verdictBase (x.count * Config.verdictBytes) &&
      (x.directoryBase == 0 || pointerOk bounds x.directoryBase 128) then none
  else some .badPointer

/-! ### Circuit record (11.2.1, R60) -/

/-- A role byte; above 2 is no role (11.2.1). -/
def role? (x : Nat) : Option Role :=
  match x with
  | 0 => some .through
  | 1 => some .drop
  | 2 => some .guarded
  | _ => none

/-- The role byte of a role. -/
def Role.code : Role → Byte
  | .through => 0#8
  | .drop => 1#8
  | .guarded => 2#8

/-- Hop entry h of a circuit record, when it passes checks 3 and 4 of R60, clamped. -/
def hop? (reach : BitVec 16) (b : List Byte) (h : Nat) : Option Hop :=
  let o := 16 + 16 * h
  match location? (u8 b o) (u8 b (o + 1)) (u8 b (o + 2)), role? (u8 b (o + 3)) with
  | some loc, some role =>
    if reach.getLsbD loc.node.val then
      some { loc := loc, role := role, powerCheck := bitAt b (o + 4) 0
             expected := clampInt (-500) 200 (s16 b (o + 6))
             tolLow := clampInt 0 100 (s16 b (o + 8)), tolHigh := clampInt 0 100 (s16 b (o + 10))
             budget := clampInt 0 400 (s16 b (o + 12)), gain := clampInt 0 300 (s16 b (o + 14)) }
    else none
  | _, _ => none

/-- All of a list of options, when none is missing. -/
def allSome {α : Type} : List (Option α) → Option (List α)
  | [] => some []
  | none :: _ => none
  | some x :: rest => (allSome rest).map (x :: ·)

/-- The circuit-level checks at fetch and the clamps that follow them (R60): none when a check fails. -/
def circuit? (reach : BitVec 16) (nmax : Nat) (b : List Byte) : Option Circuit :=
  let count := u8 b 7
  let depth := u8 b 5
  let looks := clampNat 1 8 (u8 b 6)
  if count < 1 ∨ count > 16 ∨ depth < 1 ∨ depth > 3 then none
  else
    match allSome ((List.range count).map (hop? reach b)) with
    | none => none
    | some hops =>
      if hops.all (fun h => h.role == .guarded) then none
      else if (hops.map (·.loc)).Nodup then
        some { id := word b 0, point := byteAt b 4, depth := depth, looks := looks
               spread := (min (u8 b 8) 100 : Nat), hops := hops, nmaxEff := max nmax looks }
      else none

/-! ### Received frames (11.3, R99, R181) -/

/-- A ROUND_MARK body. -/
structure MarkBody where
  round : Round
  period : Nat
  guardTime : Nat
  grants : Vector Half 16
  deriving DecidableEq, Repr

/-- A ROUND_MARK body when its length and every field are in range (R99, R181). -/
def markBody? (b : List Byte) : Option MarkBody :=
  let p := u16 b 4
  let g := u16 b 6
  if b.length = 40 ∧ 100 ≤ p ∧ p ≤ 2000 ∧ p % 10 = 0 ∧ g % 10 = 0 ∧ 10 ≤ g ∧ 2 * g ≤ p then
    some ⟨word b 0, p, g, mapVec (fun n _ => half b (8 + 2 * n.val)) (Vector.replicate 16 ())⟩
  else none

/-- One entry of a WATCH_LIST body, when its fields are in range. -/
def watchEntry? (b : List Byte) (i : Nat) : Option Watch :=
  match index? 32 (u8 b (5 + 3 * i)), index? 96 (u8 b (6 + 3 * i)), index? 48 (u8 b (7 + 3 * i)) with
  | some p, some s, some t => some ⟨p, s, t⟩
  | _, _, _ => none

/-- A WATCH_LIST body, its round and entries, when its length and every field are in range (R99, R181). -/
def watchListBody? (b : List Byte) : Option (Round × List Watch) :=
  let count := u8 b 4
  if b.length < 5 ∨ count < 1 ∨ count > 64 ∨ b.length ≠ 5 + 3 * count then none
  else (allSome ((List.range count).map (watchEntry? b))).map (fun es => (word b 0, es))

/-- A SIGHTING body. -/
structure SightingBody where
  round : Round
  port : Fin 32
  slot : Fin 96
  tone : Fin 48
  level : Option Nat
  loss : Nat
  backlog : Nat
  deriving DecidableEq, Repr

/-- A SIGHTING body when its length and every field are in range; L is examined only when the found flag is 1 (R99). -/
def sightingBody? (b : List Byte) : Option SightingBody :=
  match index? 32 (u8 b 4), index? 96 (u8 b 5), index? 48 (u8 b 6) with
  | some p, some s, some t =>
    let found := u8 b 7
    let level := u16 b 8
    if b.length = 13 ∧ found ≤ 1 ∧ (found = 1 → level ≤ 1023) ∧ u16 b 10 ≤ 250 ∧ u8 b 12 ≤ 31 then
      some ⟨word b 0, p, s, t, if found = 1 then some level else none, u16 b 10, u8 b 12⟩
    else none
  | _, _, _ => none

/-- A HELLO body. -/
structure HelloBody where
  capLevel : Bool
  capEmpty : Bool
  sent : Half
  state : FollowerState
  deriving DecidableEq, Repr

/-- A HELLO body when its length and follower state are in range (R99). -/
def helloBody? (b : List Byte) : Option HelloBody :=
  let state := u8 b 3
  if b.length = 4 then
    if state = 1 then some ⟨bitAt b 0 0, bitAt b 0 1, half b 1, .joining⟩
    else if state = 2 then some ⟨bitAt b 0 0, bitAt b 0 1, half b 1, .steady⟩
    else none
  else none

end Sys2Proof.Machine
end

