-- ==== Sys2Proof/Machine/Evaluate.lean ====
section
/-! DEFINITION. Hop accumulators and the evaluator's arithmetic (chapter 9): look values, hop power, spread, status,
margins, path patterns, finding flags, primary code and key hop. Every function here is of the probe record alone. -/

namespace Sys2Proof.Machine

/-! ### Hop accumulators (9.1, 9.2) -/

/-- A hop is complete when its looks_done equals K (R153). -/
def Accumulator.complete (a : Accumulator) (looks : Nat) : Bool := a.looksDone == looks

/-- Every hop of the probe is complete (R77). -/
def Probe.complete (p : Probe) : Bool := p.accums.all (·.complete p.record.looks)

/-- The depth constant C of a depth code (R155). -/
def depthConstant (depth : Nat) : Int :=
  match depth with
  | 1 => 170
  | 2 => 140
  | _ => 110

/-- A look power before its clamp: (L − 700) + T + C (R155). -/
def rawPower (level loss depth : Nat) : Int := (level : Int) - 700 + loss + depthConstant depth

/-- The value of an accepted look (R155). -/
def lookValue (hop : Hop) (depth : Nat) (x : Sighting) : LookValue :=
  match x.level with
  | none => .empty
  | some l =>
    if l = 0 then .dark
    else if l = 1023 then .over
    else if hop.role ≠ .guarded ∧ hop.powerCheck ∧ x.capLevel then .power (clampInt (-500) 200 (rawPower l x.loss depth))
    else .noLevel

/-- An accepted look sets the OVERLOAD mark (R155). -/
def setsOverload (hop : Hop) (x : Sighting) : Bool :=
  x.level == some 1023 && hop.role != .guarded && x.capLevel

/-- An accepted look sets the CLAMPED mark: its power was clamped (R155). -/
def setsClamped (hop : Hop) (depth : Nat) (x : Sighting) : Bool :=
  match x.level, lookValue hop depth x with
  | some l, .power p => p != rawPower l x.loss depth
  | _, _ => false

/-- An offered look is ignored: the hop is complete, or an EMPTY look comes from an observer without EMPTY_LOOKS (R154). -/
def lookIgnored (a : Accumulator) (looks : Nat) (x : Sighting) : Bool :=
  a.complete looks || (x.level == none && !x.capEmpty)

/-- The accumulator after it accepts a look (R154, steps 1 to 3). -/
def Accumulator.accept (a : Accumulator) (hop : Hop) (depth : Nat) (x : Sighting) : Accumulator where
  looksDone := a.looksDone + 1
  looksSeen := if x.level = none then a.looksSeen else a.looksSeen + 1
  stored := a.stored ++ [⟨x.round, lookValue hop depth x⟩]
  foundOnly := a.foundOnly || (x.level != none && !x.capEmpty)
  overload := a.overload || setsOverload hop x
  clamped := a.clamped || setsClamped hop depth x

/-- The valid powers of a hop (R155). -/
def validPowers (a : Accumulator) : List Int :=
  a.stored.filterMap (fun l => match l.value with | .power p => some p | _ => none)

/-! ### Hop power, spread and status (9.4, 9.5) -/

/-- The mean of `n` powers of the given sum, to the nearest whole tenth, a half going to the lower (R157). -/
def roundedMean (sum : Int) (n : Nat) : Int := -(((n : Int) - 2 * sum) / (2 * (n : Int)))

/-- The hop power Ph; none is NO_POWER (R157). -/
def hopPower (hop : Hop) (a : Accumulator) : Option Int :=
  if hop.role = .guarded then none
  else match validPowers a with
    | [] => none
    | ps => some (roundedMean ps.sum ps.length)

/-- The spread of a hop's valid powers is greater than S (R158). -/
def spreadExceeded (hop : Hop) (a : Accumulator) (limit : Int) : Bool :=
  hop.role != .guarded &&
    match validPowers a with
    | p :: q :: rest =>
      let ps := q :: rest
      decide (ps.foldl max p - ps.foldl min p > limit)
    | _ => false

/-- The hop statuses of the verdict record (R159, R160, 11.2.3). -/
inductive HopStatus where
  | noHop
  | present
  | intermittent
  | missing
  | unobserved
  | darkOk
  | leak
  | guardUnobserved
  deriving DecidableEq, Repr

/-- The status of a hop (R159, R160). -/
def hopStatus (hop : Hop) (a : Accumulator) (looks : Nat) : HopStatus :=
  if hop.role = .guarded then
    if a.looksSeen > 0 then .leak
    else if a.looksDone = looks then .darkOk
    else .guardUnobserved
  else if a.looksDone = looks then
    if a.looksSeen = looks then .present
    else if a.looksSeen > 0 then .intermittent
    else .missing
  else if a.foundOnly ∧ a.looksSeen > 0 then .present
  else .unobserved

/-! ### Margins (9.6) -/

/-- What the evaluator finds at one hop. -/
structure HopResult where
  number : Nat
  hop : Hop
  status : HopStatus
  power : Option Int
  unsteady : Bool
  overload : Bool
  clamped : Bool
  deriving DecidableEq, Repr

/-- The low margin ML (R161). -/
def lowMargin (hop : Hop) (ph : Int) : Int := ph - (hop.expected - hop.tolLow)

/-- The high margin MH (R161). -/
def highMargin (hop : Hop) (ph : Int) : Int := (hop.expected + hop.tolHigh) - ph

/-- The result of one hop from its accumulator (R157 to R160). -/
def hopResult (looks : Nat) (limit : Int) (number : Nat) (hop : Hop) (a : Accumulator) : HopResult where
  number := number
  hop := hop
  status := hopStatus hop a looks
  power := hopPower hop a
  unsteady := spreadExceeded hop a limit || hopStatus hop a looks == .intermittent
  overload := a.overload
  clamped := a.clamped

/-- The hop is marked LOW (R161). -/
def HopResult.low (r : HopResult) : Bool :=
  match r.power with
  | some ph => decide (lowMargin r.hop ph < 0)
  | none => false

/-- The hop is marked HIGH (R161). -/
def HopResult.high (r : HopResult) : Bool :=
  match r.power with
  | some ph => decide (highMargin r.hop ph < 0)
  | none => false

/-- The hop margin (R161). -/
def HopResult.margin (r : HopResult) : Option Int :=
  r.power.map (fun ph => min (lowMargin r.hop ph) (highMargin r.hop ph))

/-- A span between two observed hops, named by its later hop (R162). -/
structure Span where
  later : Nat
  loss : Int
  budget : Int
  gain : Int
  deriving DecidableEq, Repr

/-- The span margin (R162). -/
def Span.margin (s : Span) : Int := min (s.budget - s.loss) (s.loss + s.gain)

/-- The later hop is marked SPAN_LOSS (R162). -/
def Span.tooMuchLoss (s : Span) : Bool := decide (s.loss > s.budget)

/-- The later hop is marked SPAN_GAIN (R162). -/
def Span.tooMuchGain (s : Span) : Bool := decide (s.loss < -s.gain)

/-- The hops with a power, in hop order: number, hop, power (R162). -/
def poweredHops (rs : List HopResult) : List (Nat × Hop × Int) :=
  rs.filterMap (fun r => r.power.map (fun ph => (r.number, r.hop, ph)))

/-- The spans between consecutive hops of a list (R162). -/
def spansOf : List (Nat × Hop × Int) → List Span
  | (_, _, pi) :: (j, hj, pj) :: rest => ⟨j, pi - pj, hj.budget, hj.gain⟩ :: spansOf ((j, hj, pj) :: rest)
  | _ => []

/-- The smallest of a list, if it has an element. -/
def leastOf : List Int → Option Int
  | [] => none
  | x :: xs => some (xs.foldl min x)

/-- The worst margin; none is NO_MARGIN (R163). -/
def worstMargin (rs : List HopResult) : Option Int :=
  (leastOf (rs.filterMap HopResult.margin ++ (spansOf (poweredHops rs)).map Span.margin)).map (clampInt (-999) 999)

/-- The histogram bin of a worst margin (R163). -/
def marginBin (m : Int) : Fin 16 :=
  if m < 0 then 0
  else if m ≥ 140 then 15
  else if h : m.toNat / 10 + 1 < 16 then ⟨m.toNat / 10 + 1, h⟩
  else 15

/-! ### Path patterns, flags, primary code and key hop (9.7) -/

/-- The first MISSING hop (R164). -/
def firstMissing (rs : List HopResult) : Option Nat :=
  (rs.find? (·.status == .missing)).map (·.number)

/-- BROKEN: every non-GUARD hop after the first MISSING one is MISSING or UNOBSERVED (R164). -/
def pathBroken (rs : List HopResult) : Bool :=
  match firstMissing rs with
  | none => false
  | some k => rs.all (fun r => decide (r.number ≤ k) || r.hop.role == .guarded || r.status == .missing ||
      r.status == .unobserved)

/-- GAP: some MISSING hop is followed by a PRESENT or INTERMITTENT one (R164). -/
def pathGap (rs : List HopResult) : Bool :=
  match firstMissing rs with
  | none => false
  | some k => rs.any (fun r => decide (k < r.number) && (r.status == .present || r.status == .intermittent))

/-- A hop counts as not observed for INCOMPLETE (R164). -/
def HopResult.unseen (r : HopResult) : Bool := r.status == .unobserved || r.status == .guardUnobserved

/-- INCOMPLETE: an unobserved hop before the first MISSING one (R164). -/
def pathIncomplete (rs : List HopResult) : Bool :=
  match firstMissing rs with
  | none => rs.any HopResult.unseen
  | some k => rs.any (fun r => decide (r.number < k) && r.unseen)

/-- The sixteen finding flags, in the order of R165. -/
structure Findings where
  planError : Bool
  launchFault : Bool
  crossed : Bool
  misrouted : Bool
  broken : Bool
  leak : Bool
  gap : Bool
  incomplete : Bool
  unsteady : Bool
  intermittent : Bool
  low : Bool
  high : Bool
  spanLoss : Bool
  spanGain : Bool
  overload : Bool
  clamped : Bool
  deriving DecidableEq, Repr

/-- No flag set. -/
def Findings.clear : Findings :=
  ⟨false, false, false, false, false, false, false, false, false, false, false, false, false, false, false, false⟩

/-- DEGRADED applies (R166). -/
def Findings.degraded (f : Findings) : Bool := f.low || f.high || f.spanLoss || f.spanGain || f.overload

/-- The primary code: the first that applies (R166). -/
def Findings.primary (f : Findings) : Fin 12 :=
  if f.planError then 0
  else if f.launchFault then 1
  else if f.crossed then 2
  else if f.misrouted then 3
  else if f.broken then 4
  else if f.leak then 5
  else if f.gap then 6
  else if f.incomplete then 7
  else if f.unsteady then 8
  else if f.degraded then 9
  else 10

/-- A verdict: what a verdict record carries (R168). -/
structure Verdict where
  circuitId : Word
  generation : Half
  code : Fin 12
  keyHop : Nat
  findings : Findings
  cause : Option LaunchCause
  margin : Option Int
  listenFrom : Option Round
  roundsListened : Nat
  voids : Nat
  cross : Option Nat
  misroute : Option Location
  leak : Option Nat
  statuses : List HopStatus
  powers : List (Option Int)
  deriving DecidableEq, Repr

/-- The results of hops 0 to H − 1 of a probe (R156). -/
def hopResults (p : Probe) : List HopResult :=
  ((p.record.hops.zip p.accums).zipIdx).map (fun ((h, a), i) => hopResult p.record.looks p.record.spread i h a)

/-- The finding flags of a probe (R165). -/
def findingsOf (p : Probe) (rs : List HopResult) : Findings where
  planError := false
  launchFault := p.launchFault.isSome
  crossed := p.cross.isSome
  misrouted := p.misroute.isSome
  broken := pathBroken rs
  leak := p.leak.isSome
  gap := pathGap rs
  incomplete := pathIncomplete rs
  unsteady := rs.any (·.unsteady)
  intermittent := rs.any (·.status == .intermittent)
  low := rs.any HopResult.low
  high := rs.any HopResult.high
  spanLoss := (spansOf (poweredHops rs)).any Span.tooMuchLoss
  spanGain := (spansOf (poweredHops rs)).any Span.tooMuchGain
  overload := rs.any (·.overload)
  clamped := rs.any (·.clamped)

/-- A hop carries one of the marks that make a verdict DEGRADED (R167). -/
def degradedHop (spans : List Span) (r : HopResult) : Bool :=
  r.low || r.high || r.overload || spans.any (fun s => s.later == r.number && (s.tooMuchLoss || s.tooMuchGain))

/-- The number of the first hop a test holds of, or 15. -/
def firstHop (f : HopResult → Bool) (rs : List HopResult) : Nat := ((rs.find? f).map (·.number)).getD 15

/-- The key hop of a primary code (R167). -/
def keyHop (code : Fin 12) (p : Probe) (rs : List HopResult) : Nat :=
  if code = 4 ∨ code = 6 then firstHop (·.status == .missing) rs
  else if code = 5 then p.leak.getD 15
  else if code = 7 then firstHop HopResult.unseen rs
  else if code = 8 then firstHop (·.unsteady) rs
  else if code = 9 then firstHop (degradedHop (spansOf (poweredHops rs))) rs
  else 15

/-- The verdict of a probe entering EVALUATING (R156 to R168). -/
def evaluate (p : Probe) : Verdict :=
  let rs := hopResults p
  let f := findingsOf p rs
  { circuitId := p.record.id, generation := p.generation, code := f.primary, keyHop := keyHop f.primary p rs
    findings := f, cause := p.launchFault, margin := worstMargin rs, listenFrom := p.listenFrom
    roundsListened := p.roundsListened, voids := p.voids, cross := p.cross, misroute := p.misroute, leak := p.leak
    statuses := rs.map (·.status), powers := rs.map (·.power) }

/-- The PLAN_ERROR verdict of a circuit that fails its checks at fetch (R169). -/
def planErrorVerdict (id : Word) (generation : Half) (voids : Nat) : Verdict where
  circuitId := id
  generation := generation
  code := 0
  keyHop := 15
  findings := { Findings.clear with planError := true }
  cause := none
  margin := none
  listenFrom := none
  roundsListened := 0
  voids := voids
  cross := none
  misroute := none
  leak := none
  statuses := []
  powers := []

/-- The NOT_RUN verdict of a circuit a drain finds without one (R169). -/
def notRunVerdict (generation : Half) (voids : Nat) : Verdict :=
  { planErrorVerdict 0#32 generation voids with code := 11, findings := Findings.clear }

end Sys2Proof.Machine
end

