-- ==== Sys2Proof/Machine/Formats.lean ====
section
/-! DEFINITION. The bytes the part writes to the board and to the framer (chapter 11, R180, R181), little-endian, every
reserved byte 0. -/

namespace Sys2Proof.Machine

/-! ### Fields -/

/-- One byte. -/
def put8 (n : Nat) : List Byte := [BitVec.ofNat 8 n]

/-- A 16-bit field. -/
def putHalf (x : Half) : List Byte := [x.extractLsb' 0 8, x.extractLsb' 8 8]

/-- A 32-bit field. -/
def putWord (x : Word) : List Byte := putHalf (x.extractLsb' 0 16) ++ putHalf (x.extractLsb' 16 16)

/-- A 16-bit field from a number. -/
def put16 (n : Nat) : List Byte := putHalf (BitVec.ofNat 16 n)

/-- A 32-bit field from a number. -/
def put32 (n : Nat) : List Byte := putWord (BitVec.ofNat 32 n)

/-- A signed 16-bit field; the marker NO_POWER or NO_MARGIN is −32768 (11.2.3). -/
def putPower (x : Option Int) : List Byte := putHalf (BitVec.ofInt 16 (x.getD (-32768)))

/-- Reserved bytes, written as 0 (R180). -/
def reserved (n : Nat) : List Byte := List.replicate n 0#8

/-- A Bool as a bit. -/
def bit (b : Bool) : Nat := if b then 1 else 0

/-! ### Codes of the tables -/

/-- Slot state codes (11.1.3). -/
def SlotState.code : SlotState → Nat
  | .free => 0
  | .validating => 1
  | .rejected => 2
  | .waiting => 3
  | .running => 4
  | .suspended => 5
  | .draining => 6
  | .closed => 7
  | .sweeping => 8

/-- Reason codes (11.1.3). -/
def Reason.code : Reason → Nat
  | .none => 0
  | .badCount => 1
  | .badPointer => 2
  | .badWindow => 3
  | .followMode => 4
  | .memoryFault => 5
  | .complete => 6
  | .aborted => 7
  | .planError => 8

/-- Request outcome codes (11.1.3). -/
def RequestOutcome.code : RequestOutcome → Nat
  | .none => 0
  | .taken => 1
  | .ignored => 2

/-- Window phase codes (11.1.2). -/
def Phase.code : Phase → Nat
  | .opened => 0
  | .settling => 1
  | .quiet => 2

/-- Peer state codes (11.1.2). -/
def PeerState.code : PeerState → Nat
  | .absent => 0
  | .unknown => 1
  | .present => 2
  | .silent => 3

/-- Hello state and follower state codes (11.1.2, 11.3). -/
def FollowerState.code : FollowerState → Nat
  | .joining => 1
  | .steady => 2

/-- Launch fault cause codes (11.2.3, 11.2.4). -/
def LaunchCause.code : LaunchCause → Nat
  | .nack => 1
  | .timeout => 2
  | .fault => 3

/-- Hop status codes (11.2.3). -/
def HopStatus.code : HopStatus → Nat
  | .noHop => 0
  | .present => 1
  | .intermittent => 2
  | .missing => 3
  | .unobserved => 4
  | .darkOk => 5
  | .leak => 6
  | .guardUnobserved => 7

/-- Journal kind codes (11.2.4). -/
def JournalKind.code : JournalKind → Nat
  | .stray => 1
  | .misroute => 2
  | .cross => 3
  | .leak => 4
  | .creditViolation => 5
  | .malformed => 6
  | .launchFault => 7
  | .launchStuck => 8
  | .stuckCleared => 9
  | .planError => 10
  | .markIgnored => 11
  | .leadLost => 12
  | .peerSilent => 13

/-! ### Board structures -/

/-- The slot shadow (11.1.3); `state` is CLOSED in the closing write (R24). -/
def shadowBytes (state : SlotState) (s : Slot) : List Byte :=
  put8 state.code ++ put8 s.reason.code ++ putHalf s.generation ++ putHalf s.lastSeq ++ put8 s.outcome.code ++
    reserved 1 ++ put32 s.verdicts ++ reserved 4

/-- The slot summary (11.1.3). -/
def summaryBytes (s : Summary) : List Byte :=
  s.codes.toList.flatMap putWord ++ s.bins.toList.flatMap putWord ++ putWord s.outOfReach ++ putWord s.unclassified ++
    putWord s.lateDiscard ++ reserved 4

/-- The part-owned half of a window table entry (11.1.2). -/
def windowStatusBytes (w : Window) : List Byte :=
  put8 w.phase.code ++ put8 w.settle ++ putHalf w.reopens ++ reserved 4

/-- The part-owned half of a peer table entry (11.1.2). -/
def peerStatusBytes (p : Peer) : List Byte :=
  put8 p.state.code ++ put8 (bit p.capLevel + 2 * bit p.capEmpty) ++ put8 ((p.hello.map FollowerState.code).getD 0) ++
    reserved 1 ++ put8 p.reserve ++ put8 p.lent ++ put8 p.withdrawn ++ reserved 1 ++ putWord p.malformed ++
    putWord p.violations ++ reserved 8

/-- The settings acknowledgment (11.1.1, R55). -/
def acknowledgmentBytes (a : Option (Half × Round)) : List Byte :=
  match a with
  | none => reserved 8
  | some (seq, round) => putHalf seq ++ put8 1 ++ reserved 1 ++ putWord round

/-- The produced and overflow counts (R174). -/
def producedBytes (j : Journal) : List Byte := putWord j.produced ++ putWord j.overflow

/-- The detector factory offsets, one signed byte each (11.1.1). -/
def offsetBytes (v : Vector (BitVec 6) 4) : List Byte := v.toList.map (·.signExtend 8)

/-- The two ignored-mark counters (R52). -/
def markCounterBytes (r : Rounds) : List Byte := putWord r.marksTooClose ++ putWord r.marksForeign

/-- The two follower counters (R120). -/
def linkCounterBytes (f : FollowerLink) : List Byte := putWord f.shed ++ putWord f.malformed

/-- The classifier's three counters (R152). -/
def sightingCounterBytes (c : Classifier) : List Byte := putWord c.stale ++ putWord c.lateTone ++ putWord c.stray

/-- The header write of start step 5: 76 bytes, the host-owned bytes 0x04..0x1B as read (R180). -/
def headerBytes (d : Device) (header : List Byte) : List Byte :=
  putWord Config.idValue ++ (List.range 24).map (fun i => byteAt header (4 + i)) ++ producedBytes d.journal ++
    offsetBytes d.fuses ++ acknowledgmentBytes d.rounds.applied ++ markCounterBytes d.rounds ++
    linkCounterBytes d.follower ++ sightingCounterBytes d.classifier

/-- The three bytes of a location. -/
def locationBytes (l : Location) : List Byte := put8 l.node.val ++ put8 l.port.val ++ put8 l.slot.val

/-- The location (0, 0, 0). -/
def Location.zero : Location := ⟨0, 0, 0⟩

/-- Two four-bit hop statuses in each byte, the even hop in the low half (11.2.3). -/
def statusBytes (ss : List HopStatus) : List Byte :=
  (List.range 8).map (fun i =>
    BitVec.ofNat 8 ((ss.getD (2 * i) .noHop).code + 16 * (ss.getD (2 * i + 1) .noHop).code))

/-- The finding flags as a 16-bit field, bit 0 PLAN_ERROR to bit 15 CLAMPED (11.2.3). -/
def findingBits (f : Findings) : Half :=
  BitVec.ofNat 16 (([f.planError, f.launchFault, f.crossed, f.misrouted, f.broken, f.leak, f.gap, f.incomplete,
    f.unsteady, f.intermittent, f.low, f.high, f.spanLoss, f.spanGain, f.overload, f.clamped]).foldr
      (fun b n => bit b + 2 * n) 0)

/-- The 64-byte verdict record (11.2.3, R168). -/
def verdictBytes (v : Verdict) : List Byte :=
  putWord v.circuitId ++ putHalf v.generation ++ put8 v.code.val ++ put8 (v.keyHop + 16 * v.leak.getD 15) ++
    putHalf (findingBits v.findings) ++ put8 ((v.cause.map LaunchCause.code).getD 0 + 4 * v.roundsListened) ++
    put8 v.voids ++ putPower v.margin ++ put16 (v.cross.getD 0) ++ putWord (v.listenFrom.getD 0#32) ++
    locationBytes (v.misroute.getD Location.zero) ++ reserved 1 ++ statusBytes v.statuses ++
    (List.range 16).flatMap (fun i => putPower (v.powers.getD i none))

/-- The 32-byte journal entry, with the produced count at the write as its sequence (11.2.4, R174). -/
def journalBytes (sequence : Word) (e : JournalEntry) : List Byte :=
  putWord sequence ++ putWord e.stamp ++ put8 e.kind.code ++ [e.node] ++ put8 e.slot ++ put8 e.tone ++
    putHalf e.generation ++ put16 e.circuit ++ put16 e.second ++ locationBytes e.loc ++ put8 e.code ++ put16 e.level ++
    putWord e.round ++ reserved 4

/-! ### Link frames (11.3) -/

/-- A SIGHTING as a follower sends it: an EMPTY sighting writes L as 0 (11.3, R117). -/
def sightingFrame (own lead : Fin 16) (x : Sighting) (backlog : Nat) : List Byte :=
  put8 3 ++ put8 own.val ++ put8 lead.val ++ putWord x.round ++ put8 x.loc.port.val ++ put8 x.loc.slot.val ++
    put8 x.tone.val ++ put8 (bit x.level.isSome) ++ put16 (x.level.getD 0) ++ put16 x.loss ++ put8 backlog

/-- A HELLO: both capability flags set (R118). -/
def helloFrame (own lead : Fin 16) (sent : Half) (state : FollowerState) : List Byte :=
  put8 4 ++ put8 own.val ++ put8 lead.val ++ put8 3 ++ putHalf sent ++ put8 state.code

/-- A frame of the lead's transmit queue (R107, R108). -/
def txFrameBytes (own : Fin 16) : TxFrame → List Byte
  | .mark round period guardTime grants =>
    put8 1 ++ put8 own.val ++ put8 0xFF ++ putWord round ++ put16 period ++ put16 guardTime ++
      grants.toList.flatMap putHalf
  | .watchList dest round entries =>
    put8 2 ++ put8 own.val ++ put8 dest.val ++ putWord round ++ put8 entries.length ++
      entries.flatMap (fun w => put8 w.port.val ++ put8 w.slot.val ++ put8 w.tone.val)

end Sys2Proof.Machine
end

