-- ==== Sys2Proof/Machine/Flags.lean ====
section
/-! DEFINITION. The flags the host sees outside the board: interrupt causes and line (10.4), the STATUS register, and what
a read of the BAR returns (1.1). -/

namespace Sys2Proof.Machine

/-- The five interrupt causes (R177). -/
inductive Cause where
  | campaignDone
  | journal
  | launchStuck
  | leadLost
  | deviceFault
  deriving DecidableEq, Repr

/-- A cause's bit in IRQ_CAUSE and IRQ_MASK (R177). -/
def Cause.mask : Cause → BitVec 5
  | .campaignDone => 0b00001#5
  | .journal => 0b00010#5
  | .launchStuck => 0b00100#5
  | .leadLost => 0b01000#5
  | .deviceFault => 0b10000#5

/-- Raise a cause: a cause already set stays set (R177). -/
def raise (c : Cause) (d : Device) : Device :=
  { d with regs := { d.regs with irqCause := d.regs.irqCause ||| c.mask } }

/-- The interrupt line (R178). -/
def irqLine (d : Device) : Bool := (d.regs.irqCause &&& d.regs.irqMask) != 0#5

/-- STATUS.STATE codes (1.1). -/
def DeviceState.code : DeviceState → Nat
  | .detached => 0
  | .stopped => 1
  | .running => 2
  | .faulted => 3

/-- STATUS.FAULT_REASON codes (R7). -/
def FaultReason.code : FaultReason → Nat
  | .none => 0
  | .noWindow => 1
  | .badIdentity => 2
  | .badJournal => 3
  | .headerFault => 4
  | .scanFault => 5
  | .slotWriteFault => 6
  | .closeFault => 7
  | .journalFault => 8

/-- STATUS.MODE (R1). -/
def modeCode : Option Mode → Nat
  | none => 0
  | some .lead => 1
  | some .follow => 2

/-- STATUS.LEAD_STATE: 0 unless MODE is FOLLOW (R1, R51). -/
def leadStateCode (d : Device) : Nat :=
  match d.iface.mode, d.rounds.leadState with
  | some .follow, .following => 1
  | some .follow, .leadLost => 2
  | _, _ => 0

/-- The STATUS register (1.1). -/
def statusWord (d : Device) : Word :=
  BitVec.ofNat 32 (d.iface.state.code + 4 * bit d.iface.start.isSome + 16 * d.iface.reason.code +
    256 * modeCode d.iface.mode + 1024 * leadStateCode d)

/-- What the register at a word offset reads (1.1, R1). -/
def registerWord (d : Device) (offset : Nat) : Word :=
  match offset with
  | 0x000 => Config.idValue
  | 0x004 => BitVec.ofNat 32 (bit d.regs.run)
  | 0x008 => statusWord d
  | 0x010 => d.regs.baseLo
  | 0x014 => d.regs.baseHi
  | 0x018 => d.regs.windowSize
  | 0x01C => d.regs.irqCause.setWidth 32
  | 0x020 => d.regs.irqMask.setWidth 32
  | _ => 0#32

/-- The byte a BAR read returns at an offset (R1). -/
def barByte (d : Device) (offset : Nat) : Byte :=
  (registerWord d (offset / 4 * 4)).extractLsb' (8 * (offset % 4)) 8

/-- A BAR read of `n` bytes at an offset returns the addressed bytes (R1). -/
def barRead (d : Device) (offset n : Nat) : List Byte := (List.range n).map (fun i => barByte d (offset + i))

/-- The board base of the address registers (R2). -/
def boardBase (r : Regs) : Nat := r.baseLo.toNat + 2 ^ 32 * r.baseHi.toNat

end Sys2Proof.Machine
end

