-- ==== Sys2Proof/Machine/Access.lean ====
section
/-! DEFINITION. Board accesses (1.3, R12, R180) and the coalesced writes: at most one in flight for each structure, a
further one owed behind it and issued with the values then current (R25, R32, R52, R55, R105, R120, R152, R174). -/

namespace Sys2Proof.Machine

/-- The part may begin a board access: not while FAULTED (R11), and while DETACHED only for a start in progress (R10). -/
def canAccess (d : Device) : Bool :=
  match d.iface.state with
  | .running => true
  | .stopped => true
  | .detached => d.iface.start.isSome
  | .faulted => false

/-- A board address at an offset from the board base (11.1). -/
def boardAddr (d : Device) (offset : Nat) : Nat := ((d.iface.bounds.map (·.base)).getD 0) + offset

/-- Issue a board access. R12 checks it against the bounds; an access that fails the check is not issued, and its failure
is handled within the same step. Where the part may begin no access, nothing happens. -/
def issue (kind : AccessKind) (addr len : Nat) (data : List Byte) (ofStart : Bool) (d : Device) : Device :=
  if canAccess d then
    let a : Access := ⟨d.dma.nextTag, kind, addr, len, data, false, ofStart⟩
    if inWindow d.iface.bounds addr len then
      { d with dma := { d.dma with nextTag := d.dma.nextTag + 1, inFlight := d.dma.inFlight ++ [a] } }
    else { d with dma := { d.dma with nextTag := d.dma.nextTag + 1, refused := d.dma.refused ++ [a] } }
  else d

/-- A read. -/
def issueRead (kind : AccessKind) (addr len : Nat) (d : Device) : Device := issue kind addr len [] false d

/-- A write: its extent is the length of its bytes. -/
def issueWrite (kind : AccessKind) (addr : Nat) (data : List Byte) (d : Device) : Device :=
  issue kind addr data.length data false d

/-- An access whose purpose passes a test is in flight and its completion will not be discarded: the test of R14, R25 and
their like for one already in flight, and of R23 for a drain. DESIGN CHOICE, unsafe, log entry 38: that an access whose
completion is to be discarded (R7 to R9, R11) counts no more, so that a new scan read, shadow or peer write goes out beside it.
The spec states this for settings reads only (section 3.4, the row Read in flight). -/
def live (d : Device) (p : AccessKind → Bool) : Bool :=
  (d.dma.inFlight ++ d.dma.refused).any (fun a => !a.discarded && p a.kind)

/-- The access is a write of a channel. -/
def ofChannel (ch : Channel) : AccessKind → Bool
  | .channelWrite c _ _ => c == ch
  | _ => false

/-- Where a channel's write goes and what it carries, with the values held now (R180). -/
def channelExtent (ch : Channel) (d : Device) : Nat × List Byte :=
  match ch with
  | .shadow n =>
    let s := d.slots[n]
    (boardAddr d (0x620 + 0x100 * n.val), shadowBytes (if s.closing = some .shadow then .closed else s.state) s)
  | .window w => (boardAddr d (0x118 + 16 * w.val), windowStatusBytes d.windows[w])
  | .peer p => (boardAddr d (0x308 + 32 * p.val), peerStatusBytes d.lead.peers[p])
  | .markCounters => (boardAddr d 0x30, markCounterBytes d.rounds)
  | .linkCounters => (boardAddr d 0x38, linkCounterBytes d.follower)
  | .sightingCounters => (boardAddr d 0x40, sightingCounterBytes d.classifier)
  | .acknowledgment => (boardAddr d 0x28, acknowledgmentBytes d.rounds.applied)
  | .produced => (boardAddr d 0x1C, producedBytes d.journal)

/-- What the completion of a channel's write needs: is it a closing write (R24), does it first show REJECTED (R177). -/
def channelKind (ch : Channel) (d : Device) : AccessKind :=
  match ch with
  | .shadow n =>
    .channelWrite ch (d.slots[n].closing == some .shadow) (d.slots[n].state == .rejected && d.slots[n].announce)
  | _ => .channelWrite ch false false

/-- A shadow write records the verdicts-written value it carries (R15), and a REJECTED it shows is announced by its own
completion and by no later write's (R177). -/
def noteChannel (ch : Channel) (d : Device) : Device :=
  match ch with
  | .shadow n => d.setSlot n { d.slots[n] with shadowVerdicts := d.slots[n].verdicts, announce := false }
  | _ => d

/-- Issue a channel's write. -/
def issueChannel (ch : Channel) (ofStart : Bool) (d : Device) : Device :=
  let (addr, data) := channelExtent ch d
  noteChannel ch (issue (channelKind ch d) addr data.length data ofStart d)

/-- A write owed behind the one in flight. A start owes it for itself alone where it was not owed already, and a write owed
by anything else is the start's alone no more (R7). -/
def Dma.owe (x : Dma) (ofStart : Bool) (ch : Channel) : Dma :=
  { x with
    owed := if ch ∈ x.owed then x.owed else x.owed ++ [ch]
    startOwed :=
      if !ofStart then x.startOwed.filter (· ≠ ch)
      else if ch ∈ x.owed then x.startOwed else x.startOwed ++ [ch] }

/-- Owe a channel's write: issued at once, or behind the write in flight (R25 and its like; `live`, log entry 38). -/
def oweAs (ofStart : Bool) (ch : Channel) (d : Device) : Device :=
  if canAccess d then
    if live d (ofChannel ch) then { d with dma := d.dma.owe ofStart ch } else issueChannel ch ofStart d
  else d

/-- Owe a channel's write outside a start. -/
def owe (ch : Channel) (d : Device) : Device := oweAs false ch d

/-- A channel's write is owed no more. -/
def Dma.settleOwed (x : Dma) (ch : Channel) : Dma :=
  { x with owed := x.owed.filter (· ≠ ch), startOwed := x.startOwed.filter (· ≠ ch) }

/-- At a channel write's completion, issue the write owed meanwhile with the values then current, as the start's where the
start in progress alone owes it (R7). A peer status write owed before a halt is issued also when the completion finds the
device restarted in FOLLOW mode (R105, log entry 36). -/
def reissue (ch : Channel) (d : Device) : Device :=
  if ch ∈ d.dma.owed then
    issueChannel ch (decide (ch ∈ d.dma.startOwed)) { d with dma := d.dma.settleOwed ch }
  else d

/-- The access in flight with a tag, if its purpose passes a test. -/
def findAccess (d : Device) (tag : Nat) (p : AccessKind → Bool) : Option Access :=
  d.dma.inFlight.find? (fun a => a.tag == tag && p a.kind)

/-- The device with that access no longer in flight. -/
def dropAccess (d : Device) (tag : Nat) : Device :=
  { d with dma := { d.dma with inFlight := d.dma.inFlight.filter (fun a => a.tag != tag) } }

/-- Mark the accesses in flight that pass a test: their completions are discarded when they arrive (R7, R8, R9, R11). From
then on they hold back no new access (`live`, log entry 38). -/
def discardWhere (p : Access → Bool) (d : Device) : Device :=
  { d with dma := { d.dma with
    inFlight := d.dma.inFlight.map (fun a => if p a then { a with discarded := true } else a) } }

/-- The accesses and the writes owed of a start that has completed belong to no start in progress (R7). -/
def releaseStartAccesses (d : Device) : Device :=
  { d with dma := { d.dma with
    inFlight := d.dma.inFlight.map (fun a => { a with ofStart := false }), startOwed := [] } }

/-- The writes a start alone owes are owed no more, and its accesses in flight are discarded (R7). -/
def dropStartAccesses (d : Device) : Device :=
  discardWhere (·.ofStart) { d with dma := { d.dma with
    owed := d.dma.owed.filter (fun ch => decide (ch ∉ d.dma.startOwed)), startOwed := [] } }

/-- Discard every access in flight and forget every write owed (R9, R11). -/
def discardAll (d : Device) : Device :=
  { discardWhere (fun _ => true) d with
    dma := { (discardWhere (fun _ => true) d).dma with refused := [], owed := [], startOwed := [] } }

end Sys2Proof.Machine
end

