-- ==== Sys2Proof/Machine/Journal.lean ====
section
/-! DEFINITION. The journal writer (10.1): coalescing, the request list, entry writes, overflow, and its two notices. -/

namespace Sys2Proof.Machine

/-- A journal entry request with every field its kind does not use at 0. -/
def JournalEntry.blank (kind : JournalKind) : JournalEntry where
  kind := kind
  stamp := 0#32
  node := 0#8
  slot := 0
  tone := 0
  generation := 0#16
  circuit := 0
  second := 0
  loc := Location.zero
  code := 0
  level := 0
  round := 0#32

/-- The fill of the ring: (produced − cached consumed) mod 2^32 (R174). -/
def Journal.fill (j : Journal) : Nat := (j.produced - j.consumed).toNat

/-- An entry write is in flight. -/
def isJournalWrite : AccessKind → Bool
  | .journalWrite => true
  | _ => false

/-- A consumed read is in flight. -/
def isConsumedRead : AccessKind → Bool
  | .consumedRead => true
  | _ => false

/-- A dropped request: the overflow count rises, a produced-count write is owed, and the first drop since JOURNAL was
cleared raises JOURNAL (R175). -/
def journalOverflow (d : Device) : Device :=
  let d1 := owe .produced { d with journal := { d.journal with overflow := d.journal.overflow + 1#32 } }
  if d1.journal.notified then d1
  else raise .journal { d1 with journal := { d1.journal with notified := true } }

/-- Write the front request at its ring position (R174). -/
def writeJournal (r : Ring) (e : JournalEntry) (rest : List JournalEntry) (d : Device) : Device :=
  issueWrite .journalWrite (r.base + d.journal.produced.toNat % r.size * Config.journalEntryBytes)
    (journalBytes d.journal.produced e) { d with journal := { d.journal with requests := rest } }

/-- Serve the request list from its front until an entry write is in flight or the list is empty (R174; `live`, log entry 38). -/
def serveJournalSteps : Nat → Device → Device
  | 0, d => d
  | n + 1, d =>
    match d.journal.ring, d.journal.requests with
    | some r, e :: rest =>
      if live d isJournalWrite then d
      else if d.journal.fill < r.size then writeJournal r e rest d
      else serveJournalSteps n (journalOverflow { d with journal := { d.journal with requests := rest } })
    | _, _ => d

/-- Serve the request list (R174). -/
def serveJournal (d : Device) : Device :=
  if canAccess d then serveJournalSteps d.journal.requests.length d else d

/-- The writer takes requests: it has a ring and the device is not FAULTED (R172, R176). -/
def journalOpen (d : Device) : Bool := d.journal.usable && d.iface.state != .faulted

/-- A request that coalescing let through joins the list or overflows (R174). -/
def enqueueJournal (e : JournalEntry) (d : Device) : Device :=
  if d.journal.requests.length ≥ Config.journalDepth then journalOverflow d
  else serveJournal { d with
    journal := { d.journal with requests := d.journal.requests ++ [{ e with stamp := d.rounds.number }] } }

/-- Take an entry request: with a key already in the round's coalescing memory it is dropped and counted nowhere (R173). -/
def journalRequest (e : JournalEntry) (key : Option CoalesceKey) (d : Device) : Device :=
  if journalOpen d then
    match key with
    | none => enqueueJournal e d
    | some k =>
      if k ∈ d.journal.memory then d
      else enqueueJournal e { d with journal := { d.journal with memory := d.journal.memory ++ [k] } }
  else d

/-- An increment of the produced count moved the fill from below half the size to half or more (R175). -/
def crossesHalf (size before after : Nat) : Bool := decide (2 * before < size) && decide (size ≤ 2 * after)

/-- A completed entry write: the produced count rises, its write is owed, the half-full notice may be raised, and the next
request is served (R174, R175). -/
def journalWritten (d : Device) : Device :=
  let before := d.journal.fill
  let d1 := { d with journal := { d.journal with produced := d.journal.produced + 1#32 } }
  let d2 := if crossesHalf ((d.journal.ring.map (·.size)).getD 0) before d1.journal.fill then raise .journal d1 else d1
  serveJournal (owe .produced d2)

/-- Read the consumed count at a scan completion; behind a read in flight one further read is pending (R175; `live`, log entry 38). -/
def readConsumed (d : Device) : Device :=
  if live d isConsumedRead then { d with journal := { d.journal with readPending := true } }
  else issueRead .consumedRead (boardAddr d 0x18) 4 d

/-- A consumed count read: cached, a pending read issued while RUNNING, the list served again (R175, R176). -/
def consumedTaken (value : Word) (d : Device) : Device :=
  let pending := d.journal.readPending && d.running
  let d1 := { d with journal := { d.journal with consumed := value, readPending := false } }
  let d2 := if pending then issueRead .consumedRead (boardAddr d1 0x18) 4 d1 else d1
  serveJournal d2

end Sys2Proof.Machine
end

