-- ==== Sys2Proof/Machine/LaunchBus.lean ====
section
/-! DEFINITION. The launch bus, the launch contexts, the stuck list and the tone pool (4.4, 4.5). -/

namespace Sys2Proof.Machine

/-! ### The tone pool (R72 to R74) -/

/-- Release a tone into quarantine (R73); the release round is the current round number. -/
def releaseTone (t : Fin 48) (holder : Option (Fin 16)) (status : HolderStatus) (lastListen : Option Round)
    (stopConfirmed : Bool) (d : Device) : Device :=
  d.setTone t (.quarantined ⟨d.rounds.number, holder, status, lastListen, stopConfirmed⟩)

/-- The stop of a quarantined tone is confirmed (R73). -/
def confirmStop (t : Fin 48) (d : Device) : Device :=
  match d.tones[t] with
  | .quarantined q => d.setTone t (.quarantined { q with stopConfirmed := true })
  | _ => d

/-- The holder status of a tone quarantined with its holder in GRACE changes with its holder (R73). -/
def endGrace (t : Fin 48) (r : Fin 16) (status : HolderStatus) (d : Device) : Device :=
  match d.tones[t] with
  | .quarantined q =>
    if q.holder = some r ∧ q.status = .grace then d.setTone t (.quarantined { q with status := status }) else d
  | _ => d

/-- A quarantined, stop-confirmed tone at least two rounds past its release round is due (R74). -/
def toneDue (n : Round) (q : Quarantine) : Bool :=
  q.stopConfirmed && decide (2 ≤ (n - q.release).toNat) && decide ((n - q.release).toNat ≤ 2 ^ 31 - 1)

/-- A tone at a round start (R74). -/
def toneAtRound (n : Round) (t : ToneState) : ToneState :=
  match t with
  | .quarantined q => if toneDue n q then .free else t
  | _ => t

/-- The tone pool at a round start with the round's number (R74). -/
def freeTones (d : Device) : Device :=
  { d with tones := mapVec (fun _ t => toneAtRound d.rounds.number t) d.tones }

/-! ### The command bus (R66) -/

/-- The context a command serves: the one that has it queued or will await its reply (R66). -/
def BusCommand.context? : BusCommand → Option (Fin 8)
  | .launch _ _ _ c => c
  | .stop _ c => c
  | .stopAll => none

/-- A command being sent that no longer serves its context: the context was reset (R71), or took a reply (`withdraw`). -/
def BusCommand.orphan : BusCommand → BusCommand
  | .launch p t k _ => .launch p t k none
  | .stop p _ => .stop p none
  | .stopAll => .stopAll

/-- The command no longer serves a context: being sent, it is sent whole and starts no reply timer. -/
def BusCommand.leave (c : Fin 8) (b : BusCommand) : BusCommand := if b.context? = some c then b.orphan else b

/-- The commands of a list that serve no context or another one. -/
def othersThan (c : Fin 8) (bs : List BusCommand) : List BusCommand := bs.filter (fun b => b.context? != some c)

/-- A context has no command queued and none being sent any more, which keeps R66's "Each context has at most one command queued
or awaiting its reply": its command that waits is withdrawn, its command being sent is sent whole ("each is sent whole") and
serves no context. DESIGN CHOICE, unsafe, log entry 39: the reply a context takes ends its outstanding command. The spec does not
say what becomes of a LAUNCH or STOP not yet sent when a reply takes its context out of ARMING or STOPPING. -/
def withdraw (c : Fin 8) (d : Device) : Device :=
  { d with launch := { d.launch with
      sending := d.launch.sending.map (BusCommand.leave c)
      waiting := othersThan c d.launch.waiting
      issued := othersThan c d.launch.issued } }

/-- Put a command on the bus: sent at once when the bus is idle, else behind those waiting (R66). -/
def sendCommand (c : BusCommand) (d : Device) : Device :=
  match d.launch.sending with
  | none => { d with launch := { d.launch with sending := some c } }
  | some _ => { d with launch := { d.launch with waiting := d.launch.waiting ++ [c] } }

/-- The place of a command among those of one event: its context's number, 8 without one (R66). -/
def BusCommand.rank : BusCommand → Nat
  | .launch _ _ _ (some c) => c.val
  | .stop _ (some c) => c.val
  | _ => 8

/-- Insert a command among those of one event, in ascending context number (R66). -/
def insertCommand (c : BusCommand) : List BusCommand → List BusCommand
  | [] => [c]
  | x :: xs => if c.rank < x.rank then c :: x :: xs else x :: insertCommand c xs

/-- Issue a command: it joins those of the step in progress (R66, log entry 7). -/
def issueCommand (c : BusCommand) (d : Device) : Device :=
  { d with launch := { d.launch with issued := insertCommand c d.launch.issued } }

/-- The end of a step puts the commands issued in it on the bus, in ascending context number (R66, log entry 7). -/
def sendIssued (d : Device) : Device :=
  d.launch.issued.foldl (fun d c => sendCommand c d) { d with launch := { d.launch with issued := [] } }

/-- Issue STOP for a context, which becomes STOPPING (R67, R68). -/
def issueStop (c : Fin 8) (d : Device) : Device :=
  issueCommand (.stop d.launch.contexts[c].point (some c))
    (d.setContext c { d.launch.contexts[c] with state := .stopping, timer := none })

/-- STOP requested by the probe scheduler, taken by a context that is ON (R68). -/
def requestStop (c : Fin 8) (d : Device) : Device :=
  if d.launch.contexts[c].state = .on then issueStop c d else d

/-- STOPs requested by one reaction (R66, R68). -/
def requestStops (cs : List (Fin 8)) (d : Device) : Device :=
  (List.finRange 8).foldl (fun d c => if c ∈ cs then requestStop c d else d) d

/-- Release a context's owner, leaving its state unchanged (R67). -/
def releaseOwner (c : Fin 8) (r : Fin 16) (d : Device) : Device :=
  if d.launch.contexts[c].owner = some r then d.setContext c { d.launch.contexts[c] with owner := none } else d

/-- A context becomes IDLE, keeping its owner. -/
def idleContext (c : Fin 8) (d : Device) : Device :=
  d.setContext c { d.launch.contexts[c] with state := .idle, timer := none }

/-- A context becomes IDLE by ACK_OFF or NACK: its tone's stop is confirmed (R68, R73), and no command of it is outstanding
(R66, `withdraw`, log entry 39). -/
def stopConfirmed (c : Fin 8) (d : Device) : Device :=
  confirmStop d.launch.contexts[c].tone (idleContext c (withdraw c d))

/-- The context a reply naming a point goes to: the one not IDLE that names the point (R66). -/
def contextOf (d : Device) (point : Byte) : Option (Fin 8) :=
  (List.finRange 8).find? (fun c => d.launch.contexts[c].state != .idle && d.launch.contexts[c].point == point)

/-- Start the reply timer of a sent LAUNCH or STOP, its context being ARMING or STOPPING (R66). -/
def startReplyTimer (c : BusCommand) (d : Device) : Device :=
  match c with
  | .launch _ _ _ (some x) =>
    if d.launch.contexts[x].state = .arming then
      d.setContext x { d.launch.contexts[x] with timer := some (d.now + Config.replyTime) }
    else d
  | .stop _ (some x) =>
    if d.launch.contexts[x].state = .stopping then
      d.setContext x { d.launch.contexts[x] with timer := some (d.now + Config.replyTime) }
    else d
  | _ => d

/-- A command has been sent whole: the timer of the context it serves starts, and the next waiting command begins (R66). A
command that serves no context any more starts no timer (`withdraw`, log entry 39). -/
def commandDone (d : Device) : Device :=
  match d.launch.sending with
  | none => d
  | some c =>
    let d1 := startReplyTimer c d
    match d1.launch.waiting with
    | [] => { d1 with launch := { d1.launch with sending := none } }
    | next :: rest => { d1 with launch := { d1.launch with sending := some next, waiting := rest } }

/-! ### The stuck list (R69, R70) -/

/-- A launch point is on the stuck list. -/
def isStuck (d : Device) (point : Byte) : Bool := d.launch.stuck.any (·.point == point)

/-- A context's STOP timed out: its point and tone enter the stuck list, the tone becomes STUCK, the context IDLE, and
LAUNCH_STUCK is raised and journaled; a GRACE owner ceases to hold the point (R69). -/
def stickContext (c : Fin 8) (d : Device) : Device :=
  let x := d.launch.contexts[c]
  let d1 := (idleContext c d).setTone x.tone .stuck
  let d2 := { d1 with launch := { d1.launch with stuck := d1.launch.stuck ++ [⟨x.point, x.tone⟩] } }
  let d3 := match x.owner with
    | none => d2
    | some r => match d2.probes.records[r] with
      | some p => if p.state = .grace then d2.setRecord r (some { p with holdsPoint := false }) else d2
      | none => d2
  journalRequest { JournalEntry.blank .launchStuck with tone := x.tone.val, second := x.point.toNat } none
    (raise .launchStuck d3)

/-- ACK_OFF or NACK for a stuck point clears its entry: the tone enters quarantine with no former holder and its stop
confirmed, and STUCK_CLEARED is journaled (R70). -/
def clearStuck (point : Byte) (d : Device) : Device :=
  match d.launch.stuck.find? (·.point == point) with
  | none => d
  | some e =>
    let d1 := { d with launch := { d.launch with stuck := d.launch.stuck.eraseP (·.point == point) } }
    journalRequest { JournalEntry.blank .stuckCleared with tone := e.tone.val, second := point.toNat } none
      (releaseTone e.tone none .none none true d1)

end Sys2Proof.Machine
end

