-- ==== Sys2Proof/Machine/Probes.lean ====
section
/-! DEFINITION. The life of a probe after admission (2.4, 4.6): voids, launch faults, round moves, early completion, entry
to EVALUATING with its verdict write, and the slot's entry to DRAINING, which ends probes (1.6). -/

namespace Sys2Proof.Machine

/-! ### Records and the circuit status map -/

/-- Free a probe record, which leaves the admission order (R64, R79). -/
def freeRecord (r : Fin 16) (d : Device) : Device :=
  let d1 := d.setRecord r none
  { d1 with probes := { d1.probes with order := d1.probes.order.filter (· ≠ r) } }

/-- A voided circuit returns from IN_FLIGHT to QUEUED with its void count plus 1, saturating at 255 (R35, R58). -/
def requeue (n : Fin 8) (c : Nat) (d : Device) : Device :=
  let e := circuitEntry d n c
  if e.status = .inFlight then setCircuit d n c ⟨.queued, min (e.voids + 1) 255⟩ else d

/-- A circuit's status changes and its void count stays (R58). -/
def setStatus (n : Fin 8) (c : Nat) (st : CircuitStatus) (d : Device) : Device :=
  setCircuit d n c { circuitEntry d n c with status := st }

/-! ### Voids (R35, R80) -/

/-- The probe state releases a HELD tone when it ends; in GRACE the tone is already in quarantine (R73). -/
def ProbeState.holdsTone : ProbeState → Bool
  | .launching => true
  | .armed => true
  | .listening => true
  | _ => false

/-- The probe's context is ON, so that ending the probe requests STOP (R35). -/
def ProbeState.tonesOn : ProbeState → Bool
  | .armed => true
  | .listening => true
  | _ => false

/-- What a void does with a probe's tone (R35, R73). -/
def voidTone (r : Fin 16) (p : Probe) (d : Device) : Device :=
  if p.state.holdsTone then releaseTone p.tone (some r) .voided p.lastListen false d
  else endGrace p.tone r .voided d

/-- Void the probe of a record: the record is freed, the circuit requeued, the tone quarantined with its holder VOIDED and
the context left without owner. A probe in EVALUATING is not voided (R35). The STOP is requested by `voidProbes`. -/
def voidProbe (r : Fin 16) (d : Device) : Device :=
  match d.probes.records[r] with
  | none => d
  | some p =>
    if p.state = .evaluating then d
    else freeRecord r (requeue p.slot p.circuit (releaseOwner p.ctx r (voidTone r p d)))

/-- The contexts of the ARMED and LISTENING probes that pass a test. -/
def soundingContexts (sel : Probe → Bool) (d : Device) : List (Fin 8) :=
  d.probes.records.toList.filterMap (fun x => match x with
    | some p => if sel p && p.state.tonesOn then some p.ctx else none
    | none => none)

/-- Void the probe of a record if it passes a test. -/
def voidIf (sel : Probe → Bool) (d : Device) (r : Fin 16) : Device :=
  match d.probes.records[r] with
  | some p => if sel p then voidProbe r d else d
  | none => d

/-- Void every probe that passes a test, then request the STOPs (R35, R66, R80). -/
def voidProbes (sel : Probe → Bool) (d : Device) : Device :=
  requestStops (soundingContexts sel d) ((List.finRange 16).foldl (voidIf sel) d)

/-! ### Evaluation (R79, R156, R170) -/

/-- The verdict of a probe is not written: its slot drains for MEMORY_FAULT, or the part begins no board access (R170). -/
def verdictWithheld (n : Fin 8) (d : Device) : Bool :=
  (d.slots[n].state == .draining && d.slots[n].reason == .memoryFault) || !canAccess d

/-- Issue a verdict record write (R168, R170). -/
def issueVerdict (n : Fin 8) (c : Nat) (record : Option (Fin 16)) (v : Verdict) (d : Device) : Device :=
  issueWrite (.verdictWrite n v.generation c record v.code v.margin)
    (d.slots[n].desc.verdictBase + c * Config.verdictBytes) (verdictBytes v) d

/-- A probe enters EVALUATING: its context's owner is released, its verdict computed from the record as it stands, and the
verdict write issued, or the record freed when no write is issued (R79, R156, R170). -/
def evaluateRecord (r : Fin 16) (p : Probe) (d : Device) : Device :=
  let d1 := (releaseOwner p.ctx r d).setRecord r (some { p with state := .evaluating })
  if verdictWithheld p.slot d1 then freeRecord r d1
  else issueVerdict p.slot p.circuit (some r) (evaluate p) d1

/-- A probe takes a launch fault: the finding is set with its cause, the tone released with holder ENDED, the entry
journaled, and the probe enters EVALUATING (R75, R78). -/
def launchFault (r : Fin 16) (p : Probe) (cause : LaunchCause) (confirmed : Bool) (d : Device) : Device :=
  let d1 := releaseTone p.tone (some r) .ended p.lastListen confirmed d
  let d2 := journalRequest { JournalEntry.blank .launchFault with
    slot := p.slot.val, generation := p.generation, circuit := p.circuit, tone := p.tone.val,
    second := p.record.point.toNat, code := cause.code } none d1
  evaluateRecord r { p with launchFault := some cause } d2

/-- A probe whose every hop is complete enters EVALUATING at once, from LISTENING with STOP requested and its tone released,
from GRACE with its tone's holder ENDED (R77). -/
def completeEarly (r : Fin 16) (p : Probe) (d : Device) : Device :=
  if p.state = .listening then
    evaluateRecord r p (requestStop p.ctx (releaseTone p.tone (some r) .ended p.lastListen false d))
  else evaluateRecord r p (endGrace p.tone r .ended d)

/-! ### Round moves (R76) -/

/-- A probe's record after the ROUND_START of round n, when it stays a probe that is not evaluated (R76). -/
def Probe.atRound (n : Round) (p : Probe) : Probe :=
  match p.state with
  | .armed => { p with state := .listening, listenFrom := some n, roundsListened := 1, lastListen := some n }
  | .listening =>
    if p.roundsListened < p.record.nmaxEff then { p with roundsListened := p.roundsListened + 1, lastListen := some n }
    else { p with state := .grace }
  | _ => p

/-- One record at ROUND_START: ARMED to LISTENING, LISTENING on or to GRACE, GRACE to EVALUATING (R76). The STOP of a
probe entering GRACE is requested by `moveProbes`. -/
def moveProbe (d : Device) (r : Fin 16) : Device :=
  match d.probes.records[r] with
  | none => d
  | some p =>
    if p.state = .grace then evaluateRecord r p (endGrace p.tone r .ended d)
    else
      let q := p.atRound d.rounds.number
      let d1 := d.setRecord r (some q)
      if p.state = .listening ∧ q.state = .grace then releaseTone p.tone (some r) .grace p.lastListen false d1 else d1

/-- The contexts of the LISTENING probes that this ROUND_START takes to GRACE (R76). -/
def gracingContexts (d : Device) : List (Fin 8) :=
  d.probes.records.toList.filterMap (fun x => match x with
    | some p => if p.state == .listening && !decide (p.roundsListened < p.record.nmaxEff) then some p.ctx else none
    | none => none)

/-- The probe table at a lead ROUND_START: the STOPs of probes entering GRACE in ascending context order, and the moves
(R66, R76). -/
def moveProbes (d : Device) : Device :=
  requestStops (gracingContexts d) ((List.finRange 16).foldl moveProbe d)

/-! ### Entry to DRAINING (R22) -/

/-- A ready stage discarded: places holding records become EMPTY, a place FETCHING stays so (R61). -/
def discardPlace (x : Place) : Place :=
  match x with
  | .fetched _ _ => .empty
  | _ => x

/-- Discard a slot's ready stage (R61). -/
def discardStage (n : Fin 8) (d : Device) : Device :=
  d.setSched n { d.sched[n] with stage := mapVec (fun _ x => discardPlace x) d.sched[n].stage }

/-- The slot states an event of R22 takes to DRAINING; VALIDATING by an ABORT (R20) or R19. -/
def SlotState.drainable : SlotState → Bool
  | .validating => true
  | .waiting => true
  | .running => true
  | .suspended => true
  | _ => false

/-- A draining slot's reason after a further event of R22: only MEMORY_FAULT replaces ABORTED or PLAN_ERROR. -/
def replacesReason (old new : Reason) : Bool :=
  new == .memoryFault && (old == .aborted || old == .planError)

/-- An event of R22 reaches a slot: it enters DRAINING, or, when already DRAINING, may change its reason. On entry the
slot's ready stage is discarded and its probes are voided (R61, R80); the shadow write is owed (R22). -/
def drainSlot (n : Fin 8) (reason : Reason) (d : Device) : Device :=
  let s := d.slots[n]
  if s.state = .draining then
    if replacesReason s.reason reason then owe (.shadow n) (d.setSlot n { s with reason := reason }) else d
  else if s.state.drainable then
    voidProbes (fun p => p.slot == n)
      (discardStage n (owe (.shadow n) (d.setSlot n { s with state := .draining, reason := reason })))
  else d

end Sys2Proof.Machine
end

