-- ==== Sys2Proof/Machine/Schedule.lean ====
section
/-! DEFINITION. The probe scheduler's fetching and admission (4.2, 4.3), and the closing of drained slots (R23, R24). -/

namespace Sys2Proof.Machine

/-! ### Fetching (R59) -/

/-- The first number from `c` upward, of `k` numbers, that passes a test. -/
def findFrom (p : Nat → Bool) : Nat → Nat → Option Nat
  | 0, _ => none
  | k + 1, c => if p c then some c else findFrom p k (c + 1)

/-- The circuit a place fetches or holds. -/
def Place.circuit? : Place → Option Nat
  | .empty => none
  | .fetching c => some c
  | .fetched c _ => some c

/-- A circuit is staged (4.2). -/
def staged (d : Device) (n : Fin 8) (c : Nat) : Bool :=
  d.sched[n].stage[(0 : Fin 2)].circuit? == some c || d.sched[n].stage[(1 : Fin 2)].circuit? == some c

/-- The lowest-index QUEUED circuit of a slot that is not staged (R59). -/
def nextToFetch (d : Device) (n : Fin 8) : Option Nat :=
  findFrom (fun c => (circuitEntry d n c).status == .queued && !staged d n c) d.slots[n].desc.count 0

/-- Fill one EMPTY place of a RUNNING slot's ready stage while the device is RUNNING (R59). -/
def fetchPlace (n : Fin 8) (d : Device) (p : Fin 2) : Device :=
  if d.running && d.slots[n].state == .running && d.sched[n].stage[p] == .empty then
    match nextToFetch d n with
    | none => d
    | some c =>
      issueRead (.circuitFetch n p c) (d.slots[n].desc.circuitBase + c * Config.circuitBytes) Config.circuitBytes
        (d.setPlace n p (.fetching c))
  else d

/-- Keep every slot's ready stage full (R59). -/
def fetchAll (d : Device) : Device :=
  (List.finRange 8).foldl (fun d n => fetchPlace n (fetchPlace n d 0) 1) d

/-! ### Admission (R62 to R65) -/

/-- A probe record holds a launch point (4.3, R69). -/
def holdsPoint (point : Byte) : Option Probe → Bool
  | none => false
  | some p => p.record.point == point && p.holdsPoint && p.state != .evaluating

/-- A launch point is held (4.3). -/
def pointHeld (d : Device) (point : Byte) : Bool :=
  d.probes.records.toList.any (holdsPoint point) ||
    d.launch.contexts.toList.any (fun c => c.state != .idle && c.point == point)

/-- The lowest-numbered free probe record (R63). -/
def freeRecord? (d : Device) : Option (Fin 16) := (List.finRange 16).find? (fun r => d.probes.records[r].isNone)

/-- A launch context is free: IDLE with no owner (4.3). -/
def Context.free (c : Context) : Bool := c.state == .idle && c.owner == none

/-- The lowest-numbered free launch context (R63). -/
def freeContext? (d : Device) : Option (Fin 8) := (List.finRange 8).find? (fun c => d.launch.contexts[c].free)

/-- The lowest-indexed FREE tone (R63). -/
def freeTone? (d : Device) : Option (Fin 48) := (List.finRange 48).find? (fun t => d.tones[t] == .free)

/-- The number of launch contexts that are not IDLE (R62). -/
def busyContexts (d : Device) : Nat := d.launch.contexts.toList.countP (fun c => c.state != .idle)

/-- The resources an admission takes: a probe record, a launch context and a tone. -/
structure Resources where
  record : Fin 16
  ctx : Fin 8
  tone : Fin 48
  deriving DecidableEq, Repr

/-- The resources of R62 that do not depend on the circuit, as R63 picks them. -/
def resources? (d : Device) : Option Resources :=
  if d.leading && decide (d.launch.stuck.length + busyContexts d < Config.stuckDepth) then
    match freeRecord? d, freeContext? d, freeTone? d with
    | some r, some c, some t => some ⟨r, c, t⟩
    | _, _, _ => none
  else none

/-- A staged circuit as admission sees it. -/
structure Candidate where
  slot : Fin 8
  place : Fin 2
  circuit : Nat
  record : Circuit
  deriving DecidableEq, Repr

/-- A place holds an admissible circuit as far as the slot, the place and the launch point decide (R62). -/
def candidateAt (d : Device) (n : Fin 8) (p : Fin 2) : Option Candidate :=
  match d.sched[n].stage[p] with
  | .fetched c rec =>
    if d.slots[n].state == .running && !pointHeld d rec.point && !isStuck d rec.point then some ⟨n, p, c, rec⟩ else none
  | _ => none

/-- The circuit of a slot that admission takes: the lower-index admissible one (R63). -/
def candidateOf (d : Device) (n : Fin 8) : Option Candidate :=
  match candidateAt d n 0, candidateAt d n 1 with
  | some a, some b => if b.circuit < a.circuit then some b else some a
  | some a, none => some a
  | none, b => b

/-- The slots in cyclic order after the admission pointer (R63). -/
def slotOrder (pointer : Fin 8) : List (Fin 8) := (List.finRange 8).map (fun i => pointer + 1 + i)

/-- The circuit the arbiter chooses: highest latched priority, then first after the pointer (R63). -/
def chosen (d : Device) : Option Candidate :=
  let cs := (slotOrder d.probes.pointer).filterMap (candidateOf d)
  let best := cs.foldl (fun m c => max m d.slots[c.slot].desc.priority) 0
  cs.find? (fun c => d.slots[c.slot].desc.priority == best)

/-- The probe record an admission fills (R64). -/
def newProbe (d : Device) (x : Candidate) (res : Resources) : Probe where
  state := .launching
  slot := x.slot
  generation := d.slots[x.slot].generation
  circuit := x.circuit
  record := x.record
  tone := res.tone
  ctx := res.ctx
  voids := (circuitEntry d x.slot x.circuit).voids
  accums := x.record.hops.map (fun _ => Accumulator.empty)
  listenFrom := none
  lastListen := none
  roundsListened := 0
  launchFault := none
  cross := none
  misroute := none
  leak := none
  holdsPoint := true

/-- Admit a circuit (R64): record, admission order, tone, context, LAUNCH, circuit status, ready-stage place, pointer. -/
def admitProbe (d : Device) (x : Candidate) (res : Resources) : Device :=
  let d1 := d.setRecord res.record (some (newProbe d x res))
  let d2 := { d1 with probes := { d1.probes with
    order := d1.probes.order.filter (· ≠ res.record) ++ [res.record], pointer := x.slot } }
  let d3 := d2.setTone res.tone (.held res.record)
  let d4 := d3.setContext res.ctx ⟨.arming, some res.record, x.record.point, res.tone, none⟩
  let d5 := issueCommand (.launch x.record.point res.tone x.record.depth (some res.ctx)) d4
  (setStatus x.slot x.circuit .inFlight d5).setPlace x.slot x.place .empty

/-- One decision of the arbiter (R63): the device after it, or none when no circuit is admissible. -/
def admitOne (d : Device) : Option Device :=
  match resources? d, chosen d with
  | some res, some x => some (admitProbe d x res)
  | _, _ => none

/-- Admit one circuit after another until none is admissible (R65). -/
def admitSteps : Nat → Device → Device
  | 0, d => d
  | k + 1, d =>
    match admitOne d with
    | none => d
    | some d' => admitSteps k d'

/-- The arbiter's run: each admission takes one of the eight contexts, so eight decisions exhaust it (R62, R65). -/
def admitAll (d : Device) : Device := admitSteps 8 d

/-! ### Closing a drained slot (R23, R24) -/

/-- The probe a sighting's tone resolves to under R142, by the tone pool alone: its record. -/
def toneHolder (d : Device) (x : Sighting) : Option (Fin 16) :=
  match d.tones[x.tone] with
  | .held r => some r
  | .quarantined q =>
    match q.status, q.lastListen, q.holder with
    | .grace, some last, some r =>
      if decide ((x.round - last) = 0#32) || decide (2 ^ 31 ≤ (x.round - last).toNat) then some r else none
    | _, _, _ => none
  | _ => none

/-- A queue entry's tone resolves to a probe of a slot's campaign (R23). -/
def resolvesTo (d : Device) (n : Fin 8) (x : Sighting) : Bool :=
  match toneHolder d x with
  | some r => match d.probes.records[r] with
    | some p => p.slot == n
    | none => false
  | none => false

/-- A queue entry is parked on a walk of an area (R23). -/
def parkedIn (d : Device) (n : Fin 8) (e : QueueEntry) : Bool :=
  match e.parked with
  | some w => match d.walks[w] with
    | some k => k.area == n
    | none => false
  | none => false

/-- A circuit fetch or verdict record write of a slot is in flight (R23). -/
def ofCampaign (n : Fin 8) : AccessKind → Bool
  | .circuitFetch m _ _ => m == n
  | .verdictWrite m _ _ _ _ _ => m == n
  | _ => false

/-- The four drain conditions of R23, and that the validation read of R20 has completed. An access of an earlier campaign of the
slot whose completion is to be discarded does not hold the drain back (log entry 38). -/
def drained (d : Device) (n : Fin 8) : Bool :=
  !d.slots[n].validating &&
  d.probes.records.toList.all (fun x => match x with | some p => p.slot != n | none => true) &&
  d.walks.toList.all (fun x => match x with | some k => k.area != n | none => true) &&
  d.classifier.queue.all (fun e => !resolvesTo d n e.sighting && !parkedIn d n e) &&
  !live d (ofCampaign n)

/-- The first circuit from an index that has no verdict (R24). -/
def nextNotRun (d : Device) (n : Fin 8) (from_ : Nat) : Option Nat :=
  findFrom (fun c => (circuitEntry d n c).status != .done) (d.slots[n].desc.count - from_) from_

/-- Write the summary (R24, step 2). -/
def writeSummary (n : Fin 8) (d : Device) : Device :=
  issueWrite (.summaryWrite n) (boardAddr d (0x640 + 0x100 * n.val)) (summaryBytes d.slots[n].summary)
    (d.setSlot n { d.slots[n] with closing := some .summary })

/-- Write the NOT_RUN record of a circuit (R24, step 1; R169). -/
def writeNotRun (n : Fin 8) (c : Nat) (d : Device) : Device :=
  issueWrite (.notRunWrite n c) (d.slots[n].desc.verdictBase + c * Config.verdictBytes)
    (verdictBytes (notRunVerdict d.slots[n].generation (circuitEntry d n c).voids))
    (d.setSlot n { d.slots[n] with closing := some (.notRun c) })

/-- Continue the closing writes with the circuits from an index: NOT_RUN records for reasons ABORTED and PLAN_ERROR, then
the summary (R24). -/
def closeFrom (n : Fin 8) (from_ : Nat) (d : Device) : Device :=
  if d.slots[n].reason = .aborted ∨ d.slots[n].reason = .planError then
    match nextNotRun d n from_ with
    | some c => writeNotRun n c d
    | none => writeSummary n d
  else writeSummary n d

/-- Begin a slot's closing writes when it is DRAINING, they have not begun, and its drain conditions hold (R23, R24). -/
def closeIfDrained (d : Device) (n : Fin 8) : Device :=
  if canAccess d && d.slots[n].state == .draining && d.slots[n].closing == none && drained d n then closeFrom n 0 d else d

/-- Test every slot (R23). -/
def closeDrained (d : Device) : Device := (List.finRange 8).foldl closeIfDrained d

end Sys2Proof.Machine
end

