-- ==== Sys2Proof/Machine/Slots.lean ====
section
/-! DEFINITION. Campaign slots and maintenance windows (1.5, 1.6, chapter 2): requests, validation, the completions of a
slot's writes, window phases and what they do to campaigns, and area sweeps (R133). -/

namespace Sys2Proof.Machine

/-! ### Maintenance windows (R27 to R34) -/

/-- A window after a scan completion brings its want and hold-off (R29). -/
def Window.applyWant (w : Window) (closed : Bool) (holdOff : Nat) : Window :=
  match w.phase, closed with
  | .opened, true => { w with phase := .settling, settle := holdOff }
  | .settling, false => ⟨.opened, 0, w.reopens + 1#16⟩
  | .quiet, false => ⟨.opened, 0, w.reopens + 1#16⟩
  | _, _ => w

/-- A window at a round start (R30). -/
def Window.atRound (w : Window) : Window :=
  match w.phase with
  | .settling => if w.settle = 0 then { w with phase := .quiet } else { w with settle := w.settle - 1 }
  | _ => w

/-- Replace a window; a change of phase, counter or reopen count owes its status write (R32). -/
def updateWindow (w : Fin 4) (x : Window) (d : Device) : Device :=
  if d.windows[w] = x then d else owe (.window w) (d.setWindow w x)

/-- A campaign's window id names a window. -/
def boundTo (s : Slot) (w : Fin 4) : Bool := s.desc.windowId == w.val

/-- A slot moves to a state and its shadow write is owed (R25). -/
def moveSlot (n : Fin 8) (st : SlotState) (d : Device) : Device :=
  owe (.shadow n) (d.setSlot n { d.slots[n] with state := st })

/-- The slots, in LEAD mode, that are in one of some states and bound to one of some windows. -/
def boundSlots (d : Device) (ws : List (Fin 4)) (sts : List SlotState) : List (Fin 8) :=
  if d.iface.mode = some .lead then
    (List.finRange 8).filter (fun n => sts.contains d.slots[n].state && ws.any (boundTo d.slots[n]))
  else []

/-- Suspend the RUNNING campaigns bound to windows that left QUIET and void their probes (R34, R35). -/
def suspendBound (ws : List (Fin 4)) (d : Device) : Device :=
  let ns := boundSlots d ws [.running]
  voidProbes (fun p => ns.contains p.slot) (ns.foldl (fun d n => moveSlot n .suspended d) d)

/-- WAITING and SUSPENDED campaigns bound to windows that entered QUIET become RUNNING (R33). -/
def resumeBound (ws : List (Fin 4)) (d : Device) : Device :=
  (boundSlots d ws [.waiting, .suspended]).foldl (fun d n => moveSlot n .running d) d

/-- The windows that leave QUIET when a request area is applied. -/
def reopening (area : List Byte) (d : Device) : List (Fin 4) :=
  (List.finRange 4).filter (fun w => d.windows[w].phase == .quiet && !wantClosed area w)

/-- A scan completion applies every window's want (R28, R29, R34). -/
def applyWants (area : List Byte) (d : Device) : Device :=
  suspendBound (reopening area d)
    ((List.finRange 4).foldl
      (fun d w => updateWindow w (d.windows[w].applyWant (wantClosed area w) (holdOff area w)) d) d)

/-- The windows that enter QUIET at a round start (R30). -/
def quieting (d : Device) : List (Fin 4) :=
  (List.finRange 4).filter (fun w => d.windows[w].phase == .settling && d.windows[w].settle == 0)

/-- The windows at a round start (R30, R33). -/
def settleWindows (d : Device) : Device :=
  resumeBound (quieting d) ((List.finRange 4).foldl (fun d w => updateWindow w d.windows[w].atRound d) d)

/-- At the end of a start in LEAD mode each WAITING or SUSPENDED campaign whose window is QUIET, or whose window id is 7,
becomes RUNNING (R33). -/
def admitsCampaign (d : Device) (s : Slot) : Bool :=
  s.desc.windowId == 7 || (List.finRange 4).any (fun w => boundTo s w && d.windows[w].phase == .quiet)

/-- One slot at the end of a start in LEAD mode (R33). -/
def resumeAtStart (d : Device) (n : Fin 8) : Device :=
  if (d.slots[n].state == .waiting || d.slots[n].state == .suspended) && admitsCampaign d d.slots[n] then
    moveSlot n .running d
  else d

/-! ### Requests (R16, R17, R20, R21) -/

/-- A SUBMIT taken in FREE (R17), before the descriptor read. -/
def Slot.submitted (s : Slot) (mode : Option Mode) : Slot :=
  { s with
    generation := s.generation + 1#16
    reason := if mode = some .follow then .followMode else .none
    verdicts := 0
    desc := Descriptor.cleared
    summary := Summary.zero
    state := if mode = some .follow then .rejected else .validating
    validating := mode != some .follow
    announce := mode == some .follow
    closing := none }

/-- The descriptor read of R18. -/
def readDescriptor (n : Fin 8) (d : Device) : Device :=
  issueRead (.descriptorRead n) (boardAddr d (0x600 + 0x100 * n.val)) 32 d

/-- A SUBMIT taken (R17). -/
def takeSubmit (n : Fin 8) (d : Device) : Device :=
  let d1 := owe (.shadow n) (d.setSlot n (d.slots[n].submitted d.iface.mode))
  if d.iface.mode = some .follow then d1 else readDescriptor n d1

/-- A RELEASE taken: the slot is SWEEPING and its area's sweep begins (R21, R133). The reason and the verdicts written
stand until the next SUBMIT (log entry 33). -/
def takeRelease (n : Fin 8) (d : Device) : Device :=
  let d1 := d.setArea n { d.areas[n] with sweep := some 0 }
  owe (.shadow n) (d1.setSlot n { d1.slots[n] with state := .sweeping, announce := false })

/-- What a slot's state makes of a request kind (R16): SUBMIT, ABORT or RELEASE taken, or none when it is IGNORED. -/
def requestTaken (st : SlotState) (k : RequestKind) : Bool :=
  match k with
  | .submit => st == .free
  | .abort => st.drainable
  | .release => st == .closed || st == .rejected
  | .other => false

/-- Act on a request that is taken (R17, R20, R21). -/
def actOnRequest (n : Fin 8) (k : RequestKind) (d : Device) : Device :=
  match k with
  | .submit => takeSubmit n d
  | .abort => drainSlot n .aborted d
  | .release => takeRelease n d
  | .other => d

/-- Judge a slot's request word (R16). -/
def judgeRequest (area : List Byte) (d : Device) (n : Fin 8) : Device :=
  let s := d.slots[n]
  if requestSequence area n = s.lastSeq then d
  else
    let taken := requestTaken s.state (requestKind area n)
    let d1 := d.setSlot n { s with
      lastSeq := requestSequence area n, outcome := if taken then .taken else .ignored }
    if taken then actOnRequest n (requestKind area n) d1 else owe (.shadow n) d1

/-- A progress write of the shadow when its verdicts-written value is out of date (R15). -/
def progressShadow (d : Device) (n : Fin 8) : Device :=
  if d.slots[n].verdicts = d.slots[n].shadowVerdicts then d else owe (.shadow n) d

/-! ### Validation (R18 to R20) -/

/-- A campaign is refused (R18, R20). -/
def rejectSlot (n : Fin 8) (reason : Reason) (d : Device) : Device :=
  owe (.shadow n) (d.setSlot n { d.slots[n] with
    state := .rejected, reason := reason, announce := true, validating := false })

/-- A campaign passes validation: its descriptor is latched and its circuits stand QUEUED (R18, R58). -/
def latchDescriptor (n : Fin 8) (x : Descriptor) (d : Device) : Device :=
  (d.setSlot n { d.slots[n] with desc := x, validating := false }).setSched n
    { d.sched[n] with circuits := [] }

/-- The state a campaign enters when it passes validation (R19); an ABORT taken meanwhile keeps it DRAINING (R20). -/
def placeCampaign (n : Fin 8) (d : Device) : Device :=
  if d.slots[n].state ≠ .validating then d
  else if d.following then drainSlot n .aborted d
  else if d.leading && admitsCampaign d d.slots[n] then moveSlot n .running d
  else moveSlot n .waiting d

/-- The descriptor read completes (R18, R19, R20). -/
def validated (n : Fin 8) (result : ReadResult) (d : Device) : Device :=
  match result with
  | .failed => rejectSlot n .memoryFault d
  | .bytes b =>
    match descriptorFault d.iface.bounds (descriptorOf b) with
    | some reason => rejectSlot n reason d
    | none => placeCampaign n (latchDescriptor n (descriptorOf b) d)

/-! ### Verdict writes and closing (R24, R25, R170, R171) -/

/-- The accumulators take a verdict's code and worst margin (R171). -/
def Summary.count (s : Summary) (code : Fin 12) (margin : Option Int) : Summary :=
  { s with
    codes := s.codes.set code (s.codes[code] + 1#32)
    bins := match margin with
      | none => s.bins
      | some m => s.bins.set (marginBin m) (s.bins[marginBin m] + 1#32) }

/-- A slot counts a completed verdict record (R25, R171). -/
def Slot.countVerdict (s : Slot) (code : Fin 12) (margin : Option Int) : Slot :=
  { s with verdicts := s.verdicts + 1, summary := s.summary.count code margin }

/-- A verdict table is full: the campaign is complete (R22, R170). -/
def completeIfDone (n : Fin 8) (d : Device) : Device :=
  if d.slots[n].verdicts = d.slots[n].desc.count ∧ (d.slots[n].state = .running ∨ d.slots[n].state = .suspended) then
    drainSlot n .complete d
  else d

/-- Free the probe record of a verdict, if a probe gave it (R170). -/
def freeIfAny (record : Option (Fin 16)) (d : Device) : Device :=
  match record with
  | some r => freeRecord r d
  | none => d

/-- A verdict record write completes successfully (R170). -/
def verdictLanded (n : Fin 8) (generation : Half) (c : Nat) (record : Option (Fin 16)) (code : Fin 12)
    (margin : Option Int) (d : Device) : Device :=
  let d1 := freeIfAny record d
  if d1.slots[n].generation = generation then
    completeIfDone n ((setStatus n c .done d1).setSlot n (d1.slots[n].countVerdict code margin))
  else d1

/-- A verdict record write fails (R170). -/
def verdictFailed (n : Fin 8) (record : Option (Fin 16)) (d : Device) : Device :=
  drainSlot n .memoryFault (freeIfAny record d)

/-- A closing NOT_RUN write completes successfully: it counts and the next closing write follows (R24). -/
def notRunLanded (n : Fin 8) (c : Nat) (d : Device) : Device :=
  closeFrom n (c + 1) (d.setSlot n (d.slots[n].countVerdict 11 none))

/-- A closing NOT_RUN write fails: the reason becomes MEMORY_FAULT and the summary follows (R24). -/
def notRunFailed (n : Fin 8) (d : Device) : Device := writeSummary n (drainSlot n .memoryFault d)

/-- The summary write completes: the closing shadow write is due (R24). -/
def summaryLanded (n : Fin 8) (d : Device) : Device :=
  owe (.shadow n) (d.setSlot n { d.slots[n] with closing := some .shadow })

/-- A shadow write completes: a closing write closes the slot; CAMPAIGN_DONE is raised for the first showing of CLOSED or
REJECTED; a shadow owed meanwhile is issued (R24, R25, R177). -/
def shadowLanded (n : Fin 8) (closing announces : Bool) (d : Device) : Device :=
  let d1 := if closing then d.setSlot n { d.slots[n] with state := .closed, closing := none } else d
  reissue (.shadow n) (if closing || announces then raise .campaignDone d1 else d1)

/-! ### Area sweeps (R133) -/

/-- One step of an area's sweep; the 128th resets the toggles and frees the slot (R21, R133). The reason and the verdicts
written still stand in FREE, until the next SUBMIT (log entry 33). -/
def sweepArea (n : Fin 8) (d : Device) : Device :=
  let a := d.areas[n]
  match a.sweep with
  | none => d
  | some k =>
    if k < 127 then d.setArea n { a with entries := Sparse.erase a.entries k, sweep := some (k + 1) }
    else
      let d1 := d.setArea n { entries := Sparse.erase a.entries k, toggles := 0#64, sweep := none }
      if d1.slots[n].state = .sweeping then moveSlot n .free d1 else d1

end Sys2Proof.Machine
end

