-- ==== Sys2Proof/Machine/Taps.lean ====
section
/-! DEFINITION. The tap detector array and the watch builder (chapter 5). -/

namespace Sys2Proof.Machine

/-! ### Tap table and sweep order (R82, R91) -/

/-- A tap is sweepable (R82). -/
def Tap.sweepable (t : Tap) : Bool := t.enabled && decide (t.first ≤ t.last)

/-- The slots of a tap's sweep range, first to last (R91). -/
def Tap.range (t : Tap) : List (Fin 96) := (List.finRange 96).filter (fun s => decide (t.first ≤ s) && decide (s ≤ t.last))

/-- The sweep order: sweepable taps in ascending number, each tap's slots from first to last (R91). -/
def sweepOrder (table : Vector Tap 32) : List (Fin 32 × Fin 96) :=
  (List.finRange 32).flatMap (fun p => if table[p].sweepable then table[p].range.map (fun s => (p, s)) else [])

/-- The sweep order beginning at a position and coming back round before it. -/
def orderFrom (order : List (Fin 32 × Fin 96)) (at_ : Fin 32 × Fin 96) : List (Fin 32 × Fin 96) :=
  order.dropWhile (· != at_) ++ order.takeWhile (· != at_)

/-- The first position of a walk round the sweep order that is not watched, with the position after it; none when the walk
comes to the round's first drawn position or finds no unwatched one (R91). -/
def drawFrom (watched : List (Fin 32 × Fin 96)) (first : Option (Fin 32 × Fin 96)) (next : Fin 32 × Fin 96) :
    List (Fin 32 × Fin 96) → Option ((Fin 32 × Fin 96) × (Fin 32 × Fin 96))
  | [] => none
  | p :: rest =>
    if some p = first then none
    else if watched.contains p then drawFrom watched first next rest
    else some (p, rest.headD next)

/-- A draw from the sweep cursor: the position to look at and the array after the draw; a draw that yields nothing ends
sweeping for the round (R91). DEDUCED, unsafe, log entry 12: such a draw leaves the cursor, of which R91 says nothing. -/
def drawSweep (a : TapArray) : Option (Fin 32 × Fin 96) × TapArray :=
  match a.table, a.cursor with
  | some table, some cursor =>
    if a.sweepOver then (none, a)
    else match drawFrom a.watched a.sweepFirst cursor (orderFrom (sweepOrder table) cursor) with
      | none => (none, { a with sweepOver := true })
      | some (p, next) => (some p, { a with cursor := some next, sweepFirst := a.sweepFirst.or (some p) })
  | _, _ => (none, a)

/-- The array takes a tap table at an application: the cursor is set to the first slot of the lowest sweepable tap (R82,
R91). -/
def applyTaps (taps : Vector RawTap 32) (d : Device) : Device :=
  let table := mapVec (fun _ t => clampTap t) taps
  { d with taps := { d.taps with table := some table, cursor := (sweepOrder table).head? } }

/-! ### Taking looks (R84, R90) -/

/-- A detector may begin a look now: a tap table is in force, LOOK_OPEN has been taken, and the look ends by the deadline
(R40, R84). -/
def mayLook (d : Device) : Bool :=
  match d.rounds.phase with
  | .opened deadline => d.running && d.taps.table.isSome && decide (d.now + Config.lookTime ≤ deadline)
  | _ => false

/-- A port's clamped coupling loss in the table in force (R82). -/
def tapLoss (d : Device) (port : Fin 32) : Nat := (d.taps.table.map (fun t => t[port].loss)).getD 0

/-- A port's tap is enabled in the table in force (R82). -/
def tapEnabled (d : Device) (port : Fin 32) : Bool := (d.taps.table.map (fun t => t[port].enabled)).getD false

/-- A detector begins a look with the current round number as its stamp (R90). -/
def beginLook (i : Fin 4) (port : Fin 32) (slot : Fin 96) (tones : Option (List (Fin 48))) (d : Device) : Device :=
  d.setDetector i (.looking ⟨port, slot, tones, d.rounds.number, tapLoss d port, d.now + Config.lookTime⟩)

/-- An IDLE detector takes work: the first plan entry, else a sweep look (R90, R91). -/
def takeWork (d : Device) (i : Fin 4) : Device :=
  if d.taps.detectors[i] = .idle ∧ mayLook d then
    match d.taps.plan with
    | e :: rest => beginLook i e.port e.slot (some e.tones) { d with taps := { d.taps with plan := rest } }
    | [] =>
      match drawSweep d.taps with
      | (some (p, s), a) => beginLook i p s none { d with taps := a }
      | (none, a) => { d with taps := a }
  else d

/-- Every IDLE detector takes work, in detector order (R90). -/
def takeAllWork (d : Device) : Device := (List.finRange 4).foldl takeWork d

/-! ### Look plan (R87 to R89, R97) -/

/-- A tone joins a plan entry's tone set. -/
def PlanEntry.join (e : PlanEntry) (t : Fin 48) : PlanEntry :=
  if t ∈ e.tones then e else { e with tones := e.tones ++ [t] }

/-- A watch joins the entry of its location, or makes a new entry at the end of the plan (R87, R89). -/
def addWatch : List PlanEntry → Watch → List PlanEntry
  | [], w => [⟨w.port, w.slot, [w.tone]⟩]
  | e :: rest, w =>
    if e.port = w.port ∧ e.slot = w.slot then e.join w.tone :: rest else e :: addWatch rest w

/-- A watch taken into the plan: its location joins the watched set; on a disabled tap, or with no table in force, it makes
no entry (R87, R89). -/
def planWatch (d : Device) (w : Watch) : Device :=
  let watched := if (w.port, w.slot) ∈ d.taps.watched then d.taps.watched else d.taps.watched ++ [(w.port, w.slot)]
  { d with taps := { d.taps with
    watched := watched, plan := if tapEnabled d w.port then addWatch d.taps.plan w else d.taps.plan } }

/-- Drop the plan, the watched set and every watch held (R96, R97). -/
def dropPlan (d : Device) : Device :=
  { d with taps := { d.taps with
    plan := [], watched := [], sweepFirst := none, sweepOver := false, localWatches := [], heldWatches := [] } }

/-- Abandon the looks in progress (R49, R50). -/
def abandonLooks (d : Device) : Device :=
  { d with taps := { d.taps with
    detectors := mapVec (fun _ x => match x with | .looking _ => .idle | y => y) d.taps.detectors } }

/-- Every detector IDLE and the plan dropped: held sightings are discarded too (R96). -/
def stopDetectors (d : Device) : Device :=
  dropPlan { d with taps := { d.taps with detectors := Vector.replicate 4 .idle } }

/-- LOOK_OPEN: the plan and the watched set are built from the round's watches, and IDLE detectors take their first work
(R87, R90). -/
def openLooks (deadline : Nat) (d : Device) : Device :=
  let ws := if d.iface.mode = some .follow then d.taps.heldWatches else d.taps.localWatches
  let d1 := { dropPlan d with rounds := { d.rounds with phase := .opened deadline } }
  takeAllWork (ws.foldl planWatch d1)

/-- A follower's array takes a WATCH_LIST (R88, R89): held before LOOK_OPEN's time, merged from then on, or discarded at the
look deadline. A list that comes at LOOK_OPEN's time or later while LOOK_OPEN has not been taken joins the watches the plan
will be built from, behind those held (log entry 1). -/
def takeWatchList (round : Round) (ws : List Watch) (d : Device) : Device :=
  if round = d.rounds.number then
    match d.rounds.phase with
    | .closed => d
    | .scheduled openAt deadline =>
      if d.now < openAt then { d with taps := { d.taps with heldWatches := ws } }
      else if d.now < deadline then { d with taps := { d.taps with heldWatches := d.taps.heldWatches ++ ws } }
      else d
    | .opened deadline => if d.now < deadline then takeAllWork (ws.foldl planWatch d) else d
  else d

/-! ### Watch lists at the lead (R85, R86) -/

/-- The watches of a probe: its incomplete hops in hop-number order, each with its node (R85). -/
def probeWatches (p : Probe) : List (Fin 16 × Watch) :=
  (p.record.hops.zip p.accums).filterMap (fun (h, a) =>
    if a.complete p.record.looks then none else some (h.loc.node, ⟨h.loc.port, h.loc.slot, p.tone⟩))

/-- Every watch of the round: LISTENING probes oldest first (R85). -/
def allWatches (d : Device) : List (Fin 16 × Watch) :=
  d.probes.order.flatMap (fun r => match d.probes.records[r] with
    | some p => if p.state = .listening then probeWatches p else []
    | none => [])

/-- The watches of one node, in their order. -/
def watchesOf (ws : List (Fin 16 × Watch)) (node : Fin 16) : List Watch :=
  ws.filterMap (fun (n, w) => if n = node then some w else none)

/-! ### Look results (R83, R92, R93) -/

/-- The level code of a raw code under a detector's factory offset (R83). -/
def correctedLevel (offset : BitVec 6) (raw : Nat) : Nat :=
  if raw = 0 then 0
  else if raw = 1023 then 1023
  else (clampInt 1 1022 ((raw : Int) + offset.toInt)).toNat

/-- Insert into a list ordered by descending key, the lower tone first among equals. -/
def insertByKey : List (Nat × Fin 48) → Nat × Fin 48 → List (Nat × Fin 48)
  | [], x => [x]
  | y :: ys, x => if y.1 < x.1 ∨ (y.1 = x.1 ∧ x.2 < y.2) then x :: y :: ys else y :: insertByKey ys x

/-- Order by descending key, the lower tone first among equals (R92, R93). -/
def sortByKey (xs : List (Nat × Fin 48)) : List (Nat × Fin 48) := xs.foldl insertByKey []

/-- The reported tones with their raw codes: at most eight, those of highest raw code (R92). -/
def reportedTones (found : List FoundTone) : List (Nat × Fin 48) :=
  (sortByKey (found.map (fun f => (f.raw.toNat, f.tone)))).take Config.lookTones

/-- The watched tones that were not found at all, in ascending order (R92, R93). -/
def emptyTones (tones : Option (List (Fin 48))) (found : List FoundTone) : List (Fin 48) :=
  match tones with
  | none => []
  | some ts => (List.finRange 48).filter (fun t => ts.contains t && !found.any (·.tone == t))

/-- A local sighting of a look (R93). -/
def localSighting (d : Device) (l : Look) (tone : Fin 48) (level : Option Nat) : Sighting :=
  ⟨none, l.round, ⟨d.ownNode, l.port, l.slot⟩, tone, level, l.loss, true, true⟩

/-- The sightings of a look in their order: found by descending level code, then EMPTY by ascending tone (R92, R93). -/
def lookSightings (d : Device) (offset : BitVec 6) (l : Look) (found : List FoundTone) : List Sighting :=
  (sortByKey ((reportedTones found).map (fun (r, t) => (correctedLevel offset r, t)))).map
      (fun (level, t) => localSighting d l t (some level)) ++
    (emptyTones l.tones found).map (fun t => localSighting d l t none)

/-! ### Into the local share or the hold queue (R94, R95, R119) -/

/-- Place sightings at the tail of the queue. -/
def pushQueue (xs : List Sighting) (d : Device) : Device :=
  d.setQueue (d.classifier.queue ++ xs.map (fun x => ⟨x, none, none⟩))

/-- The free places of the local share (R94). -/
def localRoom (d : Device) : Nat := Config.localShare - localCount d

/-- A detector is HOLDING. -/
def Detector.isHolding : Detector → Bool
  | .holding _ => true
  | _ => false

/-- Some detector is HOLDING. -/
def anyHolding (d : Device) : Bool := d.taps.detectors.toList.any Detector.isHolding

/-- A detector moves held sightings into the share until it is full or holds none; then it is IDLE and takes work (R94). -/
def serveDetector (d : Device) (i : Fin 4) : Device :=
  match d.taps.detectors[i] with
  | .holding held =>
    let room := localRoom d
    let d1 := pushQueue (held.take room) d
    if held.length ≤ room then takeWork (d1.setDetector i .idle) i else d1.setDetector i (.holding (held.drop room))
  | _ => d

/-- No detector below a number is HOLDING. -/
def lowestHolding (d : Device) (i : Fin 4) : Bool :=
  (List.finRange 4).all (fun j => decide (i ≤ j) || !d.taps.detectors[j].isHolding)

/-- A detector is served when those below it hold none (R94). -/
def serveInTurn (d : Device) (i : Fin 4) : Device := if lowestHolding d i then serveDetector d i else d

/-- Serve the HOLDING detectors lowest first, the next one when the one before holds none (R94). -/
def serveHolding (d : Device) : Device := (List.finRange 4).foldl serveInTurn d

/-- At the lead a detector offers its look's sightings to the local share; while another detector is HOLDING it becomes
HOLDING itself, with all of them or with none (R94). -/
def offerLocal (i : Fin 4) (xs : List Sighting) (d : Device) : Device :=
  if anyHolding d then d.setDetector i (.holding xs)
  else serveDetector (d.setDetector i (.holding xs)) i

/-- A sighting handed to the follower's hold queue; a full queue sheds it (R119). -/
def holdSighting (d : Device) (x : Sighting) : Device :=
  if d.follower.hold.length < Config.holdDepth then
    { d with follower := { d.follower with hold := d.follower.hold ++ [x] } }
  else { d with follower := { d.follower with shed := d.follower.shed + 1#32 } }

/-- At a follower a look's sightings go to the hold queue, and the detector takes work; shedding owes the counter write
(R95, R119, R120). -/
def holdAll (i : Fin 4) (xs : List Sighting) (d : Device) : Device :=
  let d1 := xs.foldl holdSighting d
  let d2 := if d1.follower.shed = d.follower.shed then d1 else owe .linkCounters d1
  takeWork (d2.setDetector i .idle) i

/-- A look ends (R92 to R95): the clock reaches its end time and its sightings are made and offered. -/
def endLook (i : Fin 4) (l : Look) (found : List FoundTone) (d : Device) : Device :=
  let d1 := d.advance l.endAt
  let xs := lookSightings d1 d1.fuses[i] l found
  if d1.iface.mode = some .follow then holdAll i xs d1 else offerLocal i xs d1

end Sys2Proof.Machine
end

