-- ==== Sys2Proof/Machine/Link.lean ====
section
/-! DEFINITION. The link controller (chapter 6): reserves, lending and withdrawal, peer states, the lead's transmit queue,
sightings and HELLOs at the lead, and the follower's hand-over to the framer. -/

namespace Sys2Proof.Machine

/-! ### Peer status (R105) -/

/-- Owe a peer's status write when its status changed (R105). -/
def owePeerIfChanged (before : Vector Peer 16) (d : Device) (p : Fin 16) : Device :=
  if peerStatusBytes before[p] = peerStatusBytes d.lead.peers[p] then d else owe (.peer p) d

/-- Owe the status writes of the peers whose status changed; a follower writes none (R105). -/
def owePeers (before : Vector Peer 16) (d : Device) : Device :=
  if d.iface.mode = some .lead then (List.finRange 16).foldl (owePeerIfChanged before) d else d

/-- The peer is configured in the peer table in force and is not the own node (R99, R101). Where a start has changed the own
node under a table still in force, the flags stand as the latest application set them, and the own node of now is excluded
here (log entry 35). -/
def isPeer (d : Device) (p : Fin 16) : Bool := d.lead.peers[p].configured && p != d.ownNode

/-! ### The peer table in force (R101) -/

/-- Targets in ascending node order: each the credits wanted or what is left, whichever is smaller (R101). -/
def trimTargets : Nat → List Nat → List Nat
  | _, [] => []
  | left, w :: ws => min w left :: trimTargets (left - min w left) ws

/-- A peer at an application of settings (R101, R103, R104). DESIGN CHOICE, unsafe, log entry 40: a node that ceases to be
configured keeps its hello state, which its peer status goes on showing, and its silence count. R101 names only ABSENT and the
lost capabilities, and R104 speaks only of peers since they became configured. -/
def Peer.apply (p : Peer) (configured : Bool) (target : Nat) : Peer :=
  if configured && !p.configured then
    { p with
      configured := true, target := target, state := .unknown, silence := 0, capLevel := false, capEmpty := false
      hello := none }
  else if !configured && p.configured then
    { p with configured := false, target := target, state := .absent, capLevel := false, capEmpty := false }
  else { p with target := target }

/-- A peer table entry configures a node: its flag is set and it is not the own node (R101). -/
def configures (own : Fin 16) (table : Vector RawPeer 16) (p : Fin 16) : Bool := table[p].configured && p != own

/-- The target reserves of a peer table (R101). -/
def targetsOf (own : Fin 16) (table : Vector RawPeer 16) : List Nat :=
  trimTargets Config.reserveLimit
    ((List.finRange 16).map (fun p => if configures own table p then codeCredits table[p].code else 0))

/-- The link controller takes the peer table at an application (R101). -/
def applyPeers (table : Vector RawPeer 16) (d : Device) : Device :=
  let targets := targetsOf d.ownNode table
  owePeers d.lead.peers { d with lead := { d.lead with
    peers := mapVec (fun i p => p.apply (configures d.ownNode table i) (targets.getD i.val 0)) d.lead.peers } }

/-! ### Credit at ROUND_START (R102, R112 to R114) -/

/-- A return round has come (R112). -/
def CreditBlock.isDue (b : CreditBlock) (n : Round) : Bool := decide ((n - b.due).toNat ≤ 2 ^ 31 - 1)

/-- Examine a peer's blocks oldest first: a due block returns when the queue allows it (R112). `kept` are the blocks that
stayed. The answer is the blocks left and the credit returned. -/
def returnBlocks (n : Round) (queued limit : Nat) : List CreditBlock → List CreditBlock → List CreditBlock × Nat
  | kept, [] => (kept, 0)
  | kept, b :: bs =>
    if b.isDue n && decide (queued ≤ limit + (kept.map (·.amount)).sum + (bs.map (·.amount)).sum) then
      let (left, back) := returnBlocks n queued limit kept bs
      (left, back + b.amount)
    else returnBlocks n queued limit (kept ++ [b]) bs

/-- A lead's credit for one peer: lent credit and blocks, with the pool. -/
def returnPeer (counts : Vector Nat 16) (n : Round) (l : LeadLink) (p : Fin 16) : LeadLink :=
  let x := l.peers[p]
  let (left, back) := returnBlocks n counts[p] (x.reserve + x.lent) [] x.blocks
  let y : Peer := { x with blocks := left }
  { l with pool := l.pool + back, peers := l.peers.set p y }

/-- Step 1: returns of withdrawn-pending blocks (R112, R114). -/
def returnCredit (counts : Vector Nat 16) (n : Round) (l : LeadLink) : LeadLink :=
  (List.finRange 16).foldl (returnPeer counts n) l

/-- The smallest multiple of 4 not less than a number. -/
def ceilFour (x : Nat) : Nat := (x + 3) / 4 * 4

/-- A reserve above its target is lowered as far as the queue allows (R102, first pass). -/
def Peer.lowerReserve (p : Peer) (queued : Nat) : Peer :=
  if p.target < p.reserve then
    { p with reserve := max p.target (ceilFour (queued - p.lent - p.withdrawn)) }
  else p

/-- The sum of all reserves. -/
def LeadLink.reserves (l : LeadLink) : Nat := (l.peers.toList.map (·.reserve)).sum

/-- A reserve below its target is raised as far as the other reserves allow (R102, second pass). -/
def raiseReserve (l : LeadLink) (p : Fin 16) : LeadLink :=
  let x := l.peers[p]
  if x.reserve < x.target then
    let y : Peer := { x with reserve := min x.target (Config.reserveLimit - (l.reserves - x.reserve)) }
    { l with peers := l.peers.set p y }
  else l

/-- Step 2: reserves move toward their targets (R102, R114). -/
def moveReserves (counts : Vector Nat 16) (l : LeadLink) : LeadLink :=
  (List.finRange 16).foldl raiseReserve
    { l with peers := mapVec (fun i p => p.lowerReserve counts[i]) l.peers }

/-- Withdraw a peer's lent credit into a block returning two rounds later (R113). -/
def Peer.withdraw (p : Peer) (n : Round) : Peer :=
  if p.lent = 0 then p else { p with lent := 0, blocks := p.blocks ++ [⟨p.lent, n + 2#32⟩] }

/-- A peer reported a backlog greater than 0 in the round just ended (R113). -/
def Peer.hasBacklog (p : Peer) : Bool :=
  match p.report with
  | some b => p.configured && decide (0 < b)
  | none => false

/-- One node of the lending pass (R113). -/
def lendPeer (n : Round) (l : LeadLink) (p : Fin 16) : LeadLink :=
  let x := l.peers[p]
  if x.hasBacklog then
    if 4 ≤ l.pool ∧ x.lent < 64 then
      let y : Peer := { x with lent := x.lent + 4 }
      { l with pool := l.pool - 4, pointer := p, peers := l.peers.set p y }
    else l
  else { l with peers := l.peers.set p (x.withdraw n) }

/-- The nodes other than the own node, in cyclic order after the lending pointer (R113). -/
def lendOrder (pointer own : Fin 16) : List (Fin 16) :=
  ((List.finRange 16).map (fun i => pointer + 1 + i)).filter (· ≠ own)

/-- Every peer's report is cleared (R113). -/
def clearReports (l : LeadLink) : LeadLink :=
  { l with peers := mapVec (fun _ p => { p with report := none }) l.peers }

/-- Step 3: lending and withdrawal (R113, R114). -/
def lendCredit (own : Fin 16) (n : Round) (l : LeadLink) : LeadLink :=
  clearReports ((lendOrder l.pointer own).foldl (lendPeer n) l)

/-- The credit steps of a ROUND_START, in their order (R114). -/
def creditSteps (own : Fin 16) (counts : Vector Nat 16) (n : Round) (l : LeadLink) : LeadLink :=
  lendCredit own n (moveReserves counts (returnCredit counts n l))

/-- The credit of the law of R113: the pool, the lent and the withdrawn-pending credit together. -/
def LeadLink.credit (l : LeadLink) : Nat := l.pool + (l.peers.toList.map (fun p => p.lent + p.withdrawn)).sum

/-- A configured node's silence count rises; at 8 an UNKNOWN or PRESENT node becomes SILENT (R103). Configured is the flag of
the latest application, also for a node that a start has since made the own node (log entry 35). -/
def Peer.tickSilence (p : Peer) : Peer :=
  if p.configured then
    let s := min (p.silence + 1) Config.silenceLimit
    { p with
      silence := s
      state := if s = Config.silenceLimit ∧ (p.state = .unknown ∨ p.state = .present) then .silent else p.state }
  else p

/-- A node entered SILENT: its PEER_SILENT entry is asked for (R103). -/
def reportSilent (before : Vector Peer 16) (d : Device) (p : Fin 16) : Device :=
  if d.lead.peers[p].state = .silent ∧ before[p].state ≠ .silent then
    journalRequest { JournalEntry.blank .peerSilent with node := BitVec.ofNat 8 p.val } none d
  else d

/-- Step 4: silence counting (R103, R114). -/
def countSilence (d : Device) : Device :=
  (List.finRange 16).foldl (reportSilent d.lead.peers)
    { d with lead := { d.lead with peers := mapVec (fun _ p => p.tickSilence) d.lead.peers } }

/-- The grant of a node: 0 when it is not configured (R107). -/
def grantOf (d : Device) (p : Fin 16) : Half :=
  let x := d.lead.peers[p]
  if isPeer d p then x.arrived - BitVec.ofNat 16 (inQueue d p) + BitVec.ofNat 16 (x.reserve + x.lent) else 0#16

/-- The period in force. -/
def Rounds.period (r : Rounds) : Nat := (r.inForce.map (·.period)).getD 0

/-- The guard in force. -/
def Rounds.guardTime (r : Rounds) : Nat := (r.inForce.map (·.guardTime)).getD 0

/-- Step 5: the ending round's unsent frames are discarded and the round's mark is placed (R106, R107, R114). -/
def placeMark (d : Device) : Device :=
  { d with lead := { d.lead with transmit :=
    [.mark d.rounds.number d.rounds.period d.rounds.guardTime
      (mapVec (fun p _ => grantOf d p) (Vector.replicate 16 ()))] } }

/-- in_queue_p of every node (R111). -/
def queueCounts (d : Device) : Vector Nat 16 := mapVec (fun p _ => inQueue d p) (Vector.replicate 16 ())

/-- The link controller at a lead ROUND_START (R114). -/
def linkRoundStart (d : Device) : Device :=
  placeMark (owePeers d.lead.peers (countSilence
    { d with lead := creditSteps d.ownNode (queueCounts d) d.rounds.number d.lead }))

/-- A node's WATCH_LIST is placed in the transmit queue when its list is not empty and it is configured (R86, R108). -/
def placeWatchList (ws : List (Fin 16 × Watch)) (d : Device) (p : Fin 16) : Device :=
  let list := (watchesOf ws p).take Config.watchListDepth
  if list ≠ [] ∧ isPeer d p then
    { d with lead := { d.lead with transmit := d.lead.transmit ++ [.watchList p d.rounds.number list] } }
  else d

/-- WATCH_ISSUE: the local list and the followers' lists (R85, R86, R108). -/
def issueWatches (d : Device) : Device :=
  let ws := allWatches d
  (List.finRange 16).foldl (placeWatchList ws)
    { d with taps := { d.taps with localWatches := watchesOf ws d.ownNode } }

/-! ### Frames received at the lead (R103, R104, R109, R110) -/

/-- A well-formed SIGHTING or HELLO makes its source PRESENT with silence count 0 (R103). -/
def Peer.heard (p : Peer) : Peer := { p with state := .present, silence := 0 }

/-- arrived_p rises by 1 (R109). -/
def countArrival (p : Fin 16) (d : Device) : Device :=
  d.setPeer p { d.lead.peers[p] with arrived := d.lead.peers[p].arrived + 1#16 }

/-- A peer's limit: R_p + L_p + W_p (R109, R110). -/
def Peer.limit (p : Peer) : Nat := p.reserve + p.lent + p.withdrawn

/-- The sighting a SIGHTING frame places, with the peer's capabilities as they stand (R109). -/
def remoteSighting (p : Fin 16) (x : Peer) (b : SightingBody) : Sighting :=
  ⟨some p, b.round, ⟨p, b.port, b.slot⟩, b.tone, b.level, b.loss, x.capLevel, x.capEmpty⟩

/-- The journal's CREDIT_VIOLATION entry (R110). -/
def violationEntry (p : Fin 16) (b : SightingBody) : JournalEntry :=
  { JournalEntry.blank .creditViolation with
    node := BitVec.ofNat 8 p.val, tone := b.tone.val, loc := ⟨p, b.port, b.slot⟩, round := b.round }

/-- A well-formed SIGHTING at a RUNNING lead (R109, R110). -/
def takeSighting (p : Fin 16) (b : SightingBody) (d : Device) : Device :=
  let d1 := countArrival p d
  let d2 := d1.setPeer p { d1.lead.peers[p].heard with report := some b.backlog }
  let x := d2.lead.peers[p]
  let d3 := if x.limit ≤ inQueue d2 p then
      journalRequest (violationEntry p b) (some (.creditViolation (BitVec.ofNat 8 p.val)))
        (d2.setPeer p { x with violations := x.violations + 1#32 })
    else pushQueue [remoteSighting p x b] d2
  owePeers d.lead.peers d3

/-- A well-formed HELLO at a RUNNING lead (R104). -/
def takeHello (p : Fin 16) (b : HelloBody) (d : Device) : Device :=
  owePeers d.lead.peers (d.setPeer p { d.lead.peers[p].heard with
    capLevel := b.capLevel, capEmpty := b.capEmpty, hello := some b.state, arrived := b.sent })

/-! ### The follower's end (R116 to R118) -/

/-- The follower's available credit (R116). -/
def availableCredit (f : FollowerLink) : Nat :=
  match f.grant with
  | none => 0
  | some g => if (g - f.sent).toNat < 32768 then (g - f.sent).toNat else 0

/-- The hello logic of an accepted mark: JOINING when FOLLOWING begins, else STEADY at every sixteenth mark (R118). -/
def FollowerLink.markHello (f : FollowerLink) (begins : Bool) : FollowerLink :=
  if begins then { f with hello := some .joining, helloCount := 0 }
  else if f.helloCount + 1 ≥ Config.helloPeriod then
    { f with hello := some (f.hello.getD .steady), helloCount := 0 }
  else { f with helloCount := f.helloCount + 1 }

/-- The lead node of the identity settings in force (R57). -/
def Device.leadNode (d : Device) : Fin 16 := (d.identity.bind (·.leadNode)).getD 0

/-- The framer is ready at a RUNNING follower that is FOLLOWING: a pending HELLO goes first, else the oldest sighting held
against credit (R117). -/
def followerHandOver (d : Device) : Device :=
  match d.follower.hello with
  | some st =>
    { d with
      framer := some (helloFrame d.ownNode d.leadNode d.follower.sent st)
      follower := { d.follower with hello := none } }
  | none =>
    match d.follower.hold with
    | [] => d
    | x :: rest =>
      if 0 < availableCredit d.follower then
        { d with
          framer := some (sightingFrame d.ownNode d.leadNode x rest.length)
          follower := { d.follower with hold := rest, sent := d.follower.sent + 1#16 } }
      else d

/-- The framer is ready at a RUNNING lead: the front frame of the transmit queue is handed over (R98, R106). -/
def leadHandOver (d : Device) : Device :=
  match d.lead.transmit with
  | [] => d
  | f :: rest =>
    { d with framer := some (txFrameBytes d.ownNode f), lead := { d.lead with transmit := rest } }

/-- The framer reports that it is ready (R98, R117). -/
def handOver (d : Device) : Device :=
  if d.leading then leadHandOver d
  else if d.following && d.rounds.leadState == .following then followerHandOver d
  else d

end Sys2Proof.Machine
end

