-- ==== Sys2Proof/Machine/Rounds.lean ====
section
/-! DEFINITION. The round timer (chapter 3): staged settings and their application, the lead's ROUND_START, the follower's
marks, and the reception of frames (R98 to R100, R181). -/

namespace Sys2Proof.Machine

/-! ### Staged settings (R53 to R55) -/

/-- A settings read is in flight. -/
def isSettingsRead : AccessKind → Bool
  | .settingsRead _ => true
  | _ => false

/-- Issue a settings read for a sequence (R53). -/
def readSettings (seq : Half) (d : Device) : Device := issueRead (.settingsRead seq) (boardAddr d 0x100) 1024 d

/-- The round timer takes the settings sequence and HOLD flag of a request area (R53). -/
def takeSequence (area : List Byte) (d : Device) : Device :=
  let seq := areaSequence area
  let d1 := { d with rounds := { d.rounds with hold := areaHold area } }
  if d1.rounds.requested = some seq then d1
  else
    let d2 := { d1 with rounds := { d1.rounds with requested := some seq } }
    if live d2 isSettingsRead then { d2 with rounds := { d2.rounds with readPending := true } }
    else readSettings seq d2

/-- A staged copy exists and no settings read is in flight or pending (R41, R54). -/
def settled (d : Device) : Bool := d.rounds.staged.isSome && !live d isSettingsRead && !d.rounds.readPending

/-- The settings in force derived from a staged copy (R39). -/
def Settings.derived (s : Settings) : Settings :=
  { s with period := derivePeriod s.period, guardTime := deriveGuard (derivePeriod s.period) s.guardTime }

/-- Apply the staged copy as a whole when R54 allows it: period and guard derived, tap table and credit codes passed on,
applied sequence and round recorded, the acknowledgment owed (R39, R40, R54, R55). -/
def applyStaged (d : Device) : Device :=
  match d.rounds.staged with
  | none => d
  | some (seq, s) =>
    if settled d && (!d.rounds.hold || d.rounds.inForce.isNone) then
      let d1 := { d with rounds := { d.rounds with
        inForce := some s.derived, applied := some (seq, d.rounds.number), staged := none } }
      owe .acknowledgment (applyPeers s.peers (applyTaps s.taps d1))
    else d

/-! ### Round starts -/

/-- The reactions every round start brings: the journal's coalescing memory is renewed, windows count down, quarantined
tones come FREE (R30, R74, R173). -/
def commonRoundStart (d : Device) : Device :=
  freeTones (settleWindows { d with journal := { d.journal with memory := [] } })

/-- The lead's schedule for the round that begins now (R42, R43). -/
def scheduleRound (d : Device) : Device :=
  let p := d.rounds.period
  let g := d.rounds.guardTime
  { d with rounds := { d.rounds with
    watchAt := some (d.now + g / 2), nextAt := some (d.now + p), awaitFirst := false
    phase := .scheduled (d.now + g) (d.now + p) } }

/-- The lead's ROUND_START (R42): the round number rises, staged settings may be applied, the round is scheduled, and every
block takes the event. -/
def leadRoundStart (d : Device) : Device :=
  let d1 := { d with rounds := { d.rounds with number := d.rounds.number + 1#32 } }
  linkRoundStart (moveProbes (commonRoundStart (scheduleRound (dropPlan (applyStaged d1)))))

/-- The lead's first ROUND_START after a start is taken as soon as R41 allows it. -/
def firstRound (d : Device) : Device :=
  if d.leading && d.rounds.awaitFirst && settled d then leadRoundStart d else d

/-- The round timer becomes active at a start in LEAD mode: the first ROUND_START at once when settings are in force, else
when a staged copy is settled (R41). -/
def activateLead (d : Device) : Device :=
  if d.rounds.inForce.isSome then leadRoundStart d
  else firstRound { d with rounds := { d.rounds with awaitFirst := true } }

/-- A settings read completes: its contents are staged, a pending read is issued, and the lead's first round may begin
(R41, R53). -/
def settingsTaken (seq : Half) (b : List Byte) (d : Device) : Device :=
  let d1 := { d with rounds := { d.rounds with staged := some (seq, settingsOf b) } }
  let d2 := if d1.rounds.readPending then
      readSettings (d1.rounds.requested.getD seq) { d1 with rounds := { d1.rounds with readPending := false } }
    else d1
  firstRound d2

/-! ### Marks (R45 to R51) -/

/-- A MARK_IGNORED entry's reason codes (11.2.4). -/
def reasonForeign : Nat := 1

/-- See `reasonForeign`. -/
def reasonTooClose : Nat := 2

/-- Ask for a MARK_IGNORED entry (R45 to R47). -/
def journalMark (source : Fin 16) (reason : Nat) (d : Device) : Device :=
  let node := BitVec.ofNat 8 source.val
  journalRequest { JournalEntry.blank .markIgnored with node := node, code := reason } (some (.markIgnored node reason)) d

/-- A foreign mark is ignored and counted (R45, R46, R52). -/
def ignoreForeign (source : Fin 16) (d : Device) : Device :=
  journalMark source reasonForeign
    (owe .markCounters { d with rounds := { d.rounds with marksForeign := d.rounds.marksForeign + 1#32 } })

/-- A mark too close to the last accepted one is ignored and counted (R47, R52). -/
def ignoreTooClose (source : Fin 16) (d : Device) : Device :=
  journalMark source reasonTooClose
    (owe .markCounters { d with rounds := { d.rounds with marksTooClose := d.rounds.marksTooClose + 1#32 } })

/-- A mark arriving now is less than 50 ms after the last accepted one (R47). -/
def tooClose (d : Device) : Bool :=
  match d.rounds.lastMark with
  | none => false
  | some m => decide (d.now < m.arrival + Config.markSpacing)

/-- The time is before the look deadline of the round in progress: a mark accepted now is early (R49). -/
def beforeDeadline (d : Device) : Bool :=
  match d.rounds.phase with
  | .closed => false
  | .scheduled _ deadline => decide (d.now < deadline)
  | .opened deadline => decide (d.now < deadline)

/-- The round in progress ends: an early mark abandons its looks, and its plan and watches are dropped (R49, R97). -/
def endFollowerRound (d : Device) : Device := dropPlan (if beforeDeadline d then abandonLooks d else d)

/-- An accepted mark: the follower's ROUND_START (R48, R51, R54, R116, R118). -/
def acceptMark (m : MarkBody) (d : Device) : Device :=
  let begins := d.rounds.leadState == .leadLost
  let d1 := endFollowerRound d
  let d2 := { d1 with
    rounds := { d1.rounds with
      number := m.round, leadState := .following, lastMark := some ⟨d.now, m.period, m.guardTime⟩
      phase := .scheduled (d.now + m.guardTime) (d.now + m.period) }
    follower := { d1.follower.markHello begins with
      leadLostAt := some (d.now + 4 * m.period), grant := some m.grants[d.ownNode] } }
  commonRoundStart (applyStaged d2)

/-- A well-formed mark at a RUNNING device (R45 to R48). -/
def takeMark (source : Fin 16) (m : MarkBody) (d : Device) : Device :=
  if d.iface.mode = some .lead then ignoreForeign source d
  else if (d.identity.bind (·.leadNode)) ≠ some source then ignoreForeign source d
  else if tooClose d then ignoreTooClose source d
  else acceptMark m d

/-- The lead-lost timer expires (R50, R121). -/
def loseLead (d : Device) : Device :=
  let d1 := dropPlan (abandonLooks d)
  let d2 := { d1 with
    rounds := { d1.rounds with leadState := .leadLost, phase := .closed }
    follower := { d1.follower with hold := [], grant := none, hello := none, leadLostAt := none } }
  journalRequest { JournalEntry.blank .leadLost with node := BitVec.ofNat 8 d.leadNode.val } none (raise .leadLost d2)

/-! ### Reception (R98 to R100, R181) -/

/-- The reasons of a malformed frame (R99, 11.2.4). -/
inductive FrameFault where
  | badKind
  | badSource
  | badField
  | futureRound
  deriving DecidableEq, Repr

/-- The reason codes of a MALFORMED entry (11.2.4). -/
def FrameFault.code : FrameFault → Nat
  | .badKind => 1
  | .badSource => 2
  | .badField => 3
  | .futureRound => 4

/-- A frame as parsed by its kind (R181). -/
inductive Message where
  | mark (source : Fin 16) (body : MarkBody)
  | watchList (round : Round) (entries : List Watch)
  | sighting (source : Fin 16) (body : SightingBody)
  | hello (source : Fin 16) (body : HelloBody)
  deriving DecidableEq, Repr

/-- A round s is later than a round n (R99, R142). -/
def laterThan (s n : Round) : Bool := decide (1 ≤ (s - n).toNat) && decide ((s - n).toNat ≤ 2 ^ 31 - 1)

/-- The kinds the part's mode admits (R99, check 1). -/
def kindAdmitted (mode : Option Mode) (kind : Nat) : Bool :=
  match mode with
  | some .lead => kind == 1 || kind == 3 || kind == 4
  | _ => kind == 1 || kind == 2

/-- The source passes check 2 for its kind (R99, R181). -/
def sourceAdmitted (d : Device) (kind : Nat) (source : Fin 16) : Bool :=
  match kind with
  | 1 => true
  | 2 => (d.identity.bind (·.leadNode)) == some source
  | _ => isPeer d source

/-- The body as check 3 reads it, with the destination check (R99). -/
def parseBody (kind : Nat) (source : Fin 16) (toAll : Bool) (body : List Byte) : Option Message :=
  match kind, toAll with
  | 1, true => (markBody? body).map (.mark source)
  | 2, false => (watchListBody? body).map (fun (r, es) => .watchList r es)
  | 3, false => (sightingBody? body).map (.sighting source)
  | 4, false => (helloBody? body).map (.hello source)
  | _, _ => none

/-- Check 4: at a lead a SIGHTING's round is not later than the current round (R99). -/
def fromFuture (d : Device) : Message → Bool
  | .sighting _ b => laterThan b.round d.rounds.number
  | _ => false

/-- The four checks in their order: the message of a well-formed frame, or the reason (R99). -/
def checkFrame (d : Device) (kind : Nat) (source : Byte) (toAll : Bool) (body : List Byte) : Except FrameFault Message :=
  if !kindAdmitted d.iface.mode kind then .error .badKind
  else match index? 16 source.toNat with
    | none => .error .badSource
    | some p =>
      if !sourceAdmitted d kind p then .error .badSource
      else match parseBody kind p toAll body with
        | none => .error .badField
        | some m => if fromFuture d m then .error .futureRound else .ok m

/-- A malformed SIGHTING from a configured peer that fails check 3 or 4 still counts as arrived (R99, R109). -/
def countMalformedArrival (kind : Nat) (fault : FrameFault) (p : Fin 16) (d : Device) : Device :=
  if kind = 3 ∧ isPeer d p ∧ (fault = .badField ∨ fault = .futureRound) then countArrival p d else d

/-- A malformed frame's count: at a lead the source's malformed count, and none for a source byte above 15 (R181); at a
follower link_malformed, also for such a source byte (R99, log entry 37). -/
def countMalformed (kind : Nat) (source : Byte) (fault : FrameFault) (d : Device) : Device :=
  if d.iface.mode = some .lead then
    match index? 16 source.toNat with
    | none => d
    | some p =>
      let d1 := countMalformedArrival kind fault p d
      owe (.peer p) (d1.setPeer p { d1.lead.peers[p] with malformed := d1.lead.peers[p].malformed + 1#32 })
  else owe .linkCounters { d with follower := { d.follower with malformed := d.follower.malformed + 1#32 } }

/-- A malformed frame is dropped, counted and journaled (R99). -/
def takeMalformed (kind : Nat) (source : Byte) (fault : FrameFault) (d : Device) : Device :=
  journalRequest { JournalEntry.blank .malformed with node := source, second := kind, code := fault.code }
    (some (.malformed source)) (countMalformed kind source fault d)

/-- A well-formed frame is dispatched by its kind (R100). -/
def dispatch (d : Device) : Message → Device
  | .mark source body => takeMark source body d
  | .watchList round entries => takeWatchList round entries d
  | .sighting source body => takeSighting source body d
  | .hello source body => takeHello source body d

/-- A frame addressed to a RUNNING part is checked and dispatched (R98 to R100). -/
def takeRunning (kind : Nat) (source : Byte) (toAll : Bool) (body : List Byte) (d : Device) : Device :=
  match checkFrame d kind source toAll body with
  | .error fault => takeMalformed kind source fault d
  | .ok m => dispatch d m

/-- A frame addressed to the part while STOPPED with MODE LEAD: a SIGHTING of a configured peer counts as arrived (R98). -/
def takeStopped (kind : Nat) (source : Byte) (d : Device) : Device :=
  match index? 16 source.toNat with
  | some p => if kind = 3 ∧ isPeer d p then countArrival p d else d
  | none => d

/-- A destination byte names the part: ALL or the own node (R98, R181). -/
def addressed (d : Device) (dest : Byte) : Bool := dest == 0xFF#8 || dest.toNat == d.ownNode.val

/-- A received frame with a whole header, taken by the device state (R98). -/
def takeFrame (kind : Nat) (source dest : Byte) (body : List Byte) (d : Device) : Device :=
  if !addressed d dest then d
  else if d.iface.start.isSome then d
  else match d.iface.state with
    | .running => takeRunning kind source (dest == 0xFF#8) body d
    | .stopped => if d.iface.mode = some .lead then takeStopped kind source d else d
    | _ => d

/-- A received frame, byte for byte: shorter than 3 bytes it is discarded (R181). -/
def receive (frame : List Byte) (d : Device) : Device :=
  match frame with
  | kind :: source :: dest :: body => takeFrame kind.toNat source dest body d
  | _ => d

end Sys2Proof.Machine
end

