-- ==== Sys2Proof/Machine/Classify.lean ====
section
/-! DEFINITION. The Location Translation Buffer with its directory walks (chapter 7) and the sighting classifier
(chapter 8). -/

namespace Sys2Proof.Machine

/-! ### The LTB (R128, R131) -/

/-- The index of a location within an area (R128). -/
def ltbIndex (l : Location) : Nat := (l.slot.val + 7 * l.port.val + 13 * l.node.val) % 64

/-- The valid entry of a way at a location's index; way A is 0 and way B is 1 (7.4). -/
def Area.way (a : Area) (l : Location) (w : Nat) : Option LtbEntry := Sparse.get a.entries (2 * ltbIndex l + w)

/-- A way's entry carries a tag. -/
def hasTag (l : Location) : Option LtbEntry → Bool
  | some e => e.tag == l
  | none => false

/-- A lookup: the answer of the way whose tag is the key; none is a miss (R128). -/
def Area.lookup (a : Area) (l : Location) : Option Answer :=
  if hasTag l (a.way l 0) then (a.way l 0).map (·.answer)
  else if hasTag l (a.way l 1) then (a.way l 1).map (·.answer)
  else none

/-- The toggle at an index names way B. -/
def Area.togglesB (a : Area) (l : Location) : Bool := a.toggles.getLsbD (ltbIndex l)

/-- The way a fill goes to, and whether the toggle flips (R131). -/
def Area.fillWay (a : Area) (l : Location) : Nat × Bool :=
  if hasTag l (a.way l 0) then (0, false)
  else if hasTag l (a.way l 1) then (1, false)
  else if (a.way l 0).isNone then (0, false)
  else if (a.way l 1).isNone then (1, false)
  else if a.togglesB l then (1, true)
  else (0, true)

/-- Fill an answer into an area (R131). -/
def Area.fill (a : Area) (l : Location) (ans : Answer) : Area :=
  { a with
    entries := Sparse.put a.entries (2 * ltbIndex l + (a.fillWay l).1) ⟨l, ans⟩
    toggles := if (a.fillWay l).2 then a.toggles ^^^ (1#64 <<< ltbIndex l) else a.toggles }

/-- The conditions of a fill (R131). -/
def mayFill (d : Device) (k : Walk) : Bool :=
  d.slots[k.area].generation == k.generation &&
    !(d.slots[k.area].state == .draining &&
      (d.slots[k.area].reason == .planError || d.slots[k.area].reason == .memoryFault))

/-! ### The checks of 8.3 -/

/-- A sighting is stale: two or more rounds old (R141). -/
def isStale (n s : Round) : Bool := decide (2 ≤ (n - s).toNat) && decide ((n - s).toNat ≤ 2 ^ 31 - 1)

/-- What tone resolution gives (R142). -/
inductive Resolution where
  | probe (r : Fin 16) (p : Probe)
  | lateTone
  | stray
  | silent
  deriving DecidableEq, Repr

/-- The tone resolution of a sighting by the tone pool and the probe table (R142). -/
def resolveTone (d : Device) (x : Sighting) : Resolution :=
  match toneHolder d x with
  | some r => match d.probes.records[r] with
    | some p => .probe r p
    | none => .lateTone
  | none => match d.tones[x.tone] with
    | .free => if x.level.isSome then .stray else .silent
    | .stuck => if x.level.isSome then .stray else .silent
    | _ => .lateTone

/-- A round is earlier than another: neither it nor later than it (R144). DEDUCED, unsafe, log entry 41: R142 defines later, by
a distance of 1 to 2^31 - 1, and no rule defines earlier; a round exactly 2^31 from listen_from is read as earlier, so that every
look that passes lies between listen_from and the last listening round, as R144 and the law of R154 have it. -/
def earlierThan (s f : Round) : Bool := s != f && !laterThan s f

/-- A round lies outside a probe's listening rounds: earlier than its first or later than its last, or it has none (R144). -/
def outsideWindow (p : Probe) (s : Round) : Bool :=
  match p.listenFrom, p.lastListen with
  | some f, some l => earlierThan s f || laterThan s l
  | _, _ => true

/-- The outcome of checks 1 to 5 (8.3). -/
inductive Checked where
  | stale
  | lateTone
  | stray
  | silent
  | late (p : Probe)
  | outOfReach (p : Probe)
  | pass (r : Fin 16) (p : Probe)
  deriving DecidableEq, Repr

/-- Checks 3 to 5 of a sighting whose tone resolved to a probe (R143 to R145). -/
def checkProbe (d : Device) (x : Sighting) (r : Fin 16) (p : Probe) : Checked :=
  if d.slots[p.slot].state = .draining ∨ p.state = .evaluating then .late p
  else if outsideWindow p x.round then .late p
  else if d.slots[p.slot].desc.reach.getLsbD x.loc.node.val then .pass r p
  else .outOfReach p

/-- Checks 2 to 5 (R142 to R145). -/
def checkTone (d : Device) (x : Sighting) : Checked :=
  match resolveTone d x with
  | .probe r p => checkProbe d x r p
  | .lateTone => .lateTone
  | .stray => .stray
  | .silent => .silent

/-- Checks 1 to 5 in their order (R141 to R145). -/
def checkEntry (d : Device) (x : Sighting) : Checked := if isStale d.rounds.number x.round then .stale else checkTone d x

/-! ### Counts (R152) -/

/-- A header counter of the classifier. -/
inductive HeaderCount where
  | stale
  | lateTone
  | stray
  deriving DecidableEq, Repr

/-- The classifier after a count. -/
def Classifier.count (c : Classifier) : HeaderCount → Classifier
  | .stale => { c with stale := c.stale + 1#32 }
  | .lateTone => { c with lateTone := c.lateTone + 1#32 }
  | .stray => { c with stray := c.stray + 1#32 }

/-- Count a header counter and owe the counter write (R152). -/
def countHeader (h : HeaderCount) (d : Device) : Device :=
  owe .sightingCounters { d with classifier := d.classifier.count h }

/-- A summary count the classifier makes. -/
inductive SlotCount where
  | late
  | outOfReach
  | unclassified
  deriving DecidableEq, Repr

/-- A summary after a count. -/
def Summary.tally (s : Summary) : SlotCount → Summary
  | .late => { s with lateDiscard := s.lateDiscard + 1#32 }
  | .outOfReach => { s with outOfReach := s.outOfReach + 1#32 }
  | .unclassified => { s with unclassified := s.unclassified + 1#32 }

/-- Count for a campaign, provided its slot still holds the generation (R152). -/
def countSlot (k : SlotCount) (n : Fin 8) (generation : Half) (d : Device) : Device :=
  if d.slots[n].generation = generation then
    d.setSlot n { d.slots[n] with summary := d.slots[n].summary.tally k }
  else d

/-! ### Outcomes (R146 to R150, R154) -/

/-- The journal fields every finding of a probe names. -/
def findingEntry (kind : JournalKind) (p : Probe) (x : Sighting) : JournalEntry :=
  { JournalEntry.blank kind with
    slot := p.slot.val, generation := p.generation, circuit := p.circuit, tone := x.tone.val, loc := x.loc
    round := x.round }

/-- The STRAY entry's tone state code (11.2.4). -/
def strayCode (t : ToneState) : Nat := if t = .stuck then 3 else 0

/-- A STRAY sighting (R150). -/
def takeStray (x : Sighting) (d : Device) : Device :=
  journalRequest { JournalEntry.blank .stray with
    node := match x.source with | some p => BitVec.ofNat 8 p.val | none => 0xFF#8
    tone := x.tone.val, loc := x.loc, code := strayCode d.tones[x.tone], level := x.level.getD 0, round := x.round }
    (some (.stray x.tone.val)) (countHeader .stray d)

/-- A CROSS finding with another circuit (R149). -/
def takeCross (r : Fin 16) (p : Probe) (other : Nat) (x : Sighting) (d : Device) : Device :=
  if p.cross.isSome then d
  else journalRequest { findingEntry .cross p x with second := other } none
    (d.setRecord r (some { p with cross := some other }))

/-- A MISROUTE finding (R149). -/
def takeMisroute (r : Fin 16) (p : Probe) (x : Sighting) (d : Device) : Device :=
  if p.misroute.isSome then d
  else journalRequest (findingEntry .misroute p x) none (d.setRecord r (some { p with misroute := some x.loc }))

/-- A probe after an accepted look at a hop (R154, steps 1 to 3). -/
def Probe.look (p : Probe) (h : Nat) (hop : Hop) (a : Accumulator) (x : Sighting) : Probe :=
  { p with accums := p.accums.set h (a.accept hop p.record.depth x) }

/-- The accepted look is the probe's first leak (R154, step 4). -/
def makesLeak (p : Probe) (hop : Hop) (x : Sighting) : Bool := hop.role == .guarded && x.level.isSome && p.leak.isNone

/-- A look offered to a hop: taken or ignored, the leak finding, and early completion (R77, R148, R154). -/
def offerLook (r : Fin 16) (p : Probe) (h : Nat) (hop : Hop) (x : Sighting) (d : Device) : Device :=
  match p.accums[h]? with
  | none => d
  | some a =>
    if lookIgnored a p.record.looks x then d
    else
      let q := p.look h hop a x
      let q' := if makesLeak p hop x then { q with leak := some h } else q
      let d1 := d.setRecord r (some q')
      let d2 := if makesLeak p hop x then journalRequest { findingEntry .leak p x with second := h } none d1 else d1
      if q'.complete then completeEarly r q' d2 else d2

/-- An answer confirms the probe's own hop (R146, first row). -/
def confirmsHop (hop : Hop) (x : Sighting) (role : Byte) (powerCheck : Bool) : Bool :=
  hop.loc == x.loc && hop.role.code == role && hop.powerCheck == powerCheck

/-- A found sighting that is unclassified is counted; an EMPTY one is discarded (R146, R147). -/
def takeUnclassified (p : Probe) (x : Sighting) (d : Device) : Device :=
  if x.level.isSome then countSlot .unclassified p.slot p.generation d else d

/-- An LTB answer applied to a sighting of a probe (R146). -/
def applyAnswer (r : Fin 16) (p : Probe) (x : Sighting) (ans : Answer) (d : Device) : Device :=
  match ans with
  | .expect c h role powerCheck =>
    if c = p.circuit then
      match p.record.hops[h]? with
      | some hop => if confirmsHop hop x role powerCheck then offerLook r p h hop x d else takeUnclassified p x d
      | none => takeUnclassified p x d
    else if x.level.isSome then takeCross r p c x d
    else d
  | .nothing => if x.level.isSome then takeMisroute r p x d else d

/-- The hop of a probe at a location (R124). -/
def bypassHop (p : Probe) (l : Location) : Option (Nat × Hop) :=
  (p.record.hops.zipIdx.find? (fun (h, _) => h.loc == l)).map (fun (h, i) => (i, h))

/-- A translation in bypass mode (R124, R147). -/
def applyBypass (r : Fin 16) (p : Probe) (x : Sighting) (d : Device) : Device :=
  match bypassHop p x.loc with
  | some (h, hop) => offerLook r p h hop x d
  | none => takeUnclassified p x d

/-- The outcome of an entry that a check before translation decided. -/
def applyChecked (x : Sighting) (o : Checked) (d : Device) : Device :=
  match o with
  | .stale => countHeader .stale d
  | .lateTone => countHeader .lateTone d
  | .stray => takeStray x d
  | .silent => d
  | .late p => countSlot .late p.slot p.generation d
  | .outOfReach p => countSlot .outOfReach p.slot p.generation d
  | .pass _ _ => d

/-! ### Departures, parking and stalls (R129, R138) -/

/-- An entry leaves the queue; a local departure serves the HOLDING detectors (R94, R138). -/
def depart (i : Nat) (d : Device) : Device :=
  match d.classifier.queue[i]? with
  | none => d
  | some e =>
    let d1 := d.setQueue (d.classifier.queue.eraseIdx i)
    if e.sighting.source = none then serveHolding d1 else d1

/-- Change the entry at a place of the queue. -/
def setEntry (i : Nat) (e : QueueEntry) (d : Device) : Device := d.setQueue (d.classifier.queue.set i e)

/-- The walk in flight for an area and a key (R129, test 1). -/
def walkFor (d : Device) (area : Fin 8) (key : Location) : Option (Fin 4) :=
  (List.finRange 4).find? (fun w => match d.walks[w] with
    | some k => k.area == area && k.key == key
    | none => false)

/-- The lowest-numbered FREE walk record (R129, test 2). -/
def freeWalk? (d : Device) : Option (Fin 4) := (List.finRange 4).find? (fun w => d.walks[w].isNone)

/-- A walk begins: the record is taken and the node directory entry is read (R122, R129). -/
def startWalk (w : Fin 4) (area : Fin 8) (key : Location) (d : Device) : Device :=
  issueRead (.walkRead w) (d.slots[area].desc.directoryBase + 8 * key.node.val) 8
    (d.setWalk w (some ⟨.node, area, d.slots[area].generation, key, 0, 0, 0, 0⟩))

/-- A miss: the entry parks on the walk of its key, or starts one, or the classifier stalls (R129). -/
def missEntry (i : Nat) (e : QueueEntry) (area : Fin 8) (d : Device) : Device :=
  match walkFor d area e.sighting.loc with
  | some w => setEntry i { e with parked := some w } d
  | none => match freeWalk? d with
    | some w => startWalk w area e.sighting.loc (setEntry i { e with parked := some w } d)
    | none => { d with classifier := { d.classifier with stalled := true } }

/-- The memo of a probe (R142). -/
def memoOf (r : Fin 16) (p : Probe) : Memo := ⟨r, p.slot, p.generation, p.circuit⟩

/-- Translate an entry that passed the checks (R146, R147). -/
def translateEntry (i : Nat) (e : QueueEntry) (r : Fin 16) (p : Probe) (d : Device) : Device :=
  if d.slots[p.slot].desc.directoryBase = 0 then depart i (applyBypass r p e.sighting d)
  else match d.areas[p.slot].lookup e.sighting.loc with
    | some ans => depart i (applyAnswer r p e.sighting ans d)
    | none => missEntry i e p.slot d

/-- Present the entry at a place of the queue to the classifier (R140 to R147). -/
def presentEntry (i : Nat) (d : Device) : Device :=
  match d.classifier.queue[i]? with
  | none => d
  | some e => match checkEntry d e.sighting with
    | .pass r p =>
      let e' := { e with memo := some (memoOf r p) }
      translateEntry i e' r p (setEntry i e' d)
    | o => depart i (applyChecked e.sighting o d)

/-- The place of the oldest entry that is not parked (R140). -/
def nextEntry (d : Device) : Option Nat := d.classifier.queue.findIdx? (fun e => e.parked.isNone)

/-- The classifier takes its next entry when it is idle (R140). -/
def classifyNext (d : Device) : Device :=
  if d.leading && !d.classifier.stalled then
    match nextEntry d with
    | some i => presentEntry i d
    | none => d
  else d

/-- After a walk's end the stalled entry is presented again and the classifier is idle (R140). -/
def unstall (d : Device) : Device :=
  if d.classifier.stalled then classifyNext { d with classifier := { d.classifier with stalled := false } } else d

/-! ### Hand-back (R131, R151) -/

/-- The memo's campaign is DRAINING, or its probe is EVALUATING (R151). -/
def memoLate (d : Device) (m : Memo) : Bool :=
  (d.slots[m.slot].generation == m.generation && d.slots[m.slot].state == .draining) ||
    match d.probes.records[m.record] with
    | some p => p.state == .evaluating && p.slot == m.slot && p.generation == m.generation && p.circuit == m.circuit
    | none => false

/-- The outcome of a handed-back sighting with its walk's answer, or none (R151). -/
def applyHandedBack (x : Sighting) (m : Memo) (ans : Option Answer) (d : Device) : Device :=
  if isStale d.rounds.number x.round then countHeader .stale d
  else if memoLate d m then countSlot .late m.slot m.generation d
  else match resolveTone d x with
    | .probe r p =>
      if memoOf r p ≠ m then countHeader .lateTone d
      else match checkProbe d x r p, ans with
        | .pass _ _, some a => applyAnswer r p x a d
        | .pass _ _, none => countSlot .late m.slot m.generation d
        | o, _ => applyChecked x o d
    | .lateTone => countHeader .lateTone d
    | .stray => takeStray x d
    | .silent => d

/-- Hand back the entries parked on a walk record in their arrival order (R131, R151). -/
def handBack (w : Fin 4) (ans : Option Answer) : Nat → Device → Device
  | 0, d => d
  | n + 1, d =>
    match d.classifier.queue.findIdx? (fun e => e.parked == some w) with
    | none => d
    | some i => match d.classifier.queue[i]? with
      | some ⟨x, _, some m⟩ => handBack w ans n (depart i (applyHandedBack x m ans d))
      | _ => handBack w ans n (depart i d)

/-- A walk ends: its record is FREE, its parked sightings are handed back, and a stalled entry is presented again
(R130, R131, R140). -/
def releaseWalk (w : Fin 4) (ans : Option Answer) (d : Device) : Device :=
  unstall (handBack w ans d.classifier.queue.length (d.setWalk w none))

/-- A walk ends with a result, filled when R131 allows; a changed generation gives no answer. -/
def endWithAnswer (w : Fin 4) (k : Walk) (ans : Answer) (d : Device) : Device :=
  let d1 := if mayFill d k then d.setArea k.area (d.areas[k.area].fill k.key ans) else d
  releaseWalk w (if d.slots[k.area].generation = k.generation then some ans else none) d1

/-- The reasons of a directory inconsistency (R126, 11.2.4). -/
inductive PlanFault where
  | badPointer (level : Nat)
  | badIndex (c h : Nat)
  | badHop (c h : Nat)
  | badLocation (c h : Nat)
  deriving DecidableEq, Repr

/-- The PLAN_ERROR entry of an inconsistency (R126, 11.2.4). -/
def planErrorEntry (k : Walk) (f : PlanFault) : JournalEntry :=
  let e := { JournalEntry.blank .planError with slot := k.area.val, generation := k.generation, loc := k.key }
  match f with
  | .badPointer level => { e with code := 1, second := level }
  | .badIndex c h => { e with code := 2, circuit := c, second := h }
  | .badHop c h => { e with code := 3, circuit := c, second := h }
  | .badLocation c h => { e with code := 4, circuit := c, second := h }

/-- A walk ends with an inconsistency (R126). -/
def endWithFault (w : Fin 4) (k : Walk) (f : PlanFault) (d : Device) : Device :=
  releaseWalk w none
    (journalRequest (planErrorEntry k f) (some (.planError k.area.val)) (drainSlot k.area .planError d))

/-- A walk ends with a read fault (R127). -/
def endWithReadFault (w : Fin 4) (k : Walk) (d : Device) : Device :=
  releaseWalk w none (drainSlot k.area .memoryFault d)

/-! ### Walk reads (R122 to R125, R130) -/

/-- The hop number a slot table entry names (11.2.2). -/
def slotEntryHop (b : List Byte) : Nat := ((word b 0).extractLsb' 16 4).toNat

/-- The circuit index a slot table entry names (11.2.2). -/
def slotEntryCircuit (b : List Byte) : Nat := ((word b 0).extractLsb' 0 12).toNat

/-- Hop entry h of a circuit record lies at a location, as read (R125). -/
def hopAt (b : List Byte) (h : Nat) (l : Location) : Bool :=
  u8 b (16 + 16 * h) == l.node.val && u8 b (17 + 16 * h) == l.port.val && u8 b (18 + 16 * h) == l.slot.val

/-- The circuit record read judged (R125). -/
def judgeCircuit (w : Fin 4) (k : Walk) (b : List Byte) (d : Device) : Device :=
  if u8 b 7 ≤ k.hop then endWithFault w k (.badHop k.circuit k.hop) d
  else if hopAt b k.hop k.key then
    endWithAnswer w k (.expect k.circuit k.hop (byteAt b (19 + 16 * k.hop)) (bitAt b (20 + 16 * k.hop) 0)) d
  else endWithFault w k (.badLocation k.circuit k.hop) d

/-- A walk advances on the successful completion of its read (R130). -/
def advanceWalk (w : Fin 4) (k : Walk) (b : List Byte) (d : Device) : Device :=
  match k.state with
  | .node =>
    if u64 b 0 = 0 then endWithAnswer w k .nothing d
    else if pointerOk d.iface.bounds (u64 b 0) 256 then
      issueRead (.walkRead w) (u64 b 0 + 8 * k.key.port.val) 8
        (d.setWalk w (some { k with state := .port, portTable := u64 b 0 }))
    else endWithFault w k (.badPointer 1) d
  | .port =>
    if u64 b 0 = 0 then endWithAnswer w k .nothing d
    else if pointerOk d.iface.bounds (u64 b 0) 384 then
      issueRead (.walkRead w) (u64 b 0 + 4 * k.key.slot.val) 4
        (d.setWalk w (some { k with state := .slot, slotTable := u64 b 0 }))
    else endWithFault w k (.badPointer 2) d
  | .slot =>
    if (word b 0).getLsbD 31 then
      if slotEntryCircuit b < d.slots[k.area].desc.count then
        issueRead (.walkRead w) (d.slots[k.area].desc.circuitBase + slotEntryCircuit b * Config.circuitBytes)
          (16 + 16 * (slotEntryHop b + 1))
          (d.setWalk w (some { k with state := .circuit, circuit := slotEntryCircuit b, hop := slotEntryHop b }))
      else endWithFault w k (.badIndex (slotEntryCircuit b) (slotEntryHop b)) d
    else endWithAnswer w k .nothing d
  | .circuit => judgeCircuit w k b d

/-- A walk read completes (R130). -/
def walkRead (w : Fin 4) (result : ReadResult) (d : Device) : Device :=
  match d.walks[w] with
  | none => d
  | some k => match result with
    | .failed => endWithReadFault w k d
    | .bytes b => advanceWalk w k b d

end Sys2Proof.Machine
end

