-- ==== Sys2Proof/Machine/Device.lean ====
section
/-! DEFINITION. The device as a whole (1.2 to 1.4): halts, FAULTED, board and cold resets, starts, board scans, the failure
of each kind of access, what every step settles before it ends, and the completion of board accesses. -/

namespace Sys2Proof.Machine

/-! ### What a halt and an entry to FAULTED do to the other blocks (R8, R11) -/

/-- The round timer and the follower's timing stop (R44, R51). -/
def stopRounds (d : Device) : Device :=
  { d with rounds := { d.rounds with watchAt := none, nextAt := none, awaitFirst := false, phase := .closed } }

/-- A peer's credit at a halt: all lent and withdrawn credit returned, no report (R115). -/
def Peer.atHalt (p : Peer) : Peer := { p with lent := 0, blocks := [], report := none }

/-- The link controller at a halt (R106, R115, R118, R121). -/
def stopLink (d : Device) : Device :=
  owePeers d.lead.peers { d with
    lead := { d.lead with pool := Config.creditPool, transmit := [], peers := mapVec (fun _ p => p.atHalt) d.lead.peers }
    follower := { d.follower with hold := [], grant := none, hello := none, leadLostAt := none } }

/-- The sighting queue is emptied and the classifier is idle (R139). -/
def emptyQueue (d : Device) : Device :=
  { d with classifier := { d.classifier with queue := [], stalled := false } }

/-- Every other block takes a halt (R8, R80, R96, R139). -/
def haltBlocks (d : Device) : Device :=
  emptyQueue (stopDetectors (stopLink (stopRounds (voidProbes (fun _ => true) d))))

/-- The access is a scan read. -/
def isScanRead : AccessKind → Bool
  | .scanRead => true
  | _ => false

/-- The halt of a RUNNING device (R8, R176). -/
def halt (d : Device) : Device :=
  let d1 := discardWhere (fun a => isScanRead a.kind) { d with
    iface := { d.iface with state := .stopped, scanTimer := none, scanPending := false }
    regs := { d.regs with run := false }
    journal := { d.journal with readPending := false } }
  haltBlocks d1

/-- Entry to FAULTED with a reason; a device already FAULTED keeps its reason (R5, R7, R11, R132, R176). -/
def enterFaulted (reason : FaultReason) (d : Device) : Device :=
  if d.iface.state = .faulted then d
  else
    let d1 := discardAll { d with
      iface := { d.iface with
        state := .faulted, start := none, reason := reason, scanTimer := none, scanPending := false }
      regs := { d.regs with run := false }
      walks := Vector.replicate 4 none
      journal := { d.journal with requests := [], readPending := false } }
    haltBlocks (raise .deviceFault d1)

/-! ### Resets (R9, R10) -/

/-- A slot after a board reset: generation and last-seen sequence are kept (R9). -/
def Slot.atBoardReset (s : Slot) : Slot := { Slot.cold with generation := s.generation, lastSeq := s.lastSeq }

/-- The points a board reset stops: contexts not IDLE in ascending order, then the stuck list (R66, R71). -/
def resetPoints (l : Launch) : List Byte :=
  (l.contexts.toList.filter (fun c => c.state != .idle)).map (·.point) ++ l.stuck.map (·.point)

/-- The launch controller at a board reset (R71). -/
def resetLaunch (d : Device) : Device :=
  (resetPoints d.launch).foldl (fun d p => sendCommand (.stop p none) d)
    { d with launch := ⟨Vector.replicate 8 Context.cold, d.launch.sending.map BusCommand.orphan, [], [], []⟩ }

/-- The journal writer at a board reset: the ring is kept, unused (R172). -/
def Journal.atBoardReset (j : Journal) : Journal := { Journal.cold with ring := j.ring }

/-- The board reset (R9 and the reset rows of every chapter). -/
def boardReset (d : Device) : Device :=
  let d1 := discardAll (resetLaunch d)
  { d1 with
    regs := { d1.regs with run := false, irqCause := 0#5 }
    iface := { d1.iface with
      state := .stopped, fresh := true, start := none, reason := .none, scanTimer := none, scanPending := false }
    slots := mapVec (fun _ s => s.atBoardReset) d1.slots
    sched := Vector.replicate 8 SlotSchedule.cold
    windows := Vector.replicate 4 Window.cold
    rounds := Rounds.cold
    probes := ProbeTable.cold
    tones := Vector.replicate 48 .free
    taps := TapArray.cold
    lead := LeadLink.cold
    follower := FollowerLink.cold
    areas := Vector.replicate 8 Area.cold
    walks := Vector.replicate 4 none
    classifier := Classifier.cold
    journal := d1.journal.atBoardReset }

/-- The cold reset (R10): the clock, the fuses, the frame already at the framer (R98) and the accesses still on the bus, all
discarded (log entry 18), are not the part's state. -/
def coldReset (d : Device) : Device :=
  { Device.cold with now := d.now, fuses := d.fuses, framer := d.framer, dma := (discardAll d).dma }

/-! ### Board scans (R14, R15) -/

/-- Issue a scan read (R14). -/
def issueScan (d : Device) : Device := issueRead .scanRead (boardAddr d 0x100) 112 d

/-- A scan is requested of a RUNNING device (R14). A scan read that a halt left in flight, its completion to be discarded (R8),
holds back no new one: DESIGN CHOICE, log entry 38. -/
def requestScan (d : Device) : Device :=
  if live d isScanRead then { d with iface := { d.iface with scanPending := true } } else issueScan d

/-- The completion of a board scan with its request area (R15, R175). -/
def scanComplete (area : List Byte) (d : Device) : Device :=
  let d1 := applyWants area (takeSequence area d)
  let d2 := (List.finRange 8).foldl (judgeRequest area) d1
  readConsumed ((List.finRange 8).foldl progressShadow d2)

/-- A scan read completes; a pending scan is issued (R14, R15). -/
def scanTaken (area : List Byte) (d : Device) : Device :=
  let d1 := scanComplete area d
  if d1.iface.scanPending then issueScan { d1 with iface := { d1.iface with scanPending := false } } else d1

/-! ### Starts (R6, R7) -/

/-- The board registers pass start step 1 (R6). -/
def windowRegistersOk (r : Regs) : Bool :=
  boardBase r != 0 && r.windowSize.toNat != 0 && decide (boardBase r + r.windowSize.toNat ≤ 2 ^ 64)

/-- A start begins: step 1, and the header read of step 2 (R6). -/
def beginStart (d : Device) : Device :=
  if windowRegistersOk d.regs then
    issue .startHeaderRead (boardBase d.regs) 256 [] true { d with
      regs := { d.regs with run := true }
      iface := { d.iface with
        bounds := some ⟨boardBase d.regs, d.regs.windowSize.toNat⟩, start := some ⟨.headerRead, [], []⟩ } }
  else enterFaulted .noWindow d

/-- A start is abandoned (R7). -/
def abandonStart (d : Device) : Device :=
  dropStartAccesses { d with
    iface := { d.iface with start := none }, regs := { d.regs with run := false } }

/-- The header read completes: step 3, and the request area read of step 4 (R6, R172). -/
def startHeaderTaken (b : List Byte) (d : Device) : Device :=
  match identity? b with
  | none => enterFaulted .badIdentity d
  | some i =>
    if journalOk d.iface.bounds i then
      issue .startRequestRead (boardAddr d 0x100) 112 [] true
        { d with iface := { d.iface with start := some ⟨.requestRead, b, []⟩ } }
    else enterFaulted .badJournal { d with journal := { d.journal with usable := false } }

/-- With the fresh-start flag set each slot's last-seen sequence is the one just read (R6, step 4). -/
def adoptSequences (area : List Byte) (d : Device) : Device :=
  if d.iface.fresh then
    { d with slots := mapVec (fun n s => { s with lastSeq := requestSequence area n }) d.slots }
  else d

/-- The peer status writes of start step 5, in LEAD mode (R105). -/
def startPeerWrites (mode : Mode) (d : Device) : Device :=
  if mode = .lead then (List.finRange 16).foldl (fun d p => oweAs true (.peer p) d) d else d

/-- The mode of a start in progress. -/
def startMode (b : List Byte) : Mode := ((identity? b).map (·.mode)).getD .lead

/-- The request area read completes: step 4's end and the writes of step 5 (R6). -/
def startRequestTaken (st : Start) (b : List Byte) (d : Device) : Device :=
  let d1 := adoptSequences b { d with iface := { d.iface with start := some ⟨.headerWrite, st.header, b⟩ } }
  startPeerWrites (startMode st.header)
    (issue .startHeaderWrite (boardAddr d1 0) 76 (headerBytes d1 st.header) true d1)

/-- A slot's shadow write of start step 6 (R6). -/
def startShadow (d : Device) (n : Fin 8) : Device :=
  issue (.startShadowWrite n) (boardAddr d (0x620 + 0x100 * n.val)) 16 (shadowBytes d.slots[n].state d.slots[n]) true d

/-- The identity, the journal ring and the device state a completed start sets (R5, R6, R57, R172). -/
def enterRunning (i : Identity) (header : List Byte) (d : Device) : Device :=
  { d with
    iface := { d.iface with
      state := .running, start := none, fresh := false, mode := some i.mode
      scanTimer := some (d.now + Config.scanPeriod), scanPending := false }
    identity := some i
    journal := { d.journal with
      ring := some ⟨i.journalBase, i.journalSize⟩, usable := true, consumed := word header 0x18, memory := [] } }

/-- A peer at a start that completes in LEAD mode (R103, R115). Its configured flag stays as the latest application set it,
also where the start changes the own node (log entry 35). -/
def Peer.atLeadStart (p : Peer) : Peer :=
  if p.configured then { p with state := .unknown, silence := 0, report := none } else { p with report := none }

/-- The lead's link state at a completed start (R103, R115). -/
def startLeadLink (d : Device) : Device :=
  owePeers d.lead.peers { d with lead := { d.lead with peers := mapVec (fun _ p => p.atLeadStart) d.lead.peers } }

/-- The follower's timing and link state at a completed start (R50, R51, R118, R121). -/
def startFollower (d : Device) : Device :=
  { d with
    rounds := { d.rounds with leadState := .following, lastMark := none, phase := .closed }
    follower := { d.follower with
      grant := none, hello := some .joining, helloCount := 0, leadLostAt := some (d.now + Config.leadLostStart) } }

/-- A campaign a start in FOLLOW mode drains (R6). -/
def SlotState.waitsOrRuns (st : SlotState) : Bool := st == .waiting || st == .running || st == .suspended

/-- A slot at the end of a start in FOLLOW mode (R6, R22). -/
def drainAtFollowStart (d : Device) (n : Fin 8) : Device :=
  if d.slots[n].state.waitsOrRuns then drainSlot n .aborted d else d

/-- The mode's own state at the moment RUNNING is entered. -/
def startMode1 (m : Mode) (d : Device) : Device := if m = .lead then startLeadLink d else startFollower d

/-- What a completed start does by its mode after the request area is applied (R6, R33, R41). -/
def startMode2 (m : Mode) (d : Device) : Device :=
  if m = .lead then activateLead ((List.finRange 8).foldl resumeAtStart d)
  else (List.finRange 8).foldl drainAtFollowStart d

/-- Step 7: the start completes (R6, R32). -/
def completeStart (st : Start) (d : Device) : Device :=
  match identity? st.header with
  | none => d
  | some i =>
    let d1 := scanComplete st.request (startMode1 i.mode (releaseStartAccesses (enterRunning i st.header d)))
    startMode2 i.mode ((List.finRange 4).foldl (fun d w => owe (.window w) d) d1)

/-- The header write completes: step 6, or the start completes (R6). -/
def startHeaderWritten (st : Start) (d : Device) : Device :=
  if d.iface.fresh then
    (List.finRange 8).foldl startShadow { d with iface := { d.iface with start := some { st with step := .shadowWrites } } }
  else completeStart st d

/-- The access is a shadow write of start step 6. -/
def isStartShadow : AccessKind → Bool
  | .startShadowWrite _ => true
  | _ => false

/-- A shadow write of step 6 completes: the last of this start's lets it complete (R6); one of a start abandoned earlier does
not count (log entry 38). -/
def startShadowWritten (st : Start) (d : Device) : Device :=
  if live d isStartShadow then d else completeStart st d

/-- Do what a start in progress does next; nothing when none is in progress. -/
def withStart (f : Start → Device → Device) (d : Device) : Device :=
  match d.iface.start with
  | some st => f st d
  | none => d

/-! ### Circuit fetches (R60, R61) -/

/-- A circuit that fails its checks at fetch: IN_FLIGHT with a PLAN_ERROR verdict write (R60, R169, R170). -/
def planErrorAtFetch (n : Fin 8) (p : Fin 2) (c : Nat) (b : List Byte) (d : Device) : Device :=
  let d1 := setStatus n c .inFlight (d.setPlace n p .empty)
  if verdictWithheld n d1 then d1
  else issueVerdict n c none
    (planErrorVerdict (word b 0) d.slots[n].generation (circuitEntry d n c).voids) d1

/-- A circuit fetch completes (R60, R61). -/
def circuitFetched (n : Fin 8) (p : Fin 2) (c : Nat) (b : List Byte) (d : Device) : Device :=
  if d.slots[n].state = .draining then d.setPlace n p .empty
  else match circuit? d.slots[n].desc.reach d.slots[n].desc.nmax b with
    | some record => d.setPlace n p (.fetched c record)
    | none => planErrorAtFetch n p c b d

/-! ### Failures and what a step settles (R12, R13) -/

/-- The failure of an access, refused by R12 or failed on PCIe (R7, R13 and the rule that owns the access). DESIGN CHOICE, unsafe,
log entry 42: R61 discards a fetch completion that reaches a DRAINING slot and also makes a failed fetch read a campaign-scoped
failure; one that fails while its slot is DRAINING is taken as the failure, which replaces ABORTED or PLAN_ERROR (R22). -/
def failAccess (kind : AccessKind) (d : Device) : Device :=
  match kind with
  | .startHeaderRead => enterFaulted .headerFault d
  | .startRequestRead => enterFaulted .scanFault d
  | .startHeaderWrite => enterFaulted .headerFault d
  | .startShadowWrite _ => enterFaulted .slotWriteFault d
  | .scanRead => enterFaulted .scanFault d
  | .descriptorRead n => validated n .failed d
  | .channelWrite (.shadow _) closing _ => enterFaulted (if closing then .closeFault else .slotWriteFault) d
  | .channelWrite _ _ _ => enterFaulted .headerFault d
  | .notRunWrite n _ => notRunFailed n d
  | .summaryWrite _ => enterFaulted .closeFault d
  | .settingsRead _ => enterFaulted .headerFault d
  | .journalWrite => enterFaulted .journalFault d
  | .consumedRead => enterFaulted .headerFault d
  | .circuitFetch n p _ => drainSlot n .memoryFault (d.setPlace n p .empty)
  | .verdictWrite n _ _ record _ _ => verdictFailed n record d
  | .walkRead w => walkRead w .failed d

/-- Admission, then fetches, then the drain tests (R23, R59, R65). DESIGN CHOICE, unsafe, log entry 43: the arbiter runs in every
step, and so also at once when an ACK_OFF or NACK makes a context IDLE that a GRACE probe owns. R65 says that the arbiter runs "on
each event that can make a circuit admissible", which that event can be by R62's fifth condition, but its list does not name it:
there it leaves open when the arbiter next runs. -/
def settleOnce (d : Device) : Device := closeDrained (fetchAll (admitAll d))

/-- Handle the accesses R12 refused, then give probes, fetch and close, until no refused access is left. -/
def settleSteps : Nat → Device → Device
  | 0, d => d
  | n + 1, d =>
    match d.dma.refused with
    | a :: rest => settleSteps n (failAccess a.kind { d with dma := { d.dma with refused := rest } })
    | [] => if (settleOnce d).dma.refused.isEmpty then settleOnce d else settleSteps n (settleOnce d)

/-- What every step settles before it ends, and then its launch bus commands go out; one step brings fewer refused accesses
than the count given. -/
def settle (d : Device) : Device := sendIssued (settleSteps 256 d)

/-! ### CONTROL and NUDGE (R3, R4) -/

/-- CONTROL written with RUN = 1 and BOARD_RESET = 0 (R3). -/
def runSet (d : Device) : Device :=
  match d.iface.state, d.iface.start with
  | .detached, none => settle (beginStart d)
  | .stopped, none => settle (beginStart d)
  | _, _ => d

/-- CONTROL written with RUN = 0 and BOARD_RESET = 0 (R3). -/
def runClear (d : Device) : Device :=
  if d.iface.start.isSome then abandonStart d
  else if d.iface.state = .running then settle (halt d)
  else d

/-- NUDGE written (R4). -/
def nudge (d : Device) : Device := if d.running && d.iface.start.isNone then settle (requestScan d) else d

/-- A value stored by WINDOW_SIZE (R2). -/
def storedSize (v : Word) : Word := BitVec.ofNat 32 (clampNat 0x10000 0x10000000 (v.toNat / 4096 * 4096))

/-- WINDOW_SIZE written (R2). -/
def writeWindowSize (v : Word) (d : Device) : Device := { d with regs := { d.regs with windowSize := storedSize v } }

/-- IRQ_CAUSE written: causes written 1 are cleared, and with JOURNAL the overflow-notified flag (R175, R177). -/
def writeIrqCause (v : Word) (d : Device) : Device :=
  { d with
    regs := { d.regs with irqCause := d.regs.irqCause &&& ~~~(v.setWidth 5) }
    journal := { d.journal with notified := d.journal.notified && !v.getLsbD 1 } }

/-- IRQ_MASK written (R178). -/
def writeIrqMask (v : Word) (d : Device) : Device := { d with regs := { d.regs with irqMask := v.setWidth 5 } }

/-- CONTROL written with a whole word (R3). -/
def writeControl (v : Word) (d : Device) : Device :=
  if v.getLsbD 1 then boardReset d else if v.getLsbD 0 then runSet d else runClear d

/-- A full aligned word written at a BAR offset (R1). -/
def writeRegister (offset : Nat) (v : Word) (d : Device) : Device :=
  match offset with
  | 0x004 => writeControl v d
  | 0x00C => nudge d
  | 0x010 => { d with regs := { d.regs with baseLo := v &&& 0xFFFFF000#32 } }
  | 0x014 => { d with regs := { d.regs with baseHi := v } }
  | 0x018 => writeWindowSize v d
  | 0x01C => writeIrqCause v d
  | 0x020 => writeIrqMask v d
  | _ => d

/-- A BAR write of some size: narrow and unaligned writes are discarded (R1), and so is one wider than 32 bits, of which R1
says nothing (log entry 34). -/
def writeBar (offset size : Nat) (v : Word) (d : Device) : Device :=
  if size = 4 ∧ offset % 4 = 0 then writeRegister offset v d else d

/-! ### Completions (R7 to R9, R11) -/

/-- The board bytes after a completion: a successful write has landed, also when its completion is discarded. -/
def landed (m : List Host.Cell) (a : Access) (ok : Bool) : List Host.Cell :=
  if ok then Memory.write m a.addr a.data else m

/-- The device after the completion of an access no longer in flight: a discarded one does nothing, a successful one acts,
a failed one is handled by the rule that owns it. -/
def completed (a : Access) (ok : Bool) (act : AccessKind → Device → Device) (d : Device) : Device :=
  if a.discarded then d else settle (if ok then act a.kind d else failAccess a.kind d)

/-- A completion of the access with a tag, of the purpose the command names; no effect when there is none. -/
def complete (tag : Nat) (sel : AccessKind → Bool) (ok : Bool) (act : AccessKind → Device → Device) (s : State) : State :=
  match findAccess s.dev tag sel with
  | none => s
  | some a => { s with board := landed s.board a ok, dev := completed a ok act (dropAccess s.dev tag) }

/-- A read's completion: it failed, or it acts on the bytes it brings. -/
def completeRead (tag : Nat) (sel : AccessKind → Bool) (r : ReadResult) (act : List Byte → AccessKind → Device → Device)
    (s : State) : State :=
  match r with
  | .failed => complete tag sel false (fun _ d => d) s
  | .bytes b => complete tag sel true (act b) s

/-- A write's completion of a channel: the write owed meanwhile is issued (R25 and its like). -/
def channelLanded (kind : AccessKind) (d : Device) : Device :=
  match kind with
  | .channelWrite (.shadow n) closing announces => shadowLanded n closing announces d
  | .channelWrite ch _ _ => reissue ch d
  | _ => d

end Sys2Proof.Machine
end

