-- ==== Sys2Proof/Machine/Board.lean ====
section
/-! DEFINITION. Board scans, campaign slots and the other board accesses of the board interface, the round timer, the link
controller and the journal writer: the commands that are their completions. -/

namespace Sys2Proof.Machine

/-- Take an event at a timer's expiry time, if the timer runs (log entry 1). -/
def atTimer (timer : Option Nat) (f : Nat → Device → Device) (d : Device) : Device :=
  match timer with
  | some t => f t (d.advance t)
  | none => d

/-- Take an event at a timer's expiry time and settle the step, if the timer runs. -/
def settleAt (timer : Option Nat) (f : Nat → Device → Device) (d : Device) : Device :=
  atTimer timer (fun t d => settle (f t d)) d

/-- The scan timer expires: it restarts and a scan is requested (R14). -/
def scanTimerExpired (t : Nat) (d : Device) : Device :=
  requestScan { d with iface := { d.iface with scanTimer := some (t + Config.scanPeriod) } }

/-- SCAN_TIMER_EXPIRY (R14). -/
def execScanTimerExpiry (s : State) : Host.Outcome State Fault Refusal :=
  .next { s with dev := settleAt s.dev.iface.scanTimer scanTimerExpired s.dev }

/-- SCAN_READ_DONE (R14, R15). -/
def execScanReadDone (tag : Nat) (result : ReadResult) (s : State) : Host.Outcome State Fault Refusal :=
  .next (completeRead tag isScanRead result (fun b _ => scanTaken b) s)

/-- A descriptor read (R18). -/
def isDescriptorRead : AccessKind → Bool
  | .descriptorRead _ => true
  | _ => false

/-- A descriptor read's completion judged for its slot (R18). -/
def descriptorTaken (b : List Byte) (kind : AccessKind) (d : Device) : Device :=
  match kind with
  | .descriptorRead n => validated n (.bytes b) d
  | _ => d

/-- DESCRIPTOR_READ_DONE (R18 to R20). -/
def execDescriptorReadDone (tag : Nat) (result : ReadResult) (s : State) : Host.Outcome State Fault Refusal :=
  .next (completeRead tag isDescriptorRead result descriptorTaken s)

/-- A slot shadow write (R25). -/
def isShadowWrite : AccessKind → Bool
  | .channelWrite (.shadow _) _ _ => true
  | _ => false

/-- SHADOW_WRITE_DONE (R24, R25, R177). -/
def execShadowWriteDone (tag : Nat) (ok : Bool) (s : State) : Host.Outcome State Fault Refusal :=
  .next (complete tag isShadowWrite ok channelLanded s)

/-- A closing NOT_RUN write (R24). -/
def isNotRunWrite : AccessKind → Bool
  | .notRunWrite _ _ => true
  | _ => false

/-- A closing NOT_RUN write's completion for its slot (R24). -/
def notRunTaken (kind : AccessKind) (d : Device) : Device :=
  match kind with
  | .notRunWrite n c => notRunLanded n c d
  | _ => d

/-- NOT_RUN_WRITE_DONE (R24). -/
def execNotRunWriteDone (tag : Nat) (ok : Bool) (s : State) : Host.Outcome State Fault Refusal :=
  .next (complete tag isNotRunWrite ok notRunTaken s)

/-- A summary write (R24). -/
def isSummaryWrite : AccessKind → Bool
  | .summaryWrite _ => true
  | _ => false

/-- A summary write's completion for its slot (R24). -/
def summaryTaken (kind : AccessKind) (d : Device) : Device :=
  match kind with
  | .summaryWrite n => summaryLanded n d
  | _ => d

/-- SUMMARY_WRITE_DONE (R24). -/
def execSummaryWriteDone (tag : Nat) (ok : Bool) (s : State) : Host.Outcome State Fault Refusal :=
  .next (complete tag isSummaryWrite ok summaryTaken s)

/-- A window status write (R32). -/
def isWindowWrite : AccessKind → Bool
  | .channelWrite (.window _) _ _ => true
  | _ => false

/-- WINDOW_STATUS_WRITE_DONE (R32). -/
def execWindowStatusWriteDone (tag : Nat) (ok : Bool) (s : State) : Host.Outcome State Fault Refusal :=
  .next (complete tag isWindowWrite ok channelLanded s)

/-- A write of the ignored-mark counters (R52). -/
def isMarkCounterWrite : AccessKind → Bool
  | .channelWrite .markCounters _ _ => true
  | _ => false

/-- MARK_COUNTER_WRITE_DONE (R52). -/
def execMarkCounterWriteDone (tag : Nat) (ok : Bool) (s : State) : Host.Outcome State Fault Refusal :=
  .next (complete tag isMarkCounterWrite ok channelLanded s)

/-- A write of the follower's link counters (R120). -/
def isLinkCounterWrite : AccessKind → Bool
  | .channelWrite .linkCounters _ _ => true
  | _ => false

/-- LINK_COUNTER_WRITE_DONE (R120). -/
def execLinkCounterWriteDone (tag : Nat) (ok : Bool) (s : State) : Host.Outcome State Fault Refusal :=
  .next (complete tag isLinkCounterWrite ok channelLanded s)

/-- A write of the classifier's counters (R152). -/
def isSightingCounterWrite : AccessKind → Bool
  | .channelWrite .sightingCounters _ _ => true
  | _ => false

/-- SIGHTING_COUNTER_WRITE_DONE (R152). -/
def execSightingCounterWriteDone (tag : Nat) (ok : Bool) (s : State) : Host.Outcome State Fault Refusal :=
  .next (complete tag isSightingCounterWrite ok channelLanded s)

/-- A settings read's completion, staged under the sequence it was issued for (R53). -/
def settingsLanded (b : List Byte) (kind : AccessKind) (d : Device) : Device :=
  match kind with
  | .settingsRead seq => settingsTaken seq b d
  | _ => d

/-- SETTINGS_READ_DONE (R41, R53, R56). -/
def execSettingsReadDone (tag : Nat) (result : ReadResult) (s : State) : Host.Outcome State Fault Refusal :=
  .next (completeRead tag isSettingsRead result settingsLanded s)

/-- A settings acknowledgment write (R55). -/
def isAckWrite : AccessKind → Bool
  | .channelWrite .acknowledgment _ _ => true
  | _ => false

/-- SETTINGS_ACK_WRITE_DONE (R55). -/
def execSettingsAckWriteDone (tag : Nat) (ok : Bool) (s : State) : Host.Outcome State Fault Refusal :=
  .next (complete tag isAckWrite ok channelLanded s)

/-- A peer status write (R105). -/
def isPeerWrite : AccessKind → Bool
  | .channelWrite (.peer _) _ _ => true
  | _ => false

/-- PEER_STATUS_WRITE_DONE (R105). -/
def execPeerStatusWriteDone (tag : Nat) (ok : Bool) (s : State) : Host.Outcome State Fault Refusal :=
  .next (complete tag isPeerWrite ok channelLanded s)

/-- JOURNAL_ENTRY_WRITE_DONE (R174, R175). -/
def execJournalEntryWriteDone (tag : Nat) (ok : Bool) (s : State) : Host.Outcome State Fault Refusal :=
  .next (complete tag isJournalWrite ok (fun _ => journalWritten) s)

/-- A produced-count write (R174). -/
def isProducedWrite : AccessKind → Bool
  | .channelWrite .produced _ _ => true
  | _ => false

/-- PRODUCED_COUNT_WRITE_DONE (R174). -/
def execProducedCountWriteDone (tag : Nat) (ok : Bool) (s : State) : Host.Outcome State Fault Refusal :=
  .next (complete tag isProducedWrite ok channelLanded s)

/-- CONSUMED_READ_DONE (R175). -/
def execConsumedReadDone (tag : Nat) (result : ReadResult) (s : State) : Host.Outcome State Fault Refusal :=
  .next (completeRead tag isConsumedRead result (fun b _ => consumedTaken (word b 0)) s)

/-- A circuit fetch (R59). -/
def isCircuitFetch : AccessKind → Bool
  | .circuitFetch _ _ _ => true
  | _ => false

/-- A circuit fetch's completion for its slot and place (R60). -/
def fetchTaken (b : List Byte) (kind : AccessKind) (d : Device) : Device :=
  match kind with
  | .circuitFetch n p c => circuitFetched n p c b d
  | _ => d

/-- CIRCUIT_FETCH_DONE (R60, R61). -/
def execCircuitFetchDone (tag : Nat) (result : ReadResult) (s : State) : Host.Outcome State Fault Refusal :=
  .next (completeRead tag isCircuitFetch result fetchTaken s)

/-- A verdict record write (R170). -/
def isVerdictWrite : AccessKind → Bool
  | .verdictWrite _ _ _ _ _ _ => true
  | _ => false

/-- A verdict record write's completion for its slot (R170). -/
def verdictTaken (kind : AccessKind) (d : Device) : Device :=
  match kind with
  | .verdictWrite n generation c record code margin => verdictLanded n generation c record code margin d
  | _ => d

/-- VERDICT_WRITE_DONE (R79, R170, R171). -/
def execVerdictWriteDone (tag : Nat) (ok : Bool) (s : State) : Host.Outcome State Fault Refusal :=
  .next (complete tag isVerdictWrite ok verdictTaken s)

end Sys2Proof.Machine
end

