-- ==== Sys2Proof/Machine/Bus.lean ====
section
/-! DEFINITION. The launch bus: commands sent, replies, reply timers (4.4). -/

namespace Sys2Proof.Machine

/-- COMMAND_SENT (R66). -/
def execCommandSent (s : State) : Host.Outcome State Fault Refusal := .next { s with dev := commandDone s.dev }

/-- A reply to the context it matches, or to the stuck entry, or ignored (R66). -/
def onReply (point : Byte) (f : Fin 8 → Device → Device) (unmatched : Device → Device) (d : Device) : Device :=
  match contextOf d point with
  | some c => settle (f c d)
  | none => unmatched d

/-- Do something with the probe that owns a context. -/
def withOwner (c : Fin 8) (f : Fin 16 → Probe → Device → Device) (d : Device) : Device :=
  match d.launch.contexts[c].owner with
  | none => d
  | some r => match d.probes.records[r] with
    | some p => f r p d
    | none => d

/-- A context takes ACK_ON (R67, R75): owned it is ON and its probe ARMED, without owner STOP is issued. The reply ends its
outstanding LAUNCH (R66, `withdraw`, log entry 39). -/
def contextOn (c : Fin 8) (d : Device) : Device :=
  if d.launch.contexts[c].state = .arming then
    if d.launch.contexts[c].owner.isSome then
      withOwner c (fun r p d => d.setRecord r (some { p with state := .armed }))
        ((withdraw c d).setContext c { d.launch.contexts[c] with state := .on, timer := none })
    else issueStop c (withdraw c d)
  else d

/-- ACK_ON (R67, R68, R75). -/
def execAckOn (point : Byte) (s : State) : Host.Outcome State Fault Refusal :=
  .next { s with dev := onReply point contextOn id s.dev }

/-- A context takes ACK_OFF (R67, R68). -/
def contextOff (c : Fin 8) (d : Device) : Device :=
  if d.launch.contexts[c].state = .stopping then stopConfirmed c d else d

/-- ACK_OFF or NACK for a point no context names: a stuck entry is cleared (R70), else the reply is ignored (R66). -/
def stuckReply (point : Byte) (d : Device) : Device := if isStuck d point then settle (clearStuck point d) else d

/-- ACK_OFF (R68, R70). -/
def execAckOff (point : Byte) (s : State) : Host.Outcome State Fault Refusal :=
  .next { s with dev := onReply point contextOff (stuckReply point) s.dev }

/-- A context takes NACK (R67, R68, R75). -/
def contextNack (c : Fin 8) (d : Device) : Device :=
  match d.launch.contexts[c].state with
  | .arming => withOwner c (fun r p d => launchFault r p .nack true d) (stopConfirmed c d)
  | .stopping => stopConfirmed c d
  | _ => d

/-- NACK (R67, R68, R70, R75). -/
def execNack (point : Byte) (s : State) : Host.Outcome State Fault Refusal :=
  .next { s with dev := onReply point contextNack (stuckReply point) s.dev }

/-- A probe whose modulator failed: its accumulators are emptied (R78, R153). -/
def Probe.emptied (p : Probe) : Probe := { p with accums := p.accums.map (fun _ => Accumulator.empty) }

/-- A context takes FAULT (R68, R78). -/
def contextFault (c : Fin 8) (d : Device) : Device :=
  if d.launch.contexts[c].state = .on then
    withOwner c (fun r p d => launchFault r p.emptied .fault false d) (issueStop c d)
  else d

/-- FAULT, the modulator's reply (R68, R78). -/
def execModulatorFault (point : Byte) (s : State) : Host.Outcome State Fault Refusal :=
  .next { s with dev := onReply point contextFault id s.dev }

/-- A context's reply timer expires (R67, R69, R75). -/
def replyTimeout (c : Fin 8) (d : Device) : Device :=
  match d.launch.contexts[c].state with
  | .arming => withOwner c (fun r p d => launchFault r p .timeout false d) (issueStop c d)
  | .stopping => stickContext c d
  | _ => d

/-- REPLY_TIMER_EXPIRY of a context (R67, R69). -/
def execReplyTimerExpiry (ctx : Fin 8) (s : State) : Host.Outcome State Fault Refusal :=
  .next { s with dev := settleAt s.dev.launch.contexts[ctx].timer (fun _ => replyTimeout ctx) s.dev }

end Sys2Proof.Machine
end

