-- ==== Sys2Proof/Machine/Events.lean ====
section
/-! DEFINITION. The lead's round events and the looks (chapters 3 and 5). -/

namespace Sys2Proof.Machine

/-- The lead's round timer runs. -/
def whenLeading (f : Device → Device) (d : Device) : Device := if d.leading then f d else d

/-- ROUND_START of the lead's round timer (R41, R42). -/
def execRoundStart (s : State) : Host.Outcome State Fault Refusal :=
  .next { s with dev := whenLeading (settleAt s.dev.rounds.nextAt (fun _ => leadRoundStart)) s.dev }

/-- WATCH_ISSUE taken: it is scheduled no more (R43, R85). -/
def watchesIssued (d : Device) : Device := issueWatches { d with rounds := { d.rounds with watchAt := none } }

/-- WATCH_ISSUE (R85, R86, R108). -/
def execWatchIssue (s : State) : Host.Outcome State Fault Refusal :=
  .next { s with dev := whenLeading (atTimer s.dev.rounds.watchAt (fun _ => watchesIssued)) s.dev }

/-- LOOK_OPEN at its scheduled time (R43, R48, R87). -/
def lookOpened (d : Device) : Device :=
  match d.rounds.phase with
  | .scheduled openAt deadline => openLooks deadline (d.advance openAt)
  | _ => d

/-- LOOK_OPEN (R87, R90). -/
def execLookOpen (s : State) : Host.Outcome State Fault Refusal := .next { s with dev := lookOpened s.dev }

/-- LOOK_END of a detector that is LOOKING (R92). -/
def lookEnded (i : Fin 4) (found : List FoundTone) (d : Device) : Device :=
  match d.taps.detectors[i] with
  | .looking l => settle (endLook i l found d)
  | _ => d

/-- LOOK_END (R92 to R95). -/
def execLookEnd (detector : Fin 4) (found : List FoundTone) (s : State) : Host.Outcome State Fault Refusal :=
  .next { s with dev := lookEnded detector found s.dev }

/-- The look deadline passes: the plan, the watched set and the held watches are dropped (R97). -/
def deadlinePassed (deadline : Nat) (d : Device) : Device :=
  dropPlan { d.advance deadline with rounds := { d.rounds with phase := .closed } }

/-- LOOK_DEADLINE of the round in progress (R97). -/
def lookDeadlineTaken (d : Device) : Device :=
  match d.rounds.phase with
  | .closed => d
  | .scheduled _ deadline => deadlinePassed deadline d
  | .opened deadline => deadlinePassed deadline d

/-- LOOK_DEADLINE (R97). -/
def execLookDeadline (s : State) : Host.Outcome State Fault Refusal := .next { s with dev := lookDeadlineTaken s.dev }

end Sys2Proof.Machine
end

