-- ==== Sys2Proof/Machine/Frames.lean ====
section
/-! DEFINITION. The supervisory link: frames received and handed over, the lead-lost timer (chapter 6, R50). -/

namespace Sys2Proof.Machine

/-- ROUND_MARK_RECEIVED (R45 to R49, R98 to R100). -/
def execRoundMarkReceived (time : Nat) (source dest : Byte) (body : List Byte) (s : State) : Host.Outcome State Fault Refusal :=
  .next { s with dev := settle (receive (1#8 :: source :: dest :: body) (s.dev.advance time)) }

/-- WATCH_LIST_RECEIVED (R88, R89, R98 to R100). -/
def execWatchListReceived (time : Nat) (source dest : Byte) (body : List Byte) (s : State) : Host.Outcome State Fault Refusal :=
  .next { s with dev := settle (receive (2#8 :: source :: dest :: body) (s.dev.advance time)) }

/-- SIGHTING_RECEIVED (R98 to R100, R109, R110). -/
def execSightingReceived (source dest : Byte) (body : List Byte) (s : State) : Host.Outcome State Fault Refusal :=
  .next { s with dev := settle (receive (3#8 :: source :: dest :: body) s.dev) }

/-- HELLO_RECEIVED (R98 to R100, R104). -/
def execHelloReceived (source dest : Byte) (body : List Byte) (s : State) : Host.Outcome State Fault Refusal :=
  .next { s with dev := settle (receive (4#8 :: source :: dest :: body) s.dev) }

/-- UNKNOWN_FRAME_RECEIVED (R99, R181). -/
def execUnknownFrameReceived (frame : List Byte) (s : State) : Host.Outcome State Fault Refusal :=
  .next { s with dev := settle (receive frame s.dev) }

/-- FRAMER_READY (R98, R106, R117). -/
def execFramerReady (s : State) : Host.Outcome State Fault Refusal := .next { s with dev := handOver s.dev }

/-- The lead-lost timer of a follower that runs (R50). -/
def leadLostExpired (d : Device) : Device := if d.following then loseLead d else d

/-- LEAD_LOST_TIMER_EXPIRY (R50). -/
def execLeadLostTimerExpiry (s : State) : Host.Outcome State Fault Refusal :=
  .next { s with dev := settleAt s.dev.follower.leadLostAt (fun _ => leadLostExpired) s.dev }

end Sys2Proof.Machine
end

