-- ==== Sys2Proof/Machine/Registers.lean ====
section
/-! DEFINITION. The commands of the register window: resets, CONTROL, NUDGE and the other register writes (1.1, 10.4). -/

namespace Sys2Proof.Machine

/-- COLD_RESET (R10). -/
def execColdReset (s : State) : Host.Outcome State Fault Refusal := .next { s with dev := coldReset s.dev }

/-- RUN_SET (R3, R6). -/
def execRunSet (s : State) : Host.Outcome State Fault Refusal := .next { s with dev := runSet s.dev }

/-- RUN_CLEAR (R3, R7, R8). -/
def execRunClear (s : State) : Host.Outcome State Fault Refusal := .next { s with dev := runClear s.dev }

/-- BOARD_RESET (R3, R9): the RUN bit of the write is disregarded. -/
def execBoardReset (_run : Bool) (s : State) : Host.Outcome State Fault Refusal := .next { s with dev := boardReset s.dev }

/-- NUDGE (R4): any value. -/
def execNudge (_value : Word) (s : State) : Host.Outcome State Fault Refusal := .next { s with dev := nudge s.dev }

/-- WINDOW_SIZE_WRITE (R2). -/
def execWindowSizeWrite (value : Word) (s : State) : Host.Outcome State Fault Refusal :=
  .next { s with dev := writeWindowSize value s.dev }

/-- IRQ_CAUSE_WRITE (R175, R177). -/
def execIrqCauseWrite (value : Word) (s : State) : Host.Outcome State Fault Refusal :=
  .next { s with dev := writeIrqCause value s.dev }

/-- IRQ_MASK_WRITE (R178). -/
def execIrqMaskWrite (value : Word) (s : State) : Host.Outcome State Fault Refusal :=
  .next { s with dev := writeIrqMask value s.dev }

/-- REGISTER_WRITE (R1): the register at the offset takes a full aligned word by its access. -/
def execRegisterWrite (offset : BitVec 12) (size : Nat) (value : Word) (s : State) : Host.Outcome State Fault Refusal :=
  .next { s with dev := writeBar offset.toNat size value s.dev }

end Sys2Proof.Machine
end

