-- ==== Sys2Proof/Machine/Sightings.lean ====
section
/-! DEFINITION. The classifier, the directory walker and the area sweeps as commands (chapters 7 and 8). -/

namespace Sys2Proof.Machine

/-- CLASSIFY_SIGHTING (R140 to R150). -/
def execClassifySighting (s : State) : Host.Outcome State Fault Refusal := .next { s with dev := settle (classifyNext s.dev) }

/-- A walk read (R130). -/
def isWalkRead : AccessKind → Bool
  | .walkRead _ => true
  | _ => false

/-- A walk read's completion for its record (R130). -/
def walkTaken (b : List Byte) (kind : AccessKind) (d : Device) : Device :=
  match kind with
  | .walkRead w => walkRead w (.bytes b) d
  | _ => d

/-- WALK_READ_DONE (R126, R127, R130, R131, R151). -/
def execWalkReadDone (tag : Nat) (result : ReadResult) (s : State) : Host.Outcome State Fault Refusal :=
  .next (completeRead tag isWalkRead result walkTaken s)

/-- SWEEP_STEP of an area (R133). -/
def execSweepStep (area : Fin 8) (s : State) : Host.Outcome State Fault Refusal := .next { s with dev := settle (sweepArea area s.dev) }

end Sys2Proof.Machine
end

