-- ==== Sys2Proof/Machine/Starts.lean ====
section
/-! DEFINITION. The completions a start waits for (R6, R7). -/

namespace Sys2Proof.Machine

/-- The header read of start step 2. -/
def isStartHeaderRead : AccessKind → Bool
  | .startHeaderRead => true
  | _ => false

/-- The request area read of start step 4. -/
def isStartRequestRead : AccessKind → Bool
  | .startRequestRead => true
  | _ => false

/-- The header write of start step 5. -/
def isStartHeaderWrite : AccessKind → Bool
  | .startHeaderWrite => true
  | _ => false

/-- START_HEADER_READ_DONE (R6, R7). -/
def execStartHeaderReadDone (tag : Nat) (result : ReadResult) (s : State) : Host.Outcome State Fault Refusal :=
  .next (completeRead tag isStartHeaderRead result (fun b _ => withStart (fun _ => startHeaderTaken b)) s)

/-- START_REQUEST_READ_DONE (R6, R7). -/
def execStartRequestReadDone (tag : Nat) (result : ReadResult) (s : State) : Host.Outcome State Fault Refusal :=
  .next (completeRead tag isStartRequestRead result (fun b _ => withStart (fun st => startRequestTaken st b)) s)

/-- START_HEADER_WRITE_DONE (R6, R7). -/
def execStartHeaderWriteDone (tag : Nat) (ok : Bool) (s : State) : Host.Outcome State Fault Refusal :=
  .next (complete tag isStartHeaderWrite ok (fun _ => withStart startHeaderWritten) s)

/-- START_SHADOW_WRITE_DONE (R6, R7). -/
def execStartShadowWriteDone (tag : Nat) (ok : Bool) (s : State) : Host.Outcome State Fault Refusal :=
  .next (complete tag isStartShadow ok (fun _ => withStart startShadowWritten) s)

end Sys2Proof.Machine
end

