-- ==== Sys2Proof/Machine/Dispatch.lean ====
section
/-! DEFINITION. The dispatch of a command to its meaning. -/

namespace Sys2Proof.Machine

def exec (i : Instr) (s : State) : Host.Outcome State Fault Refusal :=
  match i with
  | .coldReset => Sys2Proof.Machine.execColdReset s
  | .runSet => Sys2Proof.Machine.execRunSet s
  | .runClear => Sys2Proof.Machine.execRunClear s
  | .boardReset run => Sys2Proof.Machine.execBoardReset run s
  | .nudge value => Sys2Proof.Machine.execNudge value s
  | .windowSizeWrite value => Sys2Proof.Machine.execWindowSizeWrite value s
  | .irqCauseWrite value => Sys2Proof.Machine.execIrqCauseWrite value s
  | .irqMaskWrite value => Sys2Proof.Machine.execIrqMaskWrite value s
  | .registerWrite offset size value => Sys2Proof.Machine.execRegisterWrite offset size value s
  | .startHeaderReadDone tag result => Sys2Proof.Machine.execStartHeaderReadDone tag result s
  | .startRequestReadDone tag result => Sys2Proof.Machine.execStartRequestReadDone tag result s
  | .startHeaderWriteDone tag ok => Sys2Proof.Machine.execStartHeaderWriteDone tag ok s
  | .startShadowWriteDone tag ok => Sys2Proof.Machine.execStartShadowWriteDone tag ok s
  | .scanTimerExpiry => Sys2Proof.Machine.execScanTimerExpiry s
  | .scanReadDone tag result => Sys2Proof.Machine.execScanReadDone tag result s
  | .descriptorReadDone tag result => Sys2Proof.Machine.execDescriptorReadDone tag result s
  | .shadowWriteDone tag ok => Sys2Proof.Machine.execShadowWriteDone tag ok s
  | .notRunWriteDone tag ok => Sys2Proof.Machine.execNotRunWriteDone tag ok s
  | .summaryWriteDone tag ok => Sys2Proof.Machine.execSummaryWriteDone tag ok s
  | .windowStatusWriteDone tag ok => Sys2Proof.Machine.execWindowStatusWriteDone tag ok s
  | .markCounterWriteDone tag ok => Sys2Proof.Machine.execMarkCounterWriteDone tag ok s
  | .linkCounterWriteDone tag ok => Sys2Proof.Machine.execLinkCounterWriteDone tag ok s
  | .sightingCounterWriteDone tag ok => Sys2Proof.Machine.execSightingCounterWriteDone tag ok s
  | .settingsReadDone tag result => Sys2Proof.Machine.execSettingsReadDone tag result s
  | .settingsAckWriteDone tag ok => Sys2Proof.Machine.execSettingsAckWriteDone tag ok s
  | .peerStatusWriteDone tag ok => Sys2Proof.Machine.execPeerStatusWriteDone tag ok s
  | .journalEntryWriteDone tag ok => Sys2Proof.Machine.execJournalEntryWriteDone tag ok s
  | .producedCountWriteDone tag ok => Sys2Proof.Machine.execProducedCountWriteDone tag ok s
  | .consumedReadDone tag result => Sys2Proof.Machine.execConsumedReadDone tag result s
  | .circuitFetchDone tag result => Sys2Proof.Machine.execCircuitFetchDone tag result s
  | .verdictWriteDone tag ok => Sys2Proof.Machine.execVerdictWriteDone tag ok s
  | .commandSent => Sys2Proof.Machine.execCommandSent s
  | .ackOn point => Sys2Proof.Machine.execAckOn point s
  | .ackOff point => Sys2Proof.Machine.execAckOff point s
  | .nack point => Sys2Proof.Machine.execNack point s
  | .modulatorFault point => Sys2Proof.Machine.execModulatorFault point s
  | .replyTimerExpiry ctx => Sys2Proof.Machine.execReplyTimerExpiry ctx s
  | .roundStart => Sys2Proof.Machine.execRoundStart s
  | .watchIssue => Sys2Proof.Machine.execWatchIssue s
  | .lookOpen => Sys2Proof.Machine.execLookOpen s
  | .lookEnd detector found => Sys2Proof.Machine.execLookEnd detector found s
  | .lookDeadline => Sys2Proof.Machine.execLookDeadline s
  | .roundMarkReceived time source dest body => Sys2Proof.Machine.execRoundMarkReceived time source dest body s
  | .watchListReceived time source dest body => Sys2Proof.Machine.execWatchListReceived time source dest body s
  | .sightingReceived source dest body => Sys2Proof.Machine.execSightingReceived source dest body s
  | .helloReceived source dest body => Sys2Proof.Machine.execHelloReceived source dest body s
  | .unknownFrameReceived frame => Sys2Proof.Machine.execUnknownFrameReceived frame s
  | .framerReady => Sys2Proof.Machine.execFramerReady s
  | .leadLostTimerExpiry => Sys2Proof.Machine.execLeadLostTimerExpiry s
  | .classifySighting => Sys2Proof.Machine.execClassifySighting s
  | .walkReadDone tag result => Sys2Proof.Machine.execWalkReadDone tag result s
  | .sweepStep area => Sys2Proof.Machine.execSweepStep area s

end Sys2Proof.Machine
end

