-- ==== Sys2Proof/Machine/Step.lean ====
section
/-! DEFINITION. One step of the part: the command at the front of the queue, or one millisecond of the clock. -/

namespace Sys2Proof.Machine

/-- A millisecond passes with no command (log entry 1). -/
def idle (s : State) : State := { s with dev := { s.dev with now := s.dev.now + 1 } }

/-- Take the command at the front of the queue and run it with the queue's rest; with none, a millisecond passes. -/
def step (s : State) : Host.Outcome State Fault Refusal :=
  match s.pending with
  | [] => .next (idle s)
  | c :: rest => exec c { s with pending := rest }

/-- Put the command a word spells at the front of the queue; the table gives no row any bits, so no word spells one. -/
def State.withFetchWord (s : State) (nbits w : Nat) : State :=
  match decodeTableWord nbits w with
  | some c => { s with pending := c :: s.pending }
  | none => s

end Sys2Proof.Machine
end

