-- ==== Sys2Proof/Safety.lean ====
section
/-! DEFINITION. The laws of the device the statements use: what holds in every state a run reaches, in the manual's own
words for its laws, and the calm states in which a step has nothing to settle. -/

namespace Sys2Proof.Machine

/-- The board bytes have their canonical form. -/
abbrev boardLaw (s : State) : Prop := Memory.wf s.board = true

/-- The pool, all lent credit and all withdrawn-pending credit make 64 (R113). -/
abbrev creditLaw (d : Device) : Prop := d.lead.credit = Config.creditPool

/-- Each peer's lent credit is a multiple of 4 in 0..64 (R113). -/
abbrev lentLaw (d : Device) : Prop := ∀ p : Fin 16, d.lead.peers[p].lent % 4 = 0 ∧ d.lead.peers[p].lent ≤ 64

/-- The follower's hold queue holds at most 32 sightings (R119). -/
abbrev holdLaw (d : Device) : Prop := d.follower.hold.length ≤ Config.holdDepth

/-- The journal writer's request list holds at most 16 requests (R172). -/
abbrev requestLaw (d : Device) : Prop := d.journal.requests.length ≤ Config.journalDepth

/-- A RUNNING or FAULTED device has no start in progress (R6, R11). -/
abbrev startLaw (d : Device) : Prop :=
  (d.iface.state = .running ∨ d.iface.state = .faulted) → d.iface.start = none

/-- A FAULTED device has CONTROL.RUN 0 and no scan timer (R5, R11). -/
abbrev faultedLaw (d : Device) : Prop :=
  d.iface.state = .faulted → d.regs.run = false ∧ d.iface.scanTimer = none ∧ d.iface.scanPending = false

/-- At most 64 entries of the sighting queue are local (R137). -/
abbrev localLaw (d : Device) : Prop := localCount d ≤ Config.localShare

/-- What a HOLDING detector holds are local sightings (R93, R94). -/
abbrev heldLaw (d : Device) : Prop :=
  ∀ (i : Fin 4) (xs : List Sighting), d.taps.detectors[i] = .holding xs → ∀ x ∈ xs, x.source = none

/-- A peer never has more than R_p + L_p + W_p sightings in the queue (R110). -/
abbrev peerLaw (d : Device) : Prop := ∀ p : Fin 16, inQueue d p ≤ d.lead.peers[p].limit

/-- Each reserve and each target is a multiple of 4 in 0..32, and the reserves sum to at most 128 (R101, R102). -/
abbrev reserveLaw (d : Device) : Prop :=
  (∀ p : Fin 16, d.lead.peers[p].reserve % 4 = 0 ∧ d.lead.peers[p].reserve ≤ 32 ∧ d.lead.peers[p].target % 4 = 0 ∧
    d.lead.peers[p].target ≤ 32) ∧ d.lead.reserves ≤ Config.reserveLimit

/-- The sum of a summary's primary-code counts, modulo 2^32 as the counts are. -/
def Summary.total (s : Summary) : Word := s.codes.toList.foldr (· + ·) 0#32

/-- In each slot's summary the primary-code counts sum to verdicts written (R171). -/
abbrev summaryLaw (d : Device) : Prop :=
  ∀ n : Fin 8, d.slots[n].summary.total = BitVec.ofNat 32 d.slots[n].verdicts

/-- Between steps every launch bus command issued has been put on the bus (R66). -/
abbrev issuedLaw (d : Device) : Prop := d.launch.issued = []

/-- A context still awaits the reply of a command of its own (R66, R67). -/
def awaitsReply (d : Device) (x : Fin 8) (c : BusCommand) : Bool :=
  match c with
  | .launch _ _ _ (some y) => y == x && d.launch.contexts[x].state == .arming
  | .stop _ (some y) => y == x && d.launch.contexts[x].state == .stopping
  | _ => false

/-- The commands of a context on the launch bus: being sent, waiting, or issued in the step in progress (R66). -/
def outstanding (d : Device) (c : Fin 8) : List BusCommand :=
  (d.launch.sending.toList ++ d.launch.waiting ++ d.launch.issued).filter (fun b => b.context? == some c)

/-- Each context has at most one command queued or awaiting its reply (R66): one on the bus, or its reply timer running, and not
both. A command on the bus is LAUNCH for an ARMING context and STOP for a STOPPING one, and no other context's timer runs. -/
abbrev busLaw (d : Device) : Prop :=
  ∀ c : Fin 8, (outstanding d c).length + d.launch.contexts[c].timer.toList.length ≤ 1 ∧
    (∀ b ∈ outstanding d c, awaitsReply d c b = true) ∧
    (d.launch.contexts[c].timer.isSome →
      d.launch.contexts[c].state = .arming ∨ d.launch.contexts[c].state = .stopping)

/-- The probe is in LAUNCHING, ARMED, LISTENING or GRACE. -/
abbrev Probe.launched (p : Probe) : Prop := p.state ≠ .evaluating

/-- The law of R62: a launched probe owns its context and its tone is not FREE, and no two share a tone, a launch context or a
launch point they hold. -/
abbrev probeLaw (d : Device) : Prop :=
  ∀ (r : Fin 16) (p : Probe), d.probes.records[r] = some p → p.launched →
    d.launch.contexts[p.ctx].owner = some r ∧ d.tones[p.tone] ≠ .free ∧
    ∀ (q : Fin 16) (x : Probe), q ≠ r → d.probes.records[q] = some x → x.launched →
      x.tone ≠ p.tone ∧ x.ctx ≠ p.ctx ∧
        (p.holdsPoint = true → x.holdsPoint = true → x.record.point ≠ p.record.point)

/-- A context's state is the one its probe's state calls for: ARMING while LAUNCHING, ON while ARMED or LISTENING, STOPPING or
IDLE in GRACE (R67, R68, R75, R76). -/
def stateFits (p : ProbeState) (c : ContextState) : Prop :=
  (p = .launching ∧ c = .arming) ∨ ((p = .armed ∨ p = .listening) ∧ c = .on) ∨ (p = .grace ∧ (c = .stopping ∨ c = .idle))

/-- The tone of a launched probe: HELD by it up to LISTENING, and in GRACE quarantined since this round, its stop not confirmed
while the context is STOPPING, or STUCK with the context IDLE (R69, R72, R73, R76). -/
def toneFits (d : Device) (r : Fin 16) (p : Probe) : Prop :=
  (p.state ≠ .grace ∧ d.tones[p.tone] = .held r) ∨
  (p.state = .grace ∧ ∃ q, d.tones[p.tone] = .quarantined q ∧ q.release = d.rounds.number ∧
    (d.launch.contexts[p.ctx].state = .stopping → q.stopConfirmed = false)) ∨
  (p.state = .grace ∧ d.launch.contexts[p.ctx].state = .idle ∧ d.tones[p.tone] = .stuck)

/-- Launched probes exist in a RUNNING lead only; each one's context names its launch point and its tone, in the state the
probe's state calls for, no other context in use names its tone, and it listens to no round before ACK_ON (R64, R67, R75,
R80). -/
abbrev contextLaw (d : Device) : Prop :=
  ∀ (r : Fin 16) (p : Probe), d.probes.records[r] = some p → p.launched →
    d.leading = true ∧ d.launch.contexts[p.ctx].point = p.record.point ∧ d.launch.contexts[p.ctx].tone = p.tone ∧
    stateFits p.state d.launch.contexts[p.ctx].state ∧ toneFits d r p ∧
    ((p.state = .launching ∨ p.state = .armed) → p.listenFrom = none) ∧
    ∀ c : Fin 8, c ≠ p.ctx → d.launch.contexts[c].state ≠ .idle → d.launch.contexts[c].tone ≠ p.tone

/-- A context's owner is a launched probe whose context it is (R67). -/
abbrev ownerLaw (d : Device) : Prop :=
  ∀ (c : Fin 8) (r : Fin 16), d.launch.contexts[c].owner = some r →
    ∃ p, d.probes.records[r] = some p ∧ p.launched ∧ p.ctx = c

/-- A context in use without owner is ARMING or STOPPING and its tone is quarantined with its stop not confirmed; no two
contexts in use name one tone; and the stuck list's tones are STUCK, each listed once (R67 to R69, R72, R73). -/
abbrev toneLaw (d : Device) : Prop :=
  (∀ c : Fin 8, d.launch.contexts[c].state ≠ .idle → d.launch.contexts[c].owner = none →
    d.launch.contexts[c].state ≠ .on ∧
    ∃ q, d.tones[d.launch.contexts[c].tone] = .quarantined q ∧ q.stopConfirmed = false) ∧
  (∀ b c : Fin 8, b ≠ c → d.launch.contexts[b].state ≠ .idle → d.launch.contexts[c].state ≠ .idle →
    d.launch.contexts[b].tone ≠ d.launch.contexts[c].tone) ∧
  (∀ e ∈ d.launch.stuck, d.tones[e.tone] = .stuck) ∧ (d.launch.stuck.map (·.tone)).Nodup

/-- A launch point is in use once: a probe that no longer holds its point is in GRACE with its context IDLE; a point a
launched probe holds is named by no other context in use and by no stuck entry; no two contexts in use name one point, none a
stuck point, and the stuck list names each point once (R62, R66, R69). -/
abbrev pointLaw (d : Device) : Prop :=
  (∀ (r : Fin 16) (p : Probe), d.probes.records[r] = some p → p.launched →
    (p.holdsPoint = false → p.state = .grace ∧ d.launch.contexts[p.ctx].state = .idle) ∧
    (p.holdsPoint = true → isStuck d p.record.point = false ∧
      ∀ c : Fin 8, c ≠ p.ctx → d.launch.contexts[c].state ≠ .idle → d.launch.contexts[c].point ≠ p.record.point)) ∧
  (∀ b c : Fin 8, b ≠ c → d.launch.contexts[b].state ≠ .idle → d.launch.contexts[c].state ≠ .idle →
    d.launch.contexts[b].point ≠ d.launch.contexts[c].point) ∧
  (∀ c : Fin 8, d.launch.contexts[c].state ≠ .idle → isStuck d d.launch.contexts[c].point = false) ∧
  (d.launch.stuck.map (·.point)).Nodup

/-- The stuck list and the contexts in use together never pass 8, so the list never holds more than 8 (R62, R69). -/
abbrev stuckLaw (d : Device) : Prop := d.launch.stuck.length + busyContexts d ≤ 8

/-- The probe record an access in flight writes a verdict for. -/
def verdictRecord (a : Access) : Option (Fin 16) :=
  match a.kind with
  | .verdictWrite _ _ _ r _ _ => r
  | _ => none

/-- The probe records whose verdict record write is in flight, or refused in the step in progress. -/
def verdictRecords (d : Device) : List (Fin 16) :=
  (d.dma.inFlight.filter (fun a => !a.discarded) ++ d.dma.refused).filterMap verdictRecord

/-- A verdict record write in flight is of a probe in EVALUATING, and no probe has two (R79, R170). -/
abbrev verdictLaw (d : Device) : Prop :=
  (verdictRecords d).Nodup ∧ ∀ r ∈ verdictRecords d, ∃ p, d.probes.records[r] = some p ∧ p.state = .evaluating

/-- No campaign is RUNNING or DRAINING, no refused access waits to be handled and no command waits to be put on the bus: a
step has nothing to settle. -/
abbrev calm (d : Device) : Prop :=
  d.dma.refused = [] ∧ d.launch.issued = [] ∧ ∀ n : Fin 8, d.slots[n].state ≠ .running ∧ d.slots[n].state ≠ .draining

/-- An access of an extent and a purpose is in flight and its completion counts. -/
abbrev inFlight (d : Device) (addr len : Nat) (kind : AccessKind) : Prop :=
  ∃ a ∈ d.dma.inFlight, a.kind = kind ∧ a.addr = addr ∧ a.len = len ∧ a.discarded = false

/-- A write of bytes at an address for a purpose is in flight, and its completion counts. -/
abbrev writing (d : Device) (addr : Nat) (data : List Byte) (kind : AccessKind) : Prop :=
  ∃ a ∈ d.dma.inFlight, a.kind = kind ∧ a.addr = addr ∧ a.len = data.length ∧ a.data = data ∧ a.discarded = false

/-- A write of a channel is due after a reaction: owed behind one in flight (log entry 38), else issued, at the channel's place on
the board. The write issued carries the bytes named, or, where the reaction changed them again after it, `later` holds. Outside
the window nothing is issued (R12, R25, R32, R52, R105, R120, R152, R174). -/
def writeDue (before after : Device) (ch : Channel) (addr : Nat) (data : List Byte) (later : Prop) : Prop :=
  canAccess before = true →
    (live before (ofChannel ch) = true → ch ∈ after.dma.owed) ∧
    (live before (ofChannel ch) = false → inWindow before.iface.bounds addr data.length = true →
      ∃ a ∈ after.dma.inFlight, (∃ c b, a.kind = .channelWrite ch c b) ∧ a.addr = addr ∧ a.len = data.length ∧
        (a.data = data ∨ later) ∧ a.discarded = false)

/-- A channel's write is due with the values the device now holds. -/
abbrev writeShown (before after : Device) (ch : Channel) (addr : Nat) (data : List Byte) : Prop :=
  writeDue before after ch addr data False

/-- A channel's write is due, and the last one due shows the values the device now holds. -/
abbrev writeFollows (before after : Device) (ch : Channel) (addr : Nat) (data : List Byte) : Prop :=
  writeDue before after ch addr data (ch ∈ after.dma.owed)

/-- The shadow write of a slot is due with the slot as it now stands, CLOSED where it is the closing write (R24, R25). -/
def shadowDue (before after : Device) (n : Fin 8) (later : Prop) : Prop :=
  writeDue before after (.shadow n) (boardAddr before (0x620 + 0x100 * n.val))
    (shadowBytes (if after.slots[n].closing = some .shadow then .closed else after.slots[n].state) after.slots[n]) later

/-- The status write of a window is due with the window as it now stands (R32). -/
def windowDue (before after : Device) (w : Fin 4) : Prop :=
  writeShown before after (.window w) (boardAddr before (0x118 + 16 * w.val)) (windowStatusBytes after.windows[w])

/-- The status write of a peer is due with the peer as it now stands (R105). -/
def peerDue (before after : Device) (p : Fin 16) (later : Prop) : Prop :=
  writeDue before after (.peer p) (boardAddr before (0x308 + 32 * p.val)) (peerStatusBytes after.lead.peers[p]) later

/-- A probe has entered EVALUATING in its record, the rest of its record as given: its verdict record write is issued, with the
verdict computed from that record, at the slot's verdict table base plus 64 for each circuit (refused outside the window, R12);
or, where the verdict is withheld, the record is freed (R79, R156, R168, R170). -/
def evaluated (before after : Device) (r : Fin 16) (p : Probe) : Prop :=
  (verdictWithheld p.slot before = true → after.probes.records[r] = none ∧ r ∉ after.probes.order) ∧
  (verdictWithheld p.slot before = false →
    after.probes.records[r] = some { p with state := .evaluating } ∧
    ∀ (addr : Nat) (kind : AccessKind), addr = before.slots[p.slot].desc.verdictBase + 64 * p.circuit →
      kind = .verdictWrite p.slot p.generation p.circuit (some r) (evaluate p).code (evaluate p).margin →
      (inWindow before.iface.bounds addr 64 = true → writing after addr (verdictBytes (evaluate p)) kind) ∧
      (inWindow before.iface.bounds addr 64 = false →
        ∃ a ∈ after.dma.refused, a.kind = kind ∧ a.addr = addr ∧ a.data = verdictBytes (evaluate p)))

/-- STOP has been issued for the wanted contexts that were ON, and for no other: each is STOPPING, and the commands stand in
ascending context number behind those of the same context issued in the step before; the bus itself is as it was (R66, R68).
That they stand in `launch.issued` until the step's end is log entry 7 (DESIGN CHOICE). -/
def stopsIssued (before after : Device) (wanted : Fin 8 → Prop) : Prop :=
  after.launch.sending = before.launch.sending ∧ after.launch.waiting = before.launch.waiting ∧
  (∀ c : Fin 8, (wanted c ∧ before.launch.contexts[c].state = .on →
      after.launch.contexts[c].state = .stopping ∧ after.launch.contexts[c].timer = none) ∧
    (¬(wanted c ∧ before.launch.contexts[c].state = .on) →
      after.launch.contexts[c].state = before.launch.contexts[c].state ∧
      after.launch.contexts[c].timer = before.launch.contexts[c].timer)) ∧
  ∃ cs : List (Fin 8), cs.Pairwise (· < ·) ∧ (∀ c, c ∈ cs ↔ wanted c ∧ before.launch.contexts[c].state = .on) ∧
    after.launch.issued = cs.foldl (fun l c => insertCommand (.stop before.launch.contexts[c].point (some c)) l)
      before.launch.issued

/-- A context is that of an ARMED or LISTENING probe that passes a test (R35, R80). -/
def sounding (d : Device) (sel : Probe → Prop) (c : Fin 8) : Prop :=
  ∃ (r : Fin 16) (p : Probe), d.probes.records[r] = some p ∧ sel p ∧ (p.state = .armed ∨ p.state = .listening) ∧ p.ctx = c

/-- The reads a scan completion brings: the settings read when the area's sequence is not the one last requested, and the
consumed read, each issued or, behind one in flight, made pending (R53, R175). -/
def scanReads (before after : Device) (area : List Byte) : Prop :=
  (before.rounds.requested = some (areaSequence area) → after.rounds.readPending = before.rounds.readPending) ∧
  (before.rounds.requested ≠ some (areaSequence area) →
    (live before isSettingsRead = true → after.rounds.readPending = true) ∧
    (live before isSettingsRead = false → after.rounds.readPending = before.rounds.readPending ∧
      (canAccess before = true → inWindow before.iface.bounds (boardAddr before 0x100) 1024 = true →
        inFlight after (boardAddr before 0x100) 1024 (.settingsRead (areaSequence area))))) ∧
  (live before isConsumedRead = true → after.journal.readPending = true) ∧
  (live before isConsumedRead = false → after.journal.readPending = before.journal.readPending ∧
    (canAccess before = true → inWindow before.iface.bounds (boardAddr before 0x18) 4 = true →
      inFlight after (boardAddr before 0x18) 4 .consumedRead))

/-- An access in flight whose purpose a completion names and whose completion is not discarded. -/
abbrev awaited (d : Device) (a : Access) (sel : AccessKind → Bool) : Prop :=
  findAccess d a.tag sel = some a ∧ a.discarded = false

/-- The context of an ARMED or LISTENING probe of a slot in a record other than the one named, if one is. -/
def soundingBeside (d : Device) (n : Fin 8) (x : Option (Fin 16)) (ctx : Fin 8) : Prop :=
  ∃ (q : Fin 16) (p : Probe), x ≠ some q ∧ d.probes.records[q] = some p ∧ p.slot = n ∧
    (p.state = .armed ∨ p.state = .listening) ∧ p.ctx = ctx

/-- A verdict record write of a circuit has landed, by the probe of record `x` or by none: the circuit is DONE and keeps its void
count; the slot counts the verdict, its code and its bin; the verdict that fills the table drains a RUNNING or SUSPENDED slot for
COMPLETE, any other leaves the slot's state, the other probes and the launch bus (R22, R58, R80, R170, R171). -/
def verdictCounted (before after : Device) (a : Access) (n : Fin 8) (c : Nat) (x : Option (Fin 16)) (code : Fin 12)
    (m : Option Int) : Prop :=
  (circuitEntry after n c).status = .done ∧ (circuitEntry after n c).voids = (circuitEntry before n c).voids ∧
  after.slots[n].verdicts = before.slots[n].verdicts + 1 ∧
  after.slots[n].summary.codes[code] = before.slots[n].summary.codes[code] + 1#32 ∧
  (m = none → after.slots[n].summary.bins = before.slots[n].summary.bins) ∧
  (∀ v, m = some v → after.slots[n].summary.bins[marginBin v] = before.slots[n].summary.bins[marginBin v] + 1#32) ∧
  (∀ k : Fin 8, k ≠ n → after.slots[k] = before.slots[k]) ∧
  (if (before.slots[n].state = .running ∨ before.slots[n].state = .suspended) ∧
      before.slots[n].verdicts + 1 = before.slots[n].desc.count then
    after.slots[n].state = .draining ∧ after.slots[n].reason = .complete ∧
      shadowDue (dropAccess before a.tag) after n False ∧ stopsIssued before after (soundingBeside before n x)
  else
    after.slots[n].state = before.slots[n].state ∧ after.slots[n].reason = before.slots[n].reason ∧
      (∀ q : Fin 16, x ≠ some q → after.probes.records[q] = before.probes.records[q]) ∧ after.launch = before.launch)

/-- A verdict record write of a circuit has failed, the write of the probe of record `x` or of none: nothing is counted, the
circuit stays as it is unless the drain voids another probe of it, and the slot drains for MEMORY_FAULT, or, already DRAINING,
has ABORTED or PLAN_ERROR replaced by it (R22, R80, R170). -/
def verdictLost (before after : Device) (a : Access) (n : Fin 8) (c : Nat) (x : Option (Fin 16)) : Prop :=
  after.slots[n].verdicts = before.slots[n].verdicts ∧ after.slots[n].summary = before.slots[n].summary ∧
  (∀ k : Fin 8, k ≠ n → after.slots[k] = before.slots[k]) ∧
  ((∀ (q : Fin 16) (p : Probe), x ≠ some q → before.probes.records[q] = some p → p.slot = n → p.circuit ≠ c) →
    circuitEntry after n c = circuitEntry before n c) ∧
  ((before.slots[n].state = .running ∨ before.slots[n].state = .waiting ∨ before.slots[n].state = .suspended) →
    after.slots[n].state = .draining ∧ after.slots[n].reason = .memoryFault ∧
      shadowDue (dropAccess before a.tag) after n False ∧ stopsIssued before after (soundingBeside before n x)) ∧
  (before.slots[n].state = .draining →
    after.slots[n].state = .draining ∧
    (∀ q : Fin 16, x ≠ some q → after.probes.records[q] = before.probes.records[q]) ∧ after.launch = before.launch ∧
    (if before.slots[n].reason = .aborted ∨ before.slots[n].reason = .planError then
      after.slots[n].reason = .memoryFault ∧ shadowDue (dropAccess before a.tag) after n False
    else after.slots = before.slots))

/-- A detector may begin a look now: RUNNING, a tap table in force, LOOK_OPEN taken, and 12 ms left to the deadline (R40, R84). -/
def canLook (d : Device) : Prop :=
  d.running = true ∧ d.taps.table.isSome ∧ ∃ t, d.rounds.phase = .opened t ∧ d.now + 12 ≤ t

/-- The device when a detector has begun a look, the rest of its tap array as given: the current round is the stamp, and the look
ends 12 ms on (R84, R90). -/
def lookBegun (d : Device) (i : Fin 4) (port : Fin 32) (slot : Fin 96) (tones : Option (List (Fin 48))) (a : TapArray) : Device :=
  { d with taps := { a with
    detectors := a.detectors.set i (.looking ⟨port, slot, tones, d.rounds.number, tapLoss d port, d.now + 12⟩) } }

/-- A detector draws from the sweep cursor (R91): it looks at the first position from the cursor on, round the sweep order, that
is not watched, the cursor goes to the position after it, and the round's first one is remembered; a draw that comes to that one,
or finds every position watched, yields nothing and is the round's last; that it leaves the cursor where it is is log entry 12
(DEDUCED). -/
def drawsSweep (before after : Device) (i : Fin 4) : Prop :=
  (before.taps.cursor = none ∨ before.taps.sweepOver = true → after = before) ∧
  ∀ (table : Vector Tap 32) (c : Fin 32 × Fin 96) (xs ys : List (Fin 32 × Fin 96)), before.taps.table = some table →
    before.taps.cursor = some c → before.taps.sweepOver = false → sweepOrder table = xs ++ c :: ys → c ∉ xs →
    (∀ skipped p rest, c :: ys ++ xs = skipped ++ p :: rest →
      (∀ x ∈ skipped, x ∈ before.taps.watched ∧ before.taps.sweepFirst ≠ some x) →
      (before.taps.sweepFirst ≠ some p → p ∉ before.taps.watched → after = lookBegun before i p.1 p.2 none { before.taps with
        cursor := some (rest.headD c), sweepFirst := before.taps.sweepFirst.or (some p) }) ∧
      (before.taps.sweepFirst = some p → after = { before with taps := { before.taps with sweepOver := true } })) ∧
    ((∀ x ∈ sweepOrder table, x ∈ before.taps.watched ∧ before.taps.sweepFirst ≠ some x) →
      after = { before with taps := { before.taps with sweepOver := true } })

/-- A detector takes work, if it is IDLE and may look: the first plan entry, or, of an empty plan, a sweep look (R90). -/
def takesWork (before after : Device) (i : Fin 4) : Prop :=
  (¬(before.taps.detectors[i] = .idle ∧ canLook before) → after = before) ∧
  (before.taps.detectors[i] = .idle → canLook before →
    (∀ e rest, before.taps.plan = e :: rest →
      after = lookBegun before i e.port e.slot (some e.tones) { before.taps with plan := rest }) ∧
    (before.taps.plan = [] → drawsSweep before after i))

/-- The commands that complete a coalesced write, each with the accesses it completes (R32, R52, R55, R105, R120, R152,
R174). -/
def coalescedWrites : List ((Nat → Bool → Instr) × (AccessKind → Bool)) :=
  [(.windowStatusWriteDone, isWindowWrite), (.markCounterWriteDone, isMarkCounterWrite),
   (.linkCounterWriteDone, isLinkCounterWrite), (.sightingCounterWriteDone, isSightingCounterWrite),
   (.settingsAckWriteDone, isAckWrite), (.peerStatusWriteDone, isPeerWrite),
   (.producedCountWriteDone, isProducedWrite)]

/-- The completions that make the device FAULTED when they fail, each with the accesses it completes and the reason (R7). -/
def deviceFailures : List ((Nat → Instr) × (AccessKind → Bool) × FaultReason) :=
  [(fun t => .startHeaderReadDone t .failed, isStartHeaderRead, .headerFault),
   (fun t => .startRequestReadDone t .failed, isStartRequestRead, .scanFault),
   (fun t => .startHeaderWriteDone t false, isStartHeaderWrite, .headerFault),
   (fun t => .startShadowWriteDone t false, isStartShadow, .slotWriteFault),
   (fun t => .scanReadDone t .failed, isScanRead, .scanFault),
   (fun t => .summaryWriteDone t false, isSummaryWrite, .closeFault),
   (fun t => .settingsReadDone t .failed, isSettingsRead, .headerFault),
   (fun t => .journalEntryWriteDone t false, isJournalWrite, .journalFault),
   (fun t => .consumedReadDone t .failed, isConsumedRead, .headerFault)]

/-- A reply that ends a context's outstanding command has been taken: of its commands none is queued, one being sent serves it no
more, and the commands of no context or of another stay as they are, in their order (R66; log entry 39, DESIGN CHOICE). -/
def commandEnded (before after : Device) (x : Fin 8) : Prop :=
  (∀ b, before.launch.sending = some b →
    after.launch.sending = some (if b.context? = some x then b.orphan else b)) ∧
  (before.launch.sending = none → after.launch.sending = none) ∧
  after.launch.waiting = before.launch.waiting.filter (fun b => b.context? != some x) ∧
  after.launch.issued = before.launch.issued.filter (fun b => b.context? != some x)

/-- STOP for a point has been issued: its context is STOPPING, and the command is in its place among those the step puts on
the bus (R66, R67; that they stand in `launch.issued` until the step's end is log entry 7, DESIGN CHOICE). -/
def stopIssued (before after : Device) (x : Fin 8) (point : Byte) : Prop :=
  after.launch.contexts[x] = { before.launch.contexts[x] with state := .stopping, timer := none } ∧
  after.launch.issued = insertCommand (.stop point (some x)) before.launch.issued ∧
  after.launch.sending = before.launch.sending ∧ after.launch.waiting = before.launch.waiting

/-- A command makes a launch fault of a cause at a context: NACK or the timer's expiry while ARMING, FAULT while ON
(R67, R68, R75, R78). -/
def faultingReply (d : Device) (c : Instr) (x : Fin 8) (cause : LaunchCause) : Prop :=
  (cause = .nack ∧ d.launch.contexts[x].state = .arming ∧ ∃ p, c = .nack p ∧ contextOf d p = some x) ∨
  (cause = .timeout ∧ d.launch.contexts[x].state = .arming ∧ d.launch.contexts[x].timer.isSome ∧
    c = .replyTimerExpiry x) ∨
  (cause = .fault ∧ d.launch.contexts[x].state = .on ∧ ∃ p, c = .modulatorFault p ∧ contextOf d p = some x)

/-- The frames of kinds 1 to 4 as commands, those with a time arriving not before it (R98, R99). -/
def receivedFrames (time : Nat) : List (Nat × (Byte → Byte → List Byte → Instr)) :=
  [(1, .roundMarkReceived time), (2, .watchListReceived time), (3, .sightingReceived), (4, .helloReceived)]

/-- A walk ends, in a device and with an answer or none: its record is FREE, every sighting parked on it is handed back to that
device with that answer, and the classifier goes on with a stalled entry (R130, R131, R140). -/
def endsWalk (w : Fin 4) (ans : Option Answer) (before after : Device) : Prop :=
  ∃ y, y = handBack w ans before.classifier.queue.length { before with walks := before.walks.set w none } ∧
    y.walks[w] = none ∧ (∀ e ∈ y.classifier.queue, e.parked ≠ some w) ∧ after = unstall y

/-- The journal's PLAN_ERROR entry of a walk's inconsistency: the slot with its generation and the walk's location, the reason,
and what the reason names (R126, 11.2.4). -/
def planErrorOf (k : Walk) (b : List Byte) (e : JournalEntry) : Prop :=
  e.kind = .planError ∧ e.slot = k.area.val ∧ e.generation = k.generation ∧ e.loc = k.key ∧
  (k.state = .node → e.code = 1 ∧ e.second = 1) ∧ (k.state = .port → e.code = 1 ∧ e.second = 2) ∧
  (k.state = .slot → e.code = 2 ∧ e.circuit = slotEntryCircuit b ∧ e.second = slotEntryHop b) ∧
  (k.state = .circuit → e.code = (if u8 b 7 ≤ k.hop then 3 else 4) ∧ e.circuit = k.circuit ∧ e.second = k.hop)

/-- The LTB areas: keys strictly rising and under 128, each entry at its tag's index, no tag in two entries (R128, 7.4). -/
abbrev areaLaw (d : Device) : Prop :=
  ∀ n : Fin 8, Sparse.rising d.areas[n].entries = true ∧
    (∀ x ∈ d.areas[n].entries, x.1 < 128 ∧ x.1 / 2 = ltbIndex x.2.tag) ∧
    ∀ x ∈ d.areas[n].entries, ∀ y ∈ d.areas[n].entries, x.2.tag = y.2.tag → x.1 = y.1

/-- The commands that are a cold or a board reset (R3, R9, R10). -/
def resets : Instr → Bool
  | .coldReset => true
  | .boardReset _ => true
  | .registerWrite offset size v => offset == 0x004#12 && size == 4 && v.getLsbD 1
  | _ => false

/-- A slot's state once a request area has been applied in a mode: a RUNNING campaign of a window that leaves QUIET is SUSPENDED
at a lead, and a changed request word is then judged by the state that leaves (R16, R29, R34). -/
def stateAfterRequests (mode : Mode) (area : List Byte) (d : Device) (n : Fin 8) (st : SlotState) : Prop :=
  ∃ x, x = (if mode = .lead ∧ d.slots[n].state = .running ∧
      (∃ w : Fin 4, d.slots[n].desc.windowId = w.val ∧ d.windows[w].phase = .quiet ∧ wantClosed area w = false)
    then .suspended else d.slots[n].state) ∧
  st = (if requestSequence area n = d.slots[n].lastSeq ∨ requestTaken x (requestKind area n) = false then x else
    match requestKind area n with
    | .submit => if mode = .follow then .rejected else .validating
    | .abort => .draining
    | .release => .sweeping
    | .other => x)

/-- What step 7 of a start leaves in both modes, before a lead's first round: the device and journal state, the request area
applied with the reads of a scan completion and the shadow writes due, and the four window status writes owed (R5, R6, R15, R16,
R28, R32, R53, R57, R172, R175). -/
def startedBy (st : Start) (i : Identity) (before y : Device) : Prop :=
  y.iface = { before.iface with
    state := .running, start := none, fresh := false, mode := some i.mode, scanTimer := some (before.now + 100)
    scanPending := false } ∧
  y.identity = some i ∧ y.now = before.now ∧
  y.journal = { before.journal with
    ring := some ⟨i.journalBase, i.journalSize⟩, usable := true, consumed := word st.header 0x18, memory := []
    readPending := y.journal.readPending } ∧
  y.rounds.number = before.rounds.number ∧ y.rounds.inForce = before.rounds.inForce ∧
  y.rounds.staged = before.rounds.staged ∧ y.rounds.hold = areaHold st.request ∧
  y.rounds.requested = some (areaSequence st.request) ∧
  (∀ w : Fin 4, y.windows[w] = before.windows[w].applyWant (wantClosed st.request w) (holdOff st.request w) ∧
    (live before (ofChannel (.window w)) = true → .window w ∈ y.dma.owed) ∧
    (live before (ofChannel (.window w)) = false →
      inWindow before.iface.bounds (boardAddr before (0x118 + 16 * w.val)) 8 = true →
      ∃ x ∈ y.dma.inFlight, x.kind = .channelWrite (.window w) false false ∧ x.discarded = false ∧
        x.addr = boardAddr before (0x118 + 16 * w.val) ∧ x.data = windowStatusBytes y.windows[w])) ∧
  (∀ n : Fin 8, y.slots[n].lastSeq = requestSequence st.request n ∧
    ((requestSequence st.request n ≠ before.slots[n].lastSeq ∨ y.slots[n].state ≠ before.slots[n].state ∨
        before.slots[n].verdicts ≠ before.slots[n].shadowVerdicts) →
      shadowDue before y n (.shadow n ∈ y.dma.owed))) ∧
  scanReads before y st.request

/-- What step 7 of a start in LEAD mode leaves before the lead's first round: WAITING and SUSPENDED campaigns whose window is
QUIET, or whose window id is 7, are RUNNING, and every configured peer is UNKNOWN with silence count 0 (R6, R33, R103, R115).
-/
def startedLead (st : Start) (before y : Device) : Prop :=
  (∀ (n : Fin 8) (x : SlotState), stateAfterRequests .lead st.request before n x →
    y.slots[n].state = (if (x = .waiting ∨ x = .suspended) ∧ (before.slots[n].desc.windowId = 7 ∨
      ∃ w : Fin 4, before.slots[n].desc.windowId = w.val ∧ y.windows[w].phase = .quiet) then .running else x)) ∧
  (∀ p : Fin 16, y.lead.peers[p] = { before.lead.peers[p] with
    state := if before.lead.peers[p].configured then .unknown else before.lead.peers[p].state
    silence := if before.lead.peers[p].configured then 0 else before.lead.peers[p].silence
    report := none } ∧
    (peerStatusBytes y.lead.peers[p] ≠ peerStatusBytes before.lead.peers[p] → peerDue before y p False)) ∧
  y.lead.pool = before.lead.pool ∧ y.follower = before.follower

/-- What step 7 of a start in FOLLOW mode leaves: WAITING, RUNNING and SUSPENDED campaigns drain for ABORTED, the follower is
FOLLOWING with no round in progress, a JOINING HELLO is pending and the lead-lost timer runs for 8 s (R6, R22, R50, R51,
R118). -/
def startedFollower (st : Start) (before y : Device) : Prop :=
  (∀ (n : Fin 8) (x : SlotState), stateAfterRequests .follow st.request before n x →
    ((x = .waiting ∨ x = .running ∨ x = .suspended) → y.slots[n].state = .draining ∧ y.slots[n].reason = .aborted) ∧
    (x ≠ .waiting → x ≠ .running → x ≠ .suspended → y.slots[n].state = x)) ∧
  y.rounds.leadState = .following ∧ y.rounds.lastMark = none ∧ y.rounds.phase = .closed ∧
  y.follower = { before.follower with
    grant := none, hello := some .joining, helloCount := 0, leadLostAt := some (before.now + 8000) } ∧
  y.lead = before.lead

/-- A hop carries a mark that gives a primary code (R167): MISSING for BROKEN and GAP, not observed for INCOMPLETE, UNSTEADY, or
one of the marks of DEGRADED, a span's mark belonging to its later hop. -/
def keyMark (code : Fin 12) (rs : List HopResult) (r : HopResult) : Prop :=
  ((code = 4 ∨ code = 6) ∧ r.status = .missing) ∨
  (code = 7 ∧ (r.status = .unobserved ∨ r.status = .guardUnobserved)) ∨
  (code = 8 ∧ r.unsteady = true) ∨
  (code = 9 ∧ (r.low = true ∨ r.high = true ∨ r.overload = true ∨
    ∃ x ∈ spansOf (poweredHops rs), x.later = r.number ∧ (x.tooMuchLoss = true ∨ x.tooMuchGain = true)))

end Sys2Proof.Machine
end

