-- ==== Sys2Proof/Certificates/Slice0/Obligations.lean ====
section
/-! DEFINITION. The statements for the provers. Where a statement names a device `d` with the step answering `settle d`, `d`
holds the command's own effect and `settle` is what every step ends with: the arbiter, the fetches, the drain tests. -/

open Sys2Proof Sys2Proof.Machine

/-! ### The step -/

/-- A step takes the command at the front of the queue and runs it with the queue's rest. -/
def Obligations.StepRunsFrontCommand : Prop :=
  ∀ (c : Instr) (s : State), step { s with pending := c :: s.pending } = exec c s

/-- A step answers a next state in every state, no command ends in a fault or a refusal, and with no command waiting the
clock moves by one millisecond and nothing else changes (the idle tick is the model's choice, log entry 1). -/
def Obligations.StepAlwaysAnswers : Prop :=
  ∀ s : State, (∃ t, step s = .next t) ∧
    (s.pending = [] → step s = .next { s with dev := { s.dev with now := s.dev.now + 1 } })

/-- What every step ends with: nothing in a calm device; a refused access is handled first, as one of its kind that
failed, and the rest of the step settles what that leaves (that it is handled within its step is log entry 6, DEDUCED, and
that a write so refused or failed leaves the board bytes as they were is log entry 31, DESIGN CHOICE); else, when no
access is refused before or after it, one round of admission, fetches and closing writes: the arbiter admits one circuit
after another until none is admissible, then each slot's two places are filled and each slot's drain is tested, in
ascending slot; its commands then go on the bus in ascending context number (the order inside a step is log entry 7,
DESIGN CHOICE; that the arbiter runs in every step, also at an event its list of R65 does not name, log entry 43, DESIGN
CHOICE). A round touches the probe scheduler, the launch bus, the tone pool, the board accesses and a slot's closing phase
only. One decision of the arbiter admits the circuit R63 names on the lowest-numbered free record, context and tone and
issues LAUNCH; admission keeps the law that no two launched probes share a tone, a context or a launch point; a fetch
takes the lowest QUEUED circuit; a DRAINING slot's closing writes begin when it is drained, an access to be discarded
holding none back (log entry 38, DESIGN CHOICE; sections 1.3, 1.6, 4.2, 4.3 and 4.4). -/
def Obligations.SettleFrame : Prop :=
  (∀ d : Device,
    (calm d → settle d = d) ∧
    (∀ a rest, d.dma.refused = a :: rest → settle d =
      sendIssued (settleSteps 255 (failAccess a.kind { d with dma := { d.dma with refused := rest } }))) ∧
    (d.dma.refused = [] → (settleOnce d).dma.refused = [] → settle d = sendIssued (settleOnce d)) ∧
    settleOnce d = { d with
      slots := (settleOnce d).slots, sched := (settleOnce d).sched, probes := (settleOnce d).probes
      launch := { (settleOnce d).launch with stuck := d.launch.stuck }, tones := (settleOnce d).tones
      dma := (settleOnce d).dma } ∧
    (∀ n : Fin 8, (settleOnce d).slots[n] = { d.slots[n] with closing := (settleOnce d).slots[n].closing }) ∧
    (d.launch.sending.isSome → sendIssued d = { d with launch := { d.launch with
      waiting := d.launch.waiting ++ d.launch.issued, issued := [] } }) ∧
    (∀ c rest, d.launch.sending = none → d.launch.issued = c :: rest → sendIssued d = { d with launch := { d.launch with
      sending := some c, waiting := d.launch.waiting ++ rest, issued := [] } })) ∧
  (∀ d : Device, settleOnce d = closeDrained (fetchAll (admitAll d)) ∧
    (admitOne d = none → admitAll d = d) ∧ (∀ e, admitOne d = some e → admitAll d = admitAll e) ∧
    admitOne (admitAll d) = none ∧
    fetchAll d = [0, 1, 2, 3, 4, 5, 6, 7].foldl (fun e n => fetchPlace n (fetchPlace n e 0) 1) d ∧
    closeDrained d = [0, 1, 2, 3, 4, 5, 6, 7].foldl closeIfDrained d) ∧
  (∀ (a : Access) (sel : AccessKind → Bool) (act : AccessKind → Device → Device) (s : State), awaited s.dev a sel →
    complete a.tag sel false act s = { s with dev := settle (failAccess a.kind (dropAccess s.dev a.tag)) }) ∧
  (∀ (c : BusCommand) (cs : List BusCommand), (cs.map (·.rank)).Pairwise (· ≤ ·) →
    ((insertCommand c cs).map (·.rank)).Pairwise (· ≤ ·) ∧ (insertCommand c cs).Perm (c :: cs)) ∧
  (∀ (d : Device) (res : Resources) (x : Candidate), resources? d = some res → chosen d = some x →
    ∃ e p, admitOne d = some e ∧ e.probes.records[res.record] = some p ∧
      p.state = .launching ∧ p.slot = x.slot ∧ p.generation = d.slots[x.slot].generation ∧ p.circuit = x.circuit ∧
      p.record = x.record ∧ p.tone = res.tone ∧ p.ctx = res.ctx ∧ p.voids = (circuitEntry d x.slot x.circuit).voids ∧
      p.accums = x.record.hops.map (fun _ => Accumulator.empty) ∧ p.listenFrom = none ∧ p.lastListen = none ∧
      p.roundsListened = 0 ∧ p.launchFault = none ∧ p.cross = none ∧ p.misroute = none ∧ p.leak = none ∧
      (∀ r : Fin 16, r ≠ res.record → e.probes.records[r] = d.probes.records[r]) ∧
      e.probes.order = d.probes.order.filter (· ≠ res.record) ++ [res.record] ∧ e.probes.pointer = x.slot ∧
      e.tones[res.tone] = .held res.record ∧ (∀ t : Fin 48, t ≠ res.tone → e.tones[t] = d.tones[t]) ∧
      e.launch.contexts[res.ctx] = ⟨.arming, some res.record, x.record.point, res.tone, none⟩ ∧
      (∀ c : Fin 8, c ≠ res.ctx → e.launch.contexts[c] = d.launch.contexts[c]) ∧
      e.launch.issued = insertCommand (.launch x.record.point res.tone x.record.depth (some res.ctx)) d.launch.issued ∧
      circuitEntry e x.slot x.circuit = ⟨.inFlight, (circuitEntry d x.slot x.circuit).voids⟩ ∧
      e.sched[x.slot].stage[x.place] = .empty ∧ e.slots = d.slots ∧ e.dma = d.dma) ∧
  (∀ d : Device, resources? d = none ∨ chosen d = none → admitOne d = none) ∧
  (∀ (d : Device) (res : Resources), resources? d = some res →
    d.leading = true ∧ d.launch.stuck.length + busyContexts d < 8 ∧
    d.probes.records[res.record] = none ∧ (∀ r : Fin 16, r < res.record → d.probes.records[r].isSome) ∧
    d.launch.contexts[res.ctx].free = true ∧ (∀ c : Fin 8, c < res.ctx → d.launch.contexts[c].free = false) ∧
    d.tones[res.tone] = .free ∧ (∀ t : Fin 48, t < res.tone → d.tones[t] ≠ .free)) ∧
  (∀ (d : Device) (r : Fin 16) (c : Fin 8) (t : Fin 48), d.leading = true →
    d.launch.stuck.length + busyContexts d < 8 → d.probes.records[r] = none → d.launch.contexts[c].free = true →
    d.tones[t] = .free → (resources? d).isSome) ∧
  (∀ (d : Device) (x : Candidate), chosen d = some x →
    d.slots[x.slot].state = .running ∧ d.sched[x.slot].stage[x.place] = .fetched x.circuit x.record ∧
    pointHeld d x.record.point = false ∧ isStuck d x.record.point = false ∧
    ∀ (n : Fin 8) (q : Fin 2) (y : Candidate), candidateAt d n q = some y →
      d.slots[n].desc.priority ≤ d.slots[x.slot].desc.priority ∧
      (d.slots[n].desc.priority = d.slots[x.slot].desc.priority →
        x.slot - d.probes.pointer - 1 ≤ n - d.probes.pointer - 1) ∧
      (n = x.slot → x.circuit ≤ y.circuit)) ∧
  (∀ (d : Device) (n : Fin 8) (q : Fin 2), chosen d = none → candidateAt d n q = none) ∧
  (∀ d : Device, probeLaw d → probeLaw (admitAll d)) ∧
  (∀ (d : Device) (n : Fin 8) (q : Fin 2),
    d.running = false ∨ d.slots[n].state ≠ .running ∨ d.sched[n].stage[q] ≠ .empty → fetchPlace n d q = d) ∧
  (∀ (d : Device) (n : Fin 8) (q : Fin 2), d.running = true → d.slots[n].state = .running → d.sched[n].stage[q] = .empty →
    ((∀ c, c < d.slots[n].desc.count → (circuitEntry d n c).status = .queued → staged d n c = true) →
      fetchPlace n d q = d) ∧
    (∀ c, c < d.slots[n].desc.count → (circuitEntry d n c).status = .queued → staged d n c = false →
      (∀ b, b < c → (circuitEntry d n b).status = .queued → staged d n b = true) →
      (∃ x, fetchPlace n d q = { d.setPlace n q (.fetching c) with dma := x }) ∧
      (fetchPlace n d q).sched[n].stage[q] = .fetching c ∧
      (inWindow d.iface.bounds (d.slots[n].desc.circuitBase + c * 272) 272 = true →
        inFlight (fetchPlace n d q) (d.slots[n].desc.circuitBase + c * 272) 272 (.circuitFetch n q c)))) ∧
  (∀ (d : Device) (n : Fin 8), (canAccess d = false ∨ d.slots[n].state ≠ .draining ∨ d.slots[n].closing ≠ none ∨
    drained d n = false) → closeIfDrained d n = d) ∧
  (∀ (d : Device) (n : Fin 8), canAccess d = true → d.slots[n].state = .draining → d.slots[n].closing = none →
    drained d n = true →
    (∀ c, (d.slots[n].reason = .aborted ∨ d.slots[n].reason = .planError) → c < d.slots[n].desc.count →
      (circuitEntry d n c).status ≠ .done → (∀ b, b < c → (circuitEntry d n b).status = .done) →
      (closeIfDrained d n).slots[n].closing = some (.notRun c) ∧
      (inWindow d.iface.bounds (d.slots[n].desc.verdictBase + c * 64) 64 = true →
        writing (closeIfDrained d n) (d.slots[n].desc.verdictBase + c * 64)
          (verdictBytes (notRunVerdict d.slots[n].generation (circuitEntry d n c).voids)) (.notRunWrite n c))) ∧
    (((d.slots[n].reason ≠ .aborted ∧ d.slots[n].reason ≠ .planError) ∨
        ∀ c, c < d.slots[n].desc.count → (circuitEntry d n c).status = .done) →
      (closeIfDrained d n).slots[n].closing = some .summary ∧
      (inWindow d.iface.bounds (boardAddr d (0x640 + 0x100 * n.val)) 128 = true →
        writing (closeIfDrained d n) (boardAddr d (0x640 + 0x100 * n.val)) (summaryBytes d.slots[n].summary) (.summaryWrite n))))

/-! ### The register window (chapter 1, 10.4) -/

/-- COLD_RESET: the reset column of every chapter (sections 1.1, 1.2, 2.1, 3.1, 3.3, 3.4, 4.2, 4.4 to 4.6, 5.1, 5.9, 6.1,
6.3 to 6.8, 7.6, 7.7, 8.1, 8.5 and 10.1). That a FREE slot's descriptor holds 0 is log entry 27 (DESIGN CHOICE): R10 names
the slot's other fields. That the accesses in flight stay, discarded, is the model's choice (log entry 18), and so are the
field that holds the frame already handed to the framer, which stands (log entry 10), and the clock, which goes on (log
entry 1). -/
def Obligations.ColdReset : Prop :=
  ∀ s : State, ∃ d, exec .coldReset s = .next { s with dev := d } ∧
    d.iface = {
        state := .detached, fresh := true, start := none, reason := .none, mode := none, bounds := none,
        scanTimer := none, scanPending := false } ∧
    d.regs = ⟨false, 0#32, 0#32, 0#32, 0#5, 0#5⟩ ∧ d.identity = none ∧ d.fuses = s.dev.fuses ∧
    (∀ n : Fin 8, d.slots[n] = {
        state := .free, reason := .none, generation := 0#16, lastSeq := 0#16, outcome := .none, verdicts := 0,
        desc := Descriptor.cleared, summary := Summary.zero, validating := false, announce := false, closing := none,
        shadowVerdicts := 0 }) ∧
    (∀ n : Fin 8, d.sched[n].circuits = [] ∧ ∀ p : Fin 2, d.sched[n].stage[p] = .empty) ∧
    (∀ (n : Fin 8) (c : Nat), circuitEntry d n c = ⟨.queued, 0⟩) ∧
    (∀ w : Fin 4, d.windows[w] = ⟨.opened, 0, 0#16⟩) ∧
    d.rounds = {
        number := 0#32, inForce := none, watchAt := none, nextAt := none, awaitFirst := false, phase := .closed,
        leadState := .following, lastMark := none, requested := none, readPending := false, staged := none,
        hold := false, applied := none, marksTooClose := 0#32, marksForeign := 0#32 } ∧
    (∀ r : Fin 16, d.probes.records[r] = none) ∧ d.probes.order = [] ∧ d.probes.pointer = 7 ∧
    d.launch.sending = some .stopAll ∧ d.launch.waiting = [] ∧ d.launch.stuck = [] ∧ d.launch.issued = [] ∧
    (∀ c : Fin 8, d.launch.contexts[c].state = .idle ∧ d.launch.contexts[c].owner = none ∧
      d.launch.contexts[c].timer = none) ∧
    (∀ t : Fin 48, d.tones[t] = .free) ∧
    d.taps.table = none ∧ d.taps.cursor = none ∧ d.taps.plan = [] ∧ d.taps.watched = [] ∧ d.taps.sweepFirst = none ∧
    d.taps.sweepOver = false ∧ d.taps.localWatches = [] ∧ d.taps.heldWatches = [] ∧
    (∀ i : Fin 4, d.taps.detectors[i] = .idle) ∧
    (∀ p : Fin 16, d.lead.peers[p] = {
        configured := false, target := 0, state := .absent, silence := 0, capLevel := false, capEmpty := false,
        hello := none, reserve := 0, lent := 0, blocks := [], arrived := 0#16, report := none, malformed := 0#32,
        violations := 0#32 }) ∧
    d.lead.pool = 64 ∧ d.lead.pointer = 15 ∧ d.lead.transmit = [] ∧
    d.follower = {
        hold := [], sent := 0#16, grant := none, hello := none, helloCount := 0, shed := 0#32, malformed := 0#32,
        leadLostAt := none } ∧
    (∀ n : Fin 8, d.areas[n] = ⟨[], 0#64, none⟩) ∧ (∀ w : Fin 4, d.walks[w] = none) ∧
    d.classifier = ⟨[], false, 0#32, 0#32, 0#32⟩ ∧
    d.journal = {
        ring := none, usable := false, produced := 0#32, consumed := 0#32, overflow := 0#32, notified := false,
        requests := [], memory := [], readPending := false } ∧
    d.dma.inFlight = s.dev.dma.inFlight.map (fun a => { a with discarded := true }) ∧ d.dma.refused = [] ∧
    d.dma.owed = [] ∧ d.dma.startOwed = [] ∧ d.framer = s.dev.framer ∧ d.now = s.dev.now

/-- BOARD_RESET, whatever RUN bit the write carries: the board-reset column of every chapter. The STOPs of the contexts not
IDLE, in ascending context order, and then of the stuck list follow the command being sent, if any; what waited is gone
(sections 1.1, 1.2, 2.1, 3.1, 3.3, 3.4, 4.2, 4.4 to 4.6, 5.1, 5.9, 6.1, 6.5, 6.7, 6.8, 7.6, 7.7, 8.1, 8.5 and 10.1). What it
keeps, and the latched descriptors it clears, are log entry 19 (DEDUCED); that the accesses in flight stay listed, discarded,
and the frame and the clock stand is the model's way of holding them (log entries 2, 10 and 1, DESIGN CHOICE). -/
def Obligations.BoardReset : Prop :=
  ∀ (run : Bool) (s : State), ∃ d, exec (.boardReset run) s = .next { s with dev := d } ∧
    d.iface = { s.dev.iface with
        state := .stopped, fresh := true, start := none, reason := .none, scanTimer := none, scanPending := false } ∧
    d.regs = { s.dev.regs with run := false, irqCause := 0#5 } ∧ d.identity = s.dev.identity ∧ d.fuses = s.dev.fuses ∧
    (∀ n : Fin 8, d.slots[n] = {
        state := .free, reason := .none, generation := s.dev.slots[n].generation, lastSeq := s.dev.slots[n].lastSeq,
        outcome := .none, verdicts := 0, desc := Descriptor.cleared, summary := Summary.zero, validating := false,
        announce := false, closing := none, shadowVerdicts := 0 }) ∧
    (∀ n : Fin 8, d.sched[n].circuits = [] ∧ ∀ p : Fin 2, d.sched[n].stage[p] = .empty) ∧
    (∀ (n : Fin 8) (c : Nat), circuitEntry d n c = ⟨.queued, 0⟩) ∧
    (∀ w : Fin 4, d.windows[w] = ⟨.opened, 0, 0#16⟩) ∧
    d.rounds = {
        number := 0#32, inForce := none, watchAt := none, nextAt := none, awaitFirst := false, phase := .closed,
        leadState := .following, lastMark := none, requested := none, readPending := false, staged := none,
        hold := false, applied := none, marksTooClose := 0#32, marksForeign := 0#32 } ∧
    (∀ r : Fin 16, d.probes.records[r] = none) ∧ d.probes.order = [] ∧ d.probes.pointer = 7 ∧
    (∀ c : Fin 8, d.launch.contexts[c].state = .idle ∧ d.launch.contexts[c].owner = none ∧
      d.launch.contexts[c].timer = none) ∧ d.launch.stuck = [] ∧ d.launch.issued = [] ∧
    (∀ stops : List BusCommand, stops = (((List.finRange 8).filter (fun c => s.dev.launch.contexts[c].state != .idle)).map
        (fun c => s.dev.launch.contexts[c].point) ++ s.dev.launch.stuck.map (·.point)).map (fun p => .stop p none) →
      (∀ c, s.dev.launch.sending = some c → d.launch.sending = some c.orphan ∧ d.launch.waiting = stops) ∧
      (s.dev.launch.sending = none → d.launch.sending = stops.head? ∧ d.launch.waiting = stops.tail)) ∧
    (∀ t : Fin 48, d.tones[t] = .free) ∧
    d.taps.table = none ∧ d.taps.cursor = none ∧ d.taps.plan = [] ∧ d.taps.watched = [] ∧ d.taps.sweepFirst = none ∧
    d.taps.sweepOver = false ∧ d.taps.localWatches = [] ∧ d.taps.heldWatches = [] ∧
    (∀ i : Fin 4, d.taps.detectors[i] = .idle) ∧
    (∀ p : Fin 16, d.lead.peers[p] = {
        configured := false, target := 0, state := .absent, silence := 0, capLevel := false, capEmpty := false,
        hello := none, reserve := 0, lent := 0, blocks := [], arrived := 0#16, report := none, malformed := 0#32,
        violations := 0#32 }) ∧
    d.lead.pool = 64 ∧ d.lead.pointer = 15 ∧ d.lead.transmit = [] ∧
    d.follower = {
        hold := [], sent := 0#16, grant := none, hello := none, helloCount := 0, shed := 0#32, malformed := 0#32,
        leadLostAt := none } ∧
    (∀ n : Fin 8, d.areas[n] = ⟨[], 0#64, none⟩) ∧ (∀ w : Fin 4, d.walks[w] = none) ∧
    d.classifier = ⟨[], false, 0#32, 0#32, 0#32⟩ ∧
    d.journal = {
        ring := s.dev.journal.ring, usable := false, produced := 0#32, consumed := 0#32, overflow := 0#32,
        notified := false, requests := [], memory := [], readPending := false } ∧
    d.dma.inFlight = s.dev.dma.inFlight.map (fun a => { a with discarded := true }) ∧ d.dma.refused = [] ∧
    d.dma.owed = [] ∧ d.dma.startOwed = [] ∧ d.framer = s.dev.framer ∧ d.now = s.dev.now

/-- RUN_SET: a start begins in DETACHED or STOPPED, fails with NO_WINDOW, or the write has no effect (sections 1.1, 1.2). -/
def Obligations.RunSet : Prop :=
  ∀ s : State,
    (s.dev.iface.start = none → (s.dev.iface.state = .detached ∨ s.dev.iface.state = .stopped) →
      windowRegistersOk s.dev.regs = true → 0x10000 ≤ s.dev.regs.windowSize.toNat →
      ∃ d, exec .runSet s = .next { s with dev := settle d } ∧ d.iface.start = some ⟨.headerRead, [], []⟩ ∧
        d.iface.state = s.dev.iface.state ∧ d.regs = { s.dev.regs with run := true } ∧
        d.iface.bounds = some ⟨boardBase s.dev.regs, s.dev.regs.windowSize.toNat⟩ ∧
        inFlight d (boardBase s.dev.regs) 256 .startHeaderRead) ∧
    (s.dev.iface.start = none → (s.dev.iface.state = .detached ∨ s.dev.iface.state = .stopped) →
      windowRegistersOk s.dev.regs = false →
      ∃ d, exec .runSet s = .next { s with dev := settle d } ∧ d.iface.state = .faulted ∧
        d.iface.reason = .noWindow ∧ d.regs.run = false ∧ d.regs.irqCause.getLsbD 4 = true ∧
        d.dma.inFlight.length = s.dev.dma.inFlight.length) ∧
    (s.dev.iface.start.isSome ∨ s.dev.iface.state = .running ∨ s.dev.iface.state = .faulted →
      exec .runSet s = .next s)

/-- RUN_CLEAR: a RUNNING device halts, a start in progress is abandoned with its own accesses, in flight and owed, and no
others, else no effect (which writes owed are the start's own is log entry 13, DEDUCED). A halt issues STOP for the context of
every ARMED or LISTENING probe, and at a lead owes a status write for each peer whose status it changes (which changes count
is log entry 30, DEDUCED; that a write whose completion is to be discarded holds none back, log entry 38, DESIGN CHOICE; that
the commands stand in `launch.issued` until the step's end is log entry 7, DESIGN CHOICE; sections 1.1, 1.2, 4.4, 4.6, 6.4,
6.7). -/
def Obligations.RunClear : Prop :=
  ∀ s : State,
    (s.dev.iface.start = none → s.dev.iface.state = .running →
      ∃ d, exec .runClear s = .next { s with dev := settle d } ∧ d.iface.state = .stopped ∧
        d.regs = { s.dev.regs with run := false } ∧ d.iface.scanTimer = none ∧ d.iface.scanPending = false ∧ d.iface.bounds = s.dev.iface.bounds ∧
        d.slots = s.dev.slots ∧ d.windows = s.dev.windows ∧ d.rounds.number = s.dev.rounds.number ∧
        d.rounds.inForce = s.dev.rounds.inForce ∧ d.rounds.watchAt = none ∧ d.rounds.nextAt = none ∧
        (∀ r p, d.probes.records[(r : Fin 16)] = some p → p.state = .evaluating) ∧
        (∀ i : Fin 4, d.taps.detectors[i] = .idle) ∧ d.taps.table = s.dev.taps.table ∧
        d.classifier.queue = [] ∧ d.lead.transmit = [] ∧ d.lead.pool = 64 ∧ d.follower.hold = [] ∧
        d.follower.grant = none ∧ d.areas = s.dev.areas ∧ d.walks = s.dev.walks ∧
        stopsIssued s.dev d (sounding s.dev (fun _ => True)) ∧
        (∀ p : Fin 16, s.dev.iface.mode = some .lead →
          peerStatusBytes d.lead.peers[p] ≠ peerStatusBytes s.dev.lead.peers[p] → peerDue s.dev d p False)) ∧
    (s.dev.iface.start.isSome →
      ∃ d, exec .runClear s = .next { s with dev := d } ∧ d.iface = { s.dev.iface with start := none } ∧
        d.regs = { s.dev.regs with run := false } ∧ (∀ a ∈ d.dma.inFlight, a.ofStart = true → a.discarded = true) ∧
        (∀ a ∈ s.dev.dma.inFlight, a.ofStart = false → a ∈ d.dma.inFlight) ∧
        d.dma.owed = s.dev.dma.owed.filter (fun ch => decide (ch ∉ s.dev.dma.startOwed)) ∧ d.dma.startOwed = []) ∧
    (s.dev.iface.start = none → s.dev.iface.state ≠ .running → exec .runClear s = .next s)

/-- NUDGE requests a scan of a RUNNING device and has no effect otherwise (R4); the scan read is issued, or made pending behind
the one in flight (R14), and an access outside the window is refused (R12), which the model keeps in `dma.refused` for the
step's end (log entry 6, DEDUCED). A read whose completion is to be discarded is not the one in flight: log entry 38, DESIGN
CHOICE. -/
def Obligations.Nudge : Prop :=
  ∀ (v : Word) (s : State),
    (s.dev.iface.state = .running → s.dev.iface.start = none →
      (live s.dev isScanRead = true →
        exec (.nudge v) s =
          .next { s with dev := settle { s.dev with iface := { s.dev.iface with scanPending := true } } }) ∧
      (live s.dev isScanRead = false →
        ∃ d, exec (.nudge v) s = .next { s with dev := settle d } ∧ d.iface = s.dev.iface ∧
          (inWindow s.dev.iface.bounds (boardAddr s.dev 0x100) 112 = true →
            inFlight d (boardAddr s.dev 0x100) 112 .scanRead) ∧
          (inWindow s.dev.iface.bounds (boardAddr s.dev 0x100) 112 = false →
            ∃ a ∈ d.dma.refused, a.kind = .scanRead ∧ a.addr = boardAddr s.dev 0x100 ∧ a.len = 112))) ∧
    (s.dev.iface.state ≠ .running ∨ s.dev.iface.start.isSome → exec (.nudge v) s = .next s)

/-- WINDOW_SIZE_WRITE stores the value rounded down to 4 KiB and clamped, and changes nothing else (section 1.1). -/
def Obligations.WindowSizeWrite : Prop :=
  ∀ (v : Word) (s : State), ∃ size : Word,
    exec (.windowSizeWrite v) s =
      .next { s with dev := { s.dev with regs := { s.dev.regs with windowSize := size } } } ∧
    size.toNat = max 0x10000 (min 0x10000000 (v.toNat / 4096 * 4096))

/-- IRQ_CAUSE_WRITE and IRQ_MASK_WRITE, with the line that follows them at once (section 10.4). -/
def Obligations.InterruptRegisterWrites : Prop :=
  ∀ (v : Word) (s : State),
    (∃ d, exec (.irqCauseWrite v) s = .next { s with dev := d } ∧
      (∀ i, i < 5 → d.regs.irqCause.getLsbD i = (s.dev.regs.irqCause.getLsbD i && !v.getLsbD i)) ∧
      d.regs = { s.dev.regs with irqCause := d.regs.irqCause } ∧
      d.journal = { s.dev.journal with notified := s.dev.journal.notified && !v.getLsbD 1 } ∧
      (irqLine d = true ↔ ∃ i, i < 5 ∧ d.regs.irqCause.getLsbD i = true ∧ d.regs.irqMask.getLsbD i = true) ∧
      d = { s.dev with regs := d.regs, journal := d.journal }) ∧
    (∃ d, exec (.irqMaskWrite v) s = .next { s with dev := d } ∧
      (∀ i, i < 5 → d.regs.irqMask.getLsbD i = v.getLsbD i) ∧
      (irqLine d = true ↔ ∃ i, i < 5 ∧ d.regs.irqCause.getLsbD i = true ∧ v.getLsbD i = true) ∧
      d = { s.dev with regs := { s.dev.regs with irqMask := d.regs.irqMask } })

/-- REGISTER_WRITE: the board base registers are stored; read-only and unused offsets, narrow and unaligned writes have no
effect. That a write wider than 32 bits at a read-only or unused offset has none is log entry 34 (DESIGN CHOICE), R1 being
silent of it. What an aligned word does at a register that has commands of its own (log entry 29), and a wider write there
or at the base registers, is not said here (section 1.1). -/
def Obligations.RegisterWrite : Prop :=
  ∀ (offset : BitVec 12) (size : Nat) (v : Word) (s : State),
    (offset = 0x010#12 → size = 4 → exec (.registerWrite offset size v) s =
      .next { s with dev := { s.dev with regs := { s.dev.regs with
        baseLo := BitVec.ofNat 32 (v.toNat / 4096 * 4096) } } }) ∧
    (offset = 0x014#12 → size = 4 → exec (.registerWrite offset size v) s =
      .next { s with dev := { s.dev with regs := { s.dev.regs with baseHi := v } } }) ∧
    (offset = 0x000#12 ∨ offset = 0x008#12 ∨ 0x024 ≤ offset.toNat ∨ size < 4 ∨ offset.toNat % 4 ≠ 0 →
      exec (.registerWrite offset size v) s = .next s)

/-- BAR reads: ID at all times, zero above the registers, each other register as it stands, and the fields of STATUS with
LEAD_STATE 0 outside FOLLOW (section 1.1). -/
def Obligations.BarReads : Prop :=
  ∀ d : Device, barRead d 0x000 4 = [0x00#8, 0x01#8, 0x80#8, 0x04#8] ∧
    (∀ o, 0x024 ≤ o → barByte d o = 0#8) ∧ (registerWord d 0x004).toNat = bit d.regs.run ∧
    (statusWord d).toNat % 4 = d.iface.state.code ∧ ((statusWord d).toNat / 4 % 2 = 1 ↔ d.iface.start.isSome) ∧
    (statusWord d).toNat / 16 % 16 = d.iface.reason.code ∧ (statusWord d).toNat / 256 % 4 = modeCode d.iface.mode ∧
    (statusWord d).toNat / 1024 % 4 = (if d.iface.mode ≠ some .follow then 0
      else if d.rounds.leadState = .following then 1 else 2) ∧ (statusWord d).toNat < 4096 ∧
    registerWord d 0x008 = statusWord d ∧ registerWord d 0x00C = 0#32 ∧ registerWord d 0x010 = d.regs.baseLo ∧
    registerWord d 0x014 = d.regs.baseHi ∧ registerWord d 0x018 = d.regs.windowSize ∧
    (registerWord d 0x01C).toNat = d.regs.irqCause.toNat ∧ (registerWord d 0x020).toNat = d.regs.irqMask.toNat ∧
    (∀ (o : Nat) (i : Fin 4), o % 4 = 0 → (barByte d (o + i.val)).toNat = (registerWord d o).toNat / 256 ^ i.val % 256)

/-! ### Starts (1.2) -/

/-- START_HEADER_READ_DONE: the checks of step 3, then the request area read, or the failure they give. -/
def Obligations.StartHeaderReadDone : Prop :=
  ∀ (a : Access) (st : Start) (b : List Byte) (s : State),
    awaited s.dev a isStartHeaderRead → s.dev.iface.start = some st →
    s.dev.iface.state = .detached ∨ s.dev.iface.state = .stopped →
    inWindow s.dev.iface.bounds (boardAddr s.dev 0x100) 112 = true →
    ∃ d, exec (.startHeaderReadDone a.tag (.bytes b)) s =
        .next { s with board := landed s.board a true, dev := settle d } ∧
      (∀ i, identity? b = some i → journalOk s.dev.iface.bounds i = true →
        d.iface = { s.dev.iface with start := some ⟨.requestRead, b, []⟩ } ∧
        inFlight d (boardAddr s.dev 0x100) 112 .startRequestRead) ∧
      (identity? b = none → d.iface.state = .faulted ∧ d.iface.reason = .badIdentity ∧ d.iface.start = none) ∧
      (∀ i, identity? b = some i → journalOk s.dev.iface.bounds i = false →
        d.iface.state = .faulted ∧ d.iface.reason = .badJournal ∧ d.iface.start = none)

/-- START_REQUEST_READ_DONE: sequences adopted when fresh, and step 5: the header write, all 76 bytes, issued, and in LEAD mode
a status write due for each of the sixteen peers, an access of the start where it is issued now (that none of them is waited for
is log entry 13, DEDUCED; that a write whose completion is to be discarded holds none back, log entry 38, DESIGN CHOICE;
sections 1.2, 6.4 and 11.1). -/
def Obligations.StartRequestReadDone : Prop :=
  ∀ (a : Access) (st : Start) (b : List Byte) (s : State),
    awaited s.dev a isStartRequestRead → s.dev.iface.start = some st →
    s.dev.iface.state = .detached ∨ s.dev.iface.state = .stopped →
    inWindow s.dev.iface.bounds (boardAddr s.dev 0) 76 = true →
    ∃ d, exec (.startRequestReadDone a.tag (.bytes b)) s =
        .next { s with board := landed s.board a true, dev := settle d } ∧
      d.iface = { s.dev.iface with start := some ⟨.headerWrite, st.header, b⟩ } ∧
      (s.dev.iface.fresh = true → ∀ n : Fin 8, d.slots[n] = { s.dev.slots[n] with lastSeq := requestSequence b n }) ∧
      (s.dev.iface.fresh = false → d.slots = s.dev.slots) ∧
      (∃ w ∈ d.dma.inFlight, w.kind = .startHeaderWrite ∧ w.addr = boardAddr s.dev 0 ∧ w.len = 76 ∧
        w.data = headerBytes s.dev st.header ∧ w.discarded = false ∧ w.ofStart = true) ∧
      (headerBytes s.dev st.header).length = 76 ∧
      (headerBytes s.dev st.header).take 4 = [0x00#8, 0x01#8, 0x80#8, 0x04#8] ∧
      (∀ k, k < 24 → byteAt (headerBytes s.dev st.header) (4 + k) = byteAt st.header (4 + k)) ∧
      word (headerBytes s.dev st.header) 0x1C = s.dev.journal.produced ∧
      word (headerBytes s.dev st.header) 0x20 = s.dev.journal.overflow ∧
      (∀ k : Fin 4, byteAt (headerBytes s.dev st.header) (0x24 + k.val) = (s.dev.fuses[k]).signExtend 8) ∧
      (s.dev.rounds.applied = none → ∀ k, k < 8 → byteAt (headerBytes s.dev st.header) (0x28 + k) = 0#8) ∧
      (∀ (seq : Half) (n : Round), s.dev.rounds.applied = some (seq, n) →
        half (headerBytes s.dev st.header) 0x28 = seq ∧ half (headerBytes s.dev st.header) 0x2A = 1#16 ∧
        word (headerBytes s.dev st.header) 0x2C = n) ∧
      word (headerBytes s.dev st.header) 0x30 = s.dev.rounds.marksTooClose ∧
      word (headerBytes s.dev st.header) 0x34 = s.dev.rounds.marksForeign ∧
      word (headerBytes s.dev st.header) 0x38 = s.dev.follower.shed ∧
      word (headerBytes s.dev st.header) 0x3C = s.dev.follower.malformed ∧
      word (headerBytes s.dev st.header) 0x40 = s.dev.classifier.stale ∧
      word (headerBytes s.dev st.header) 0x44 = s.dev.classifier.lateTone ∧
      word (headerBytes s.dev st.header) 0x48 = s.dev.classifier.stray ∧
      (∀ (i : Identity) (p : Fin 16), identity? st.header = some i → i.mode = .lead →
        peerDue (dropAccess s.dev a.tag) d p False ∧
        (live (dropAccess s.dev a.tag) (ofChannel (.peer p)) = false →
          ∀ w ∈ d.dma.inFlight, w.discarded = false → w.kind = .channelWrite (.peer p) false false → w.ofStart = true)) ∧
      ((∃ i, identity? st.header = some i ∧ i.mode = .follow) →
        ∃ w, d.dma.inFlight = (dropAccess s.dev a.tag).dma.inFlight ++ [w])

/-- What a completed start does (step 7): RUNNING in the mode of its header with the scan timer started, the request area
applied, the four window status writes owed, and by mode a lead's peers UNKNOWN and its campaigns running, or a follower's
campaigns drained and its JOINING HELLO pending. A lead with settings in force takes its first ROUND_START at once, and without
them as soon as a staged copy is settled. That the ROUND_START is taken within this step is log entry 8 (DEDUCED), that a
follower's requests are judged before its campaigns drain log entry 14 (DEDUCED), and that the configured flags are the latest
application's log entry 35 (DESIGN CHOICE). That the start completes at its header write or its last shadow write, its peer
status writes completed or not, is log entry 13 (DEDUCED); a shadow write that is not the last changes nothing else. Neither the
last shadow write of step 6 nor a window status write waits for one whose completion is to be discarded (log entry 38, DESIGN
CHOICE; sections 1.2, 1.4, 2.2, 2.3, 3.2 to 3.4, 6.4, 6.8 and 10.1). -/
def Obligations.StartCompletes : Prop :=
  (∀ (a : Access) (st : Start) (i : Identity) (c : Instr) (s : State),
    s.dev.iface.start = some st → identity? st.header = some i →
    (awaited s.dev a isStartHeaderWrite ∧ s.dev.iface.fresh = false ∧ c = .startHeaderWriteDone a.tag true ∨
      awaited s.dev a isStartShadow ∧ live (dropAccess s.dev a.tag) isStartShadow = false ∧
        c = .startShadowWriteDone a.tag true) →
    ∃ y d, exec c s = .next { s with board := landed s.board a true, dev := settle d } ∧
      startedBy st i (dropAccess s.dev a.tag) y ∧
      d.iface.state = .running ∧ d.iface.start = none ∧ d.iface.fresh = false ∧ d.iface.mode = some i.mode ∧
      d.iface.scanTimer = some (s.dev.now + 100) ∧ d.identity = some i ∧
      (i.mode = .follow → startedFollower st (dropAccess s.dev a.tag) y ∧ d = y) ∧
      (i.mode = .lead → startedLead st (dropAccess s.dev a.tag) y ∧
        (s.dev.rounds.inForce.isSome → d = leadRoundStart y ∧ d.rounds.number = s.dev.rounds.number + 1#32) ∧
        (s.dev.rounds.inForce = none → ∀ z, z = { y with rounds := { y.rounds with awaitFirst := true } } →
          (settled y = true → d = leadRoundStart z ∧ d.rounds.number = s.dev.rounds.number + 1#32) ∧
          (settled y = false → d = z ∧ d.rounds.awaitFirst = true ∧ d.rounds.number = s.dev.rounds.number)))) ∧
  (∀ (a : Access) (st : Start) (s : State), s.dev.iface.start = some st → awaited s.dev a isStartShadow →
    live (dropAccess s.dev a.tag) isStartShadow = true →
    exec (.startShadowWriteDone a.tag true) s =
      .next { s with board := landed s.board a true, dev := settle (dropAccess s.dev a.tag) })

/-- START_HEADER_WRITE_DONE with the fresh-start flag set: the shadow writes of step 6 are issued, all eight at once (that they
do not wait for one another is the model's choice, log entry 20; that step 6 begins at the header write's completion, the peer
status writes of step 5 completed or not, is log entry 13, DEDUCED; sections 1.2 and 11.1). -/
def Obligations.FreshStartWritesShadows : Prop :=
  ∀ (a : Access) (st : Start) (s : State),
    awaited s.dev a isStartHeaderWrite → s.dev.iface.start = some st → s.dev.iface.fresh = true →
    s.dev.iface.state = .detached ∨ s.dev.iface.state = .stopped →
    (∀ n : Fin 8, inWindow s.dev.iface.bounds (boardAddr s.dev (0x620 + 0x100 * n.val)) 16 = true) →
    ∃ d, exec (.startHeaderWriteDone a.tag true) s =
        .next { s with board := landed s.board a true, dev := settle d } ∧
      d.iface = { s.dev.iface with start := some { st with step := .shadowWrites } } ∧ d.slots = s.dev.slots ∧
      ∀ n : Fin 8, writing d (boardAddr s.dev (0x620 + 0x100 * n.val))
        (shadowBytes s.dev.slots[n].state s.dev.slots[n]) (.startShadowWrite n) ∧
        ∀ b, b = shadowBytes s.dev.slots[n].state s.dev.slots[n] →
          b.length = 16 ∧ u8 b 0 = s.dev.slots[n].state.code ∧ u8 b 1 = s.dev.slots[n].reason.code ∧
          half b 2 = s.dev.slots[n].generation ∧ half b 4 = s.dev.slots[n].lastSeq ∧
          u8 b 6 = s.dev.slots[n].outcome.code ∧ u8 b 7 = 0 ∧ word b 8 = BitVec.ofNat 32 s.dev.slots[n].verdicts ∧
          word b 0x0C = 0#32

/-! ### Board scans and campaign slots (1.4 to 1.6, chapter 2) -/

/-- SCAN_TIMER_EXPIRY: the timer restarts for 100 ms from the time it was due (log entry 24, DEDUCED) and a scan is requested;
the clock stands at the due time or later (log entry 1, DESIGN CHOICE). A read whose completion is to be discarded is not the
one in flight: log entry 38, DESIGN CHOICE. -/
def Obligations.ScanTimerExpiry : Prop :=
  ∀ (t : Nat) (s : State), s.dev.iface.scanTimer = some t → s.dev.iface.state = .running →
    inWindow s.dev.iface.bounds (boardAddr s.dev 0x100) 112 = true →
    ∃ d, exec .scanTimerExpiry s = .next { s with dev := settle d } ∧ d.now = max s.dev.now t ∧
      d.iface.scanTimer = some (t + 100) ∧ d.slots = s.dev.slots ∧
      (live s.dev isScanRead = true → d.iface.scanPending = true ∧ d.dma = s.dev.dma) ∧
      (live s.dev isScanRead = false → d.iface.scanPending = s.dev.iface.scanPending ∧
        inFlight d (boardAddr s.dev 0x100) 112 .scanRead)

/-- SCAN_READ_DONE: HOLD is stored, each window takes its want, the RUNNING campaigns of a window that leaves QUIET are
SUSPENDED and their probes voided, each request word with a changed sequence is judged by the table in the state that leaves
and the slot's outcome and state become what it gives, and a pending scan's read is issued and its mark cleared. A changed
settings sequence issues the settings read or makes one pending, and so does every scan completion with the consumed read. A
shadow write is due for each slot that is judged, changes state or has verdicts its latest write did not show, a status write
for each window that changes; a suspension's voids issue STOP for their contexts. That an access whose completion is to be
discarded holds none back is log entry 38 (DESIGN CHOICE; for settings reads section 3.4 says so; that the commands stand in
`launch.issued` until the step's end is log entry 7, DESIGN CHOICE; sections 1.4, 1.5, 2.2 to 2.4, 3.4, 4.4 and 10.1). -/
def Obligations.ScanReadDone : Prop :=
  (∀ (a : Access) (b : List Byte) (s : State), awaited s.dev a isScanRead →
    ∃ d, exec (.scanReadDone a.tag (.bytes b)) s =
        .next { s with board := landed s.board a true, dev := settle d } ∧
      d.rounds.hold = areaHold b ∧ d.rounds.requested = some (areaSequence b) ∧
      (∀ w : Fin 4, d.windows[w] = s.dev.windows[w].applyWant (wantClosed b w) (holdOff b w)) ∧
      (∀ n : Fin 8, d.slots[n].lastSeq = requestSequence b n) ∧ d.iface.scanPending = false ∧
      (s.dev.iface.scanPending = true → canAccess s.dev = true →
        inWindow s.dev.iface.bounds (boardAddr s.dev 0x100) 112 = true → inFlight d (boardAddr s.dev 0x100) 112 .scanRead) ∧
      (s.dev.iface.scanPending = false → live d isScanRead = live (dropAccess s.dev a.tag) isScanRead) ∧
      scanReads (dropAccess s.dev a.tag) d b ∧
      (∀ w : Fin 4, d.windows[w] ≠ s.dev.windows[w] → windowDue (dropAccess s.dev a.tag) d w) ∧
      (∀ n : Fin 8, (requestSequence b n ≠ s.dev.slots[n].lastSeq ∨ d.slots[n].state ≠ s.dev.slots[n].state ∨
          s.dev.slots[n].verdicts ≠ s.dev.slots[n].shadowVerdicts) →
        shadowDue (dropAccess s.dev a.tag) d n (.shadow n ∈ d.dma.owed)) ∧
      (∀ (n : Fin 8) (st : SlotState),
        st = (if s.dev.iface.mode = some .lead ∧ s.dev.slots[n].state = .running ∧
            (∃ w : Fin 4, s.dev.slots[n].desc.windowId = w.val ∧ s.dev.windows[w].phase = .quiet ∧ wantClosed b w = false)
          then .suspended else s.dev.slots[n].state) →
        (requestSequence b n = s.dev.slots[n].lastSeq →
          d.slots[n].state = st ∧ d.slots[n].outcome = s.dev.slots[n].outcome) ∧
        (requestSequence b n ≠ s.dev.slots[n].lastSeq →
          d.slots[n].outcome = (if requestTaken st (requestKind b n) then .taken else .ignored) ∧
          d.slots[n].state = (if requestTaken st (requestKind b n) = false then st else
            match requestKind b n with
            | .submit => if s.dev.iface.mode = some .follow then .rejected else .validating
            | .abort => .draining
            | .release => .sweeping
            | .other => st))) ∧
      (∀ (r : Fin 16) (p : Probe) (w : Fin 4), s.dev.probes.records[r] = some p → p.state ≠ .evaluating →
        s.dev.iface.mode = some .lead → s.dev.slots[p.slot].state = .running →
        s.dev.slots[p.slot].desc.windowId = w.val → s.dev.windows[w].phase = .quiet → wantClosed b w = false →
        d.probes.records[r] = none ∧
        ((p.state = .armed ∨ p.state = .listening) → s.dev.launch.contexts[p.ctx].state = .on →
          d.launch.contexts[p.ctx].state = .stopping ∧
          .stop s.dev.launch.contexts[p.ctx].point (some p.ctx) ∈ d.launch.issued) ∧
        (∀ v, circuitEntry s.dev p.slot p.circuit = ⟨.inFlight, v⟩ →
          circuitEntry d p.slot p.circuit = ⟨.queued, min (v + 1) 255⟩))) ∧
  (∀ (d : Device) (r : Fin 16) (p : Probe), d.probes.records[r] = some p → p.state ≠ .evaluating →
    (voidProbe r d).probes.records[r] = none ∧ r ∉ (voidProbe r d).probes.order ∧
    (voidProbe r d).launch.contexts[p.ctx].owner ≠ some r ∧
    (p.state ≠ .grace → (voidProbe r d).tones[p.tone] =
      .quarantined ⟨d.rounds.number, some r, .voided, p.lastListen, false⟩) ∧
    (∀ q : Fin 16, q ≠ r → (voidProbe r d).probes.records[q] = d.probes.records[q]) ∧ (voidProbe r d).slots = d.slots) ∧
  (∀ (sel : Probe → Bool) (d : Device) (r : Fin 16) (p : Probe), d.probes.records[r] = some p → sel p = true →
    (p.state = .armed ∨ p.state = .listening) → d.launch.contexts[p.ctx].state = .on →
    (voidProbes sel d).launch.contexts[p.ctx].state = .stopping) ∧
  (∀ (sel : Probe → Bool) (d : Device), stopsIssued d (voidProbes sel d) (sounding d (fun p => sel p = true)))

/-- A request word with a changed sequence: taken or ignored by the slot's state and kind, and an ignored request changes
nothing else of the slot's campaign but what its shadow write notes. Every request judged owes its shadow write; a SUBMIT taken
in LEAD mode issues the descriptor read, 32 bytes at the slot's descriptor address; an ABORT taken drains the slot. A write
whose completion is to be discarded holds no shadow write back: log entry 38, DESIGN CHOICE (section 1.5). -/
def Obligations.RequestsJudged : Prop :=
  ∀ (area : List Byte) (n : Fin 8) (d : Device), canAccess d = true →
    (requestSequence area n = d.slots[n].lastSeq → judgeRequest area d n = d) ∧
    (requestSequence area n ≠ d.slots[n].lastSeq →
      (judgeRequest area d n).slots[n].lastSeq = requestSequence area n ∧
      (∀ m : Fin 8, m ≠ n → (judgeRequest area d n).slots[m] = d.slots[m]) ∧
      shadowDue d (judgeRequest area d n) n False ∧
      (requestTaken d.slots[n].state (requestKind area n) = false →
        (∃ k b, (judgeRequest area d n).slots[n] = { d.slots[n] with
          lastSeq := requestSequence area n, outcome := .ignored, shadowVerdicts := k, announce := b }) ∧
        (judgeRequest area d n).probes = d.probes ∧ (judgeRequest area d n).areas = d.areas) ∧
      (requestKind area n = .submit → d.slots[n].state = .free →
        (judgeRequest area d n).slots[n].outcome = .taken ∧
        (judgeRequest area d n).slots[n].generation = d.slots[n].generation + 1#16 ∧
        (judgeRequest area d n).slots[n].verdicts = 0 ∧
        (judgeRequest area d n).slots[n].state = (if d.iface.mode = some .follow then .rejected else .validating) ∧
        (judgeRequest area d n).slots[n].reason = (if d.iface.mode = some .follow then .followMode else .none) ∧
        (judgeRequest area d n).slots[n].desc = Descriptor.cleared ∧
        (judgeRequest area d n).slots[n].summary = Summary.zero ∧
        (d.iface.mode ≠ some .follow →
          (inWindow d.iface.bounds (boardAddr d (0x600 + 0x100 * n.val)) 32 = true →
            inFlight (judgeRequest area d n) (boardAddr d (0x600 + 0x100 * n.val)) 32 (.descriptorRead n)) ∧
          (inWindow d.iface.bounds (boardAddr d (0x600 + 0x100 * n.val)) 32 = false →
            ∃ a ∈ (judgeRequest area d n).dma.refused, a.kind = .descriptorRead n)) ∧
        (d.iface.mode = some .follow →
          live (judgeRequest area d n) isDescriptorRead = live d isDescriptorRead)) ∧
      (requestKind area n = .abort → (d.slots[n].state = .running ∨ d.slots[n].state = .waiting) →
        (judgeRequest area d n).slots[n].outcome = .taken ∧
        (judgeRequest area d n).slots[n].state = .draining ∧
        (judgeRequest area d n).slots[n].reason = .aborted) ∧
      (requestKind area n = .abort → d.slots[n].state.drainable = true → judgeRequest area d n =
        drainSlot n .aborted (d.setSlot n { d.slots[n] with lastSeq := requestSequence area n, outcome := .taken })) ∧
      (requestKind area n = .release → (d.slots[n].state = .closed ∨ d.slots[n].state = .rejected) →
        (judgeRequest area d n).slots[n].outcome = .taken ∧
        (judgeRequest area d n).slots[n].state = .sweeping ∧ (judgeRequest area d n).areas[n].sweep = some 0))

/-- DESCRIPTOR_READ_DONE: a VALIDATING slot is rejected with the first failing check's reason, or its descriptor latched and the
campaign placed; a slot an ABORT has taken to DRAINING meanwhile is rejected likewise, or its descriptor latched and the drain
goes on; a slot whose state changes owes its shadow write, which one whose completion is to be discarded does not hold back (log
entry 38, DESIGN CHOICE; section 1.5). -/
def Obligations.DescriptorReadDone : Prop :=
  (∀ (a : Access) (n : Fin 8) (b : List Byte) (s : State),
    awaited s.dev a isDescriptorRead → a.kind = .descriptorRead n → s.dev.slots[n].state = .validating →
    ∃ d, exec (.descriptorReadDone a.tag (.bytes b)) s =
        .next { s with board := landed s.board a true, dev := settle d } ∧
      (∀ r, descriptorFault s.dev.iface.bounds (descriptorOf b) = some r →
        d.slots[n].state = .rejected ∧ d.slots[n].reason = r ∧ d.slots[n].desc = s.dev.slots[n].desc) ∧
      shadowDue (dropAccess s.dev a.tag) d n False ∧
      (descriptorFault s.dev.iface.bounds (descriptorOf b) = none →
        d.slots[n].desc = descriptorOf b ∧
        (s.dev.following = true → d.slots[n].state = .draining ∧ d.slots[n].reason = .aborted) ∧
        (s.dev.following = false →
          d.slots[n].state = (if s.dev.leading = true ∧ ((descriptorOf b).windowId = 7 ∨
            ∃ w : Fin 4, (descriptorOf b).windowId = w.val ∧ s.dev.windows[w].phase = .quiet)
            then .running else .waiting)))) ∧
  (∀ (a : Access) (n : Fin 8) (b : List Byte) (s : State),
    awaited s.dev a isDescriptorRead → a.kind = .descriptorRead n → s.dev.slots[n].state = .draining →
    ∃ d, exec (.descriptorReadDone a.tag (.bytes b)) s =
        .next { s with board := landed s.board a true, dev := settle d } ∧
      (∀ r, descriptorFault s.dev.iface.bounds (descriptorOf b) = some r →
        d.slots[n].state = .rejected ∧ d.slots[n].reason = r ∧ d.slots[n].validating = false ∧
        shadowDue (dropAccess s.dev a.tag) d n False) ∧
      (descriptorFault s.dev.iface.bounds (descriptorOf b) = none →
        d.slots[n] = { s.dev.slots[n] with desc := descriptorOf b, validating := false } ∧
        (∀ c, circuitEntry d n c = ⟨.queued, 0⟩)) ∧
      (∀ m : Fin 8, m ≠ n → d.slots[m] = s.dev.slots[m]) ∧ d.probes = s.dev.probes)

/-- SHADOW_WRITE_DONE: the closing write closes the slot, the first showing of CLOSED or REJECTED raises CAMPAIGN_DONE, and a
write owed behind it announces a REJECTED no write has shown yet (sections 1.5, 1.6 and 10.4). -/
def Obligations.ShadowWriteDone : Prop :=
  ∀ (a : Access) (n : Fin 8) (closing announces : Bool) (s : State),
    awaited s.dev a isShadowWrite → a.kind = .channelWrite (.shadow n) closing announces →
    ∃ d, exec (.shadowWriteDone a.tag true) s =
        .next { s with board := Memory.write s.board a.addr a.data, dev := settle d } ∧
      d.slots[n].state = (if closing then .closed else s.dev.slots[n].state) ∧
      d.slots[n].verdicts = s.dev.slots[n].verdicts ∧ d.slots[n].generation = s.dev.slots[n].generation ∧
      d.regs.irqCause.getLsbD 0 = (s.dev.regs.irqCause.getLsbD 0 || closing || announces) ∧
      (∀ m : Fin 8, m ≠ n → d.slots[m] = s.dev.slots[m]) ∧ d.probes = s.dev.probes ∧ d.rounds = s.dev.rounds ∧
      (.shadow n ∈ s.dev.dma.owed → canAccess s.dev = true → closing = false → s.dev.slots[n].closing = none →
        inWindow s.dev.iface.bounds (boardAddr s.dev (0x620 + 0x100 * n.val)) 16 = true →
        .shadow n ∉ d.dma.owed ∧
        inFlight d (boardAddr s.dev (0x620 + 0x100 * n.val)) 16
          (.channelWrite (.shadow n) false (s.dev.slots[n].state == .rejected && s.dev.slots[n].announce)))

/-- NOT_RUN_WRITE_DONE: verdicts written and the NOT_RUN count rise by 1, and the next closing write follows: for reasons
ABORTED and PLAN_ERROR the NOT_RUN record of the next circuit without a verdict, in ascending index, and then, as for the
other reasons, the summary (sections 1.6 and 9.8). -/
def Obligations.NotRunWriteDone : Prop :=
  ∀ (a : Access) (n : Fin 8) (c : Nat) (s : State),
    awaited s.dev a isNotRunWrite → a.kind = .notRunWrite n c →
    ∃ d, exec (.notRunWriteDone a.tag true) s =
        .next { s with board := Memory.write s.board a.addr a.data, dev := settle d } ∧
      d.slots[n].verdicts = s.dev.slots[n].verdicts + 1 ∧
      d.slots[n].summary.codes[11] = s.dev.slots[n].summary.codes[11] + 1#32 ∧
      d.slots[n].summary.bins = s.dev.slots[n].summary.bins ∧ d.slots[n].state = s.dev.slots[n].state ∧
      (∀ e, (s.dev.slots[n].reason = .aborted ∨ s.dev.slots[n].reason = .planError) → c < e →
        e < s.dev.slots[n].desc.count → (circuitEntry s.dev n e).status ≠ .done →
        (∀ b, c < b → b < e → (circuitEntry s.dev n b).status = .done) →
        d.slots[n].closing = some (.notRun e) ∧
        (canAccess s.dev = true → inWindow s.dev.iface.bounds (s.dev.slots[n].desc.verdictBase + e * 64) 64 = true →
          writing d (s.dev.slots[n].desc.verdictBase + e * 64)
            (verdictBytes (notRunVerdict s.dev.slots[n].generation (circuitEntry s.dev n e).voids)) (.notRunWrite n e))) ∧
      (((s.dev.slots[n].reason ≠ .aborted ∧ s.dev.slots[n].reason ≠ .planError) ∨
          ∀ b, c < b → b < s.dev.slots[n].desc.count → (circuitEntry s.dev n b).status = .done) →
        d.slots[n].closing = some .summary ∧
        (canAccess s.dev = true → inWindow s.dev.iface.bounds (boardAddr s.dev (0x640 + 0x100 * n.val)) 128 = true →
          ∃ w ∈ d.dma.inFlight, w.kind = .summaryWrite n ∧ w.discarded = false ∧
            w.addr = boardAddr s.dev (0x640 + 0x100 * n.val) ∧ w.len = 128 ∧
            w.data = summaryBytes d.slots[n].summary)) ∧
      ∀ (g : Half) (voids : Nat) (v : Verdict), v = notRunVerdict g voids →
        v.circuitId = 0#32 ∧ v.generation = g ∧ v.code = 11 ∧ v.keyHop = 15 ∧ v.voids = voids ∧ v.margin = none ∧
        v.cause = none ∧ v.cross = none ∧ v.misroute = none ∧ v.leak = none ∧ v.listenFrom = none ∧
        v.roundsListened = 0 ∧ v.statuses = [] ∧ v.powers = []

/-- SUMMARY_WRITE_DONE wherever the part may access the board, RUNNING or STOPPED: the closing shadow write is due, issued with
state CLOSED when no shadow write is in flight and owed behind one that is; one whose completion is to be discarded does not
count (log entry 38, DESIGN CHOICE; section 1.6). -/
def Obligations.SummaryWriteDone : Prop :=
  ∀ (a : Access) (n : Fin 8) (s : State),
    awaited s.dev a isSummaryWrite → a.kind = .summaryWrite n → canAccess s.dev = true →
    inWindow s.dev.iface.bounds (boardAddr s.dev (0x620 + 0x100 * n.val)) 16 = true →
    ∃ d, exec (.summaryWriteDone a.tag true) s =
        .next { s with board := Memory.write s.board a.addr a.data, dev := settle d } ∧
      d.slots[n].closing = some .shadow ∧ d.slots[n].state = s.dev.slots[n].state ∧
      (live (dropAccess s.dev a.tag) (ofChannel (.shadow n)) = true → .shadow n ∈ d.dma.owed) ∧
      (live (dropAccess s.dev a.tag) (ofChannel (.shadow n)) = false →
        ∃ w ∈ d.dma.inFlight, w.addr = boardAddr s.dev (0x620 + 0x100 * n.val) ∧ w.data.length = 16 ∧
          w.data.head? = some 7#8 ∧ w.discarded = false ∧ ∃ b, w.kind = .channelWrite (.shadow n) true b)

/-- The completion of a coalesced write: the bytes land and a write owed meanwhile is issued once, with the values then
current, as an access of the start where the start in progress alone owes it (log entry 13, DEDUCED), a peer status write owed
before a restart in FOLLOW mode too (log entry 36, DESIGN CHOICE); a failed one faults the device with HEADER_FAULT and leaves
the board bytes as they were (log entry 31, DESIGN CHOICE; sections 1.5, 2.2, 3.3, 3.4, 6.4, 6.8, 8.5 and 10.1). -/
def Obligations.CoalescedWritesComplete : Prop :=
  (∀ (f : Nat → Bool → Instr) (sel : AccessKind → Bool) (ch : Channel) (a : Access) (s : State),
    (f, sel) ∈ coalescedWrites → awaited s.dev a sel → a.kind = .channelWrite ch false false →
    exec (f a.tag true) s = .next { s with
      board := Memory.write s.board a.addr a.data, dev := settle (reissue ch (dropAccess s.dev a.tag)) } ∧
    (s.dev.iface.state ≠ .faulted →
      ∃ d, exec (f a.tag false) s = .next { s with dev := settle d } ∧
        d.iface.state = .faulted ∧ d.iface.reason = .headerFault ∧ d.regs.run = false ∧
        d.regs.irqCause.getLsbD 4 = true ∧ ∀ x ∈ d.dma.inFlight, x.discarded = true)) ∧
  (∀ (ch : Channel) (d : Device), ch ∉ d.dma.owed → reissue ch d = d) ∧
  (∀ (ch : Channel) (d : Device), canAccess d = true → ch ∈ d.dma.owed →
    inWindow d.iface.bounds (channelExtent ch d).1 (channelExtent ch d).2.length = true →
    ch ∉ (reissue ch d).dma.owed ∧
    ∃ w, (reissue ch d).dma.inFlight = d.dma.inFlight ++ [w] ∧ w.addr = (channelExtent ch d).1 ∧
      w.data = (channelExtent ch d).2 ∧ w.ofStart = decide (ch ∈ d.dma.startOwed))

/-- A failed access: the device is FAULTED with the reason of the access, or the campaign alone is rejected or drained for
MEMORY_FAULT; a failed write leaves the board bytes as they were (log entry 31, DESIGN CHOICE). Entry to FAULTED and a drain
issue STOP for the contexts of the ARMED and LISTENING probes they void, and a slot whose state changes owes its shadow write,
which one whose completion is to be discarded does not hold back (log entry 38, DESIGN CHOICE; that the commands stand in
`launch.issued` until the step's end is log entry 7, DESIGN CHOICE; sections 1.2 to 1.6, 4.2, 4.4, 4.6 and 7.3). -/
def Obligations.FailedCompletions : Prop :=
  (∀ (f : Nat → Instr) (sel : AccessKind → Bool) (reason : FaultReason) (a : Access) (s : State),
    (f, sel, reason) ∈ deviceFailures → awaited s.dev a sel → s.dev.iface.state ≠ .faulted →
    ∃ d, exec (f a.tag) s = .next { s with dev := settle d } ∧ d.iface.state = .faulted ∧ d.iface.reason = reason ∧
      d.iface.start = none ∧ d.iface.scanTimer = none ∧ d.regs.run = false ∧ d.regs.irqCause.getLsbD 4 = true ∧
      (∀ x ∈ d.dma.inFlight, x.discarded = true) ∧ d.dma.owed = [] ∧ d.journal.requests = [] ∧
      (∀ w : Fin 4, d.walks[w] = none) ∧ d.slots = s.dev.slots ∧ d.windows = s.dev.windows ∧
      (∀ r p, d.probes.records[(r : Fin 16)] = some p → p.state = .evaluating) ∧
      stopsIssued s.dev d (sounding s.dev (fun _ => True))) ∧
  (∀ (a : Access) (n : Fin 8) (closing announces : Bool) (s : State), awaited s.dev a isShadowWrite →
    a.kind = .channelWrite (.shadow n) closing announces → s.dev.iface.state ≠ .faulted →
    ∃ d, exec (.shadowWriteDone a.tag false) s = .next { s with dev := settle d } ∧ d.iface.state = .faulted ∧
      d.iface.reason = (if closing then .closeFault else .slotWriteFault) ∧ d.slots = s.dev.slots ∧
      stopsIssued s.dev d (sounding s.dev (fun _ => True))) ∧
  (∀ (a : Access) (n : Fin 8) (s : State), awaited s.dev a isDescriptorRead → a.kind = .descriptorRead n →
    ∃ d, exec (.descriptorReadDone a.tag .failed) s = .next { s with dev := settle d } ∧
      d.slots[n].state = .rejected ∧ d.slots[n].reason = .memoryFault ∧ d.iface = s.dev.iface ∧
      shadowDue (dropAccess s.dev a.tag) d n False) ∧
  (∀ (a : Access) (n : Fin 8) (p : Fin 2) (c : Nat) (s : State),
    awaited s.dev a isCircuitFetch → a.kind = .circuitFetch n p c → s.dev.slots[n].state = .running →
    ∃ d, exec (.circuitFetchDone a.tag .failed) s = .next { s with dev := settle d } ∧
      d.slots[n].state = .draining ∧ d.slots[n].reason = .memoryFault ∧ d.sched[n].stage[p] = .empty ∧
      d.iface = s.dev.iface ∧ shadowDue (dropAccess s.dev a.tag) d n False ∧
      stopsIssued s.dev d (sounding s.dev (fun q => q.slot = n))) ∧
  (∀ (a : Access) (n : Fin 8) (c : Nat) (s : State),
    awaited s.dev a isNotRunWrite → a.kind = .notRunWrite n c → s.dev.slots[n].state = .draining →
    (s.dev.slots[n].reason = .aborted ∨ s.dev.slots[n].reason = .planError) →
    ∃ d, exec (.notRunWriteDone a.tag false) s = .next { s with dev := settle d } ∧
      d.slots[n].state = .draining ∧ d.slots[n].reason = .memoryFault ∧ d.slots[n].closing = some .summary ∧
      d.slots[n].verdicts = s.dev.slots[n].verdicts ∧ d.iface = s.dev.iface) ∧
  (∀ (a : Access) (w : Fin 4) (k : Walk) (s : State),
    awaited s.dev a isWalkRead → a.kind = .walkRead w → s.dev.walks[w] = some k →
    (s.dev.slots[k.area].state = .running ∨ s.dev.slots[k.area].state = .suspended) →
    ∃ d, exec (.walkReadDone a.tag .failed) s = .next { s with dev := settle d } ∧
      d.slots[k.area].state = .draining ∧ d.slots[k.area].reason = .memoryFault ∧ d.areas = s.dev.areas ∧
      d.iface = s.dev.iface ∧ endsWalk w none (drainSlot k.area .memoryFault (dropAccess s.dev a.tag)) d)

/-- An event that takes a campaign to DRAINING, and what replaces the reason of one already there: its probes are voided, with
STOP issued for the contexts of the ARMED and LISTENING ones, its ready stage is discarded, and the shadow write is owed at a
change of state or reason. That a write whose completion is to be discarded holds none back is log entry 38 (DESIGN CHOICE;
that the commands stand in `launch.issued` until the step's end is log entry 7, DESIGN CHOICE; sections 1.6, 4.2, 4.4 and
4.6). -/
def Obligations.DrainingEntry : Prop :=
  ∀ (n : Fin 8) (r : Reason) (d : Device),
    ((d.slots[n].state = .running ∨ d.slots[n].state = .waiting ∨ d.slots[n].state = .suspended) →
      (drainSlot n r d).slots[n].state = .draining ∧ (drainSlot n r d).slots[n].reason = r ∧
      (∀ m : Fin 8, m ≠ n → (drainSlot n r d).slots[m] = d.slots[m]) ∧
      (∀ i p, (drainSlot n r d).probes.records[(i : Fin 16)] = some p → p.slot = n → p.state = .evaluating) ∧
      (∀ i p, d.probes.records[(i : Fin 16)] = some p → p.slot ≠ n →
        (drainSlot n r d).probes.records[i] = some p) ∧
      (∀ q : Fin 2, (∀ c rec, d.sched[n].stage[q] = .fetched c rec → (drainSlot n r d).sched[n].stage[q] = .empty) ∧
        (∀ c, d.sched[n].stage[q] = .fetching c → (drainSlot n r d).sched[n].stage[q] = .fetching c)) ∧
      stopsIssued d (drainSlot n r d) (sounding d (fun q => q.slot = n)) ∧ shadowDue d (drainSlot n r d) n False) ∧
    (d.slots[n].state = .draining →
      (drainSlot n r d).slots[n].state = .draining ∧
      (drainSlot n r d).slots[n].reason =
        (if r = .memoryFault ∧ (d.slots[n].reason = .aborted ∨ d.slots[n].reason = .planError) then .memoryFault
         else d.slots[n].reason) ∧
      ((drainSlot n r d).slots[n].reason ≠ d.slots[n].reason → shadowDue d (drainSlot n r d) n False) ∧
      (drainSlot n r d).launch = d.launch ∧ (drainSlot n r d).probes = d.probes)

/-! ### Settings, journal, fetches and verdicts -/

/-- SETTINGS_READ_DONE: the contents are staged under the sequence the read was issued for; at a lead that waits for its first
settings, with no other read in flight or pending, the first ROUND_START is taken at once and applies them whatever HOLD says. A
pending read is issued, for the sequence last requested (sections 3.2 and 3.4). -/
def Obligations.SettingsReadDone : Prop :=
  ∀ (a : Access) (seq : Half) (b : List Byte) (s : State),
    awaited s.dev a isSettingsRead → a.kind = .settingsRead seq →
    (s.dev.rounds.awaitFirst = false →
      ∃ d, exec (.settingsReadDone a.tag (.bytes b)) s =
          .next { s with board := landed s.board a true, dev := settle d } ∧
        d.rounds.staged = some (seq, settingsOf b) ∧ d.rounds.readPending = false ∧
        d.rounds.inForce = s.dev.rounds.inForce ∧ d.rounds.number = s.dev.rounds.number ∧
        (∀ q, s.dev.rounds.readPending = true → s.dev.rounds.requested = some q → canAccess s.dev = true →
          inWindow s.dev.iface.bounds (boardAddr s.dev 0x100) 1024 = true →
          inFlight d (boardAddr s.dev 0x100) 1024 (.settingsRead q))) ∧
    (s.dev.leading = true → s.dev.rounds.awaitFirst = true → s.dev.rounds.inForce = none →
      s.dev.rounds.readPending = false → live (dropAccess s.dev a.tag) isSettingsRead = false →
      ∃ d, exec (.settingsReadDone a.tag (.bytes b)) s =
          .next { s with board := landed s.board a true, dev := settle d } ∧
        d.rounds.number = s.dev.rounds.number + 1#32 ∧ d.rounds.inForce = some (settingsOf b).derived ∧
        d.rounds.applied = some (seq, s.dev.rounds.number + 1#32) ∧ d.rounds.staged = none ∧
        d.rounds.awaitFirst = false ∧ d.rounds.nextAt = some (s.dev.now + derivePeriod (settingsOf b).period))

/-- JOURNAL_ENTRY_WRITE_DONE: the produced count rises by 1 and the entry's bytes land; an upward crossing of half raises
JOURNAL; a produced-count write is due, and due again with a request that then overflows. Around it, what the journal writer
does with an entry request: refused while it may not write, dropped where its key stands in the round's coalescing memory,
stamped and listed, written at its ring position when no entry write is in flight, or an overflow behind 16 requests; the keys
of the coalesced kinds; and the 32 bytes of an entry (a field its kind does not use is 0, log entry 22, DESIGN CHOICE; a write
whose completion is to be discarded is not one in flight, log entry 38, DESIGN CHOICE; sections 10.1 and 11.2). -/
def Obligations.JournalEntryWriteDone : Prop :=
  (∀ (a : Access) (r : Ring) (s : State), awaited s.dev a isJournalWrite → s.dev.journal.ring = some r →
    ∃ d, exec (.journalEntryWriteDone a.tag true) s =
        .next { s with board := Memory.write s.board a.addr a.data, dev := settle d } ∧
      d.journal.produced = s.dev.journal.produced + 1#32 ∧ d.journal.consumed = s.dev.journal.consumed ∧
      (2 * s.dev.journal.fill < r.size → r.size ≤ 2 * (d.journal.produced - d.journal.consumed).toNat →
        d.regs.irqCause.getLsbD 1 = true) ∧
      writeFollows (dropAccess s.dev a.tag) d .produced (boardAddr s.dev 0x1C) (producedBytes d.journal) ∧
      producedBytes d.journal = putWord d.journal.produced ++ putWord d.journal.overflow) ∧
  (∀ (e : JournalEntry) (key : Option CoalesceKey) (k : CoalesceKey) (d : Device),
    (d.journal.usable = false ∨ d.iface.state = .faulted → journalRequest e key d = d) ∧
    (k ∈ d.journal.memory → journalRequest e (some k) d = d) ∧
    (k ∉ d.journal.memory → d.journal.usable = true → d.iface.state ≠ .faulted → journalRequest e (some k) d =
      journalRequest e none { d with journal := { d.journal with memory := d.journal.memory ++ [k] } })) ∧
  (∀ (e : JournalEntry) (d : Device), d.journal.usable = true → d.iface.state ≠ .faulted →
    (16 ≤ d.journal.requests.length → ∀ y, y = journalRequest e none d →
      y.journal = { d.journal with overflow := d.journal.overflow + 1#32, notified := true } ∧
      (d.journal.notified = false → y.regs.irqCause.getLsbD 1 = true) ∧
      (canAccess d = true → live y (ofChannel .produced) = true) ∧
      writeShown d y .produced (boardAddr d 0x1C) (producedBytes y.journal)) ∧
    (d.journal.requests.length < 16 → live d isJournalWrite = true → journalRequest e none d = { d with
      journal := { d.journal with requests := d.journal.requests ++ [{ e with stamp := d.rounds.number }] } }) ∧
    (∀ r : Ring, d.journal.requests = [] → d.journal.ring = some r → live d isJournalWrite = false → canAccess d = true →
      d.journal.fill < r.size → ∀ addr, addr = r.base + d.journal.produced.toNat % r.size * 32 →
      inWindow d.iface.bounds addr 32 = true →
      (journalRequest e none d).journal = d.journal ∧
      ∃ w, (journalRequest e none d).dma.inFlight = d.dma.inFlight ++ [w] ∧ w.kind = .journalWrite ∧ w.addr = addr ∧
        w.discarded = false ∧ w.data = journalBytes d.journal.produced { e with stamp := d.rounds.number })) ∧
  (∀ (x : Sighting) (p : Fin 16) (b : SightingBody) (source : Fin 16) (kind : Nat) (byte : Byte) (fault : FrameFault)
      (reason : Nat) (d : Device),
    (∃ e, takeStray x d = journalRequest e (some (.stray x.tone.val)) (countHeader .stray d) ∧ e.kind = .stray ∧
      e.node.toNat = ((x.source.map (·.val)).getD 255) ∧ e.tone = x.tone.val ∧ e.loc = x.loc ∧ e.round = x.round ∧
      e.level = x.level.getD 0 ∧ e.code = (if d.tones[x.tone] = .stuck then 3 else 0)) ∧
    (.creditViolation (BitVec.ofNat 8 p.val) ∈ d.journal.memory → (takeSighting p b d).journal = d.journal) ∧
    (∃ e, takeMalformed kind byte fault d = journalRequest e (some (.malformed byte)) (countMalformed kind byte fault d) ∧
      e.kind = .malformed ∧ e.node = byte ∧ e.second = kind ∧ e.code = (match fault with
        | .badKind => 1 | .badSource => 2 | .badField => 3 | .futureRound => 4)) ∧
    ∃ e, journalMark source reason d = journalRequest e (some (.markIgnored (BitVec.ofNat 8 source.val) reason)) d ∧
      e.kind = .markIgnored ∧ e.node.toNat = source.val ∧ e.code = reason) ∧
  ([JournalKind.stray, .misroute, .cross, .leak, .creditViolation, .malformed, .launchFault, .launchStuck, .stuckCleared,
    .planError, .markIgnored, .leadLost, .peerSilent].map (·.code) = List.range' 1 13) ∧
  (∀ (sequence : Word) (e : JournalEntry) (b : List Byte), b = journalBytes sequence e →
    b.length = 32 ∧ word b 0 = sequence ∧ word b 4 = e.stamp ∧ u8 b 8 = e.kind.code ∧ byteAt b 9 = e.node ∧
    (e.slot < 256 → u8 b 0x0A = e.slot) ∧ (e.tone < 256 → u8 b 0x0B = e.tone) ∧ half b 0x0C = e.generation ∧
    (e.circuit < 65536 → u16 b 0x0E = e.circuit) ∧ (e.second < 65536 → u16 b 0x10 = e.second) ∧
    u8 b 0x12 = e.loc.node.val ∧ u8 b 0x13 = e.loc.port.val ∧ u8 b 0x14 = e.loc.slot.val ∧
    (e.code < 256 → u8 b 0x15 = e.code) ∧ (e.level < 65536 → u16 b 0x16 = e.level) ∧ word b 0x18 = e.round ∧
    word b 0x1C = 0#32)

/-- CONSUMED_READ_DONE: the value read is cached, and a pending consumed read is issued while RUNNING (section 10.1). -/
def Obligations.ConsumedReadDone : Prop :=
  ∀ (a : Access) (b : List Byte) (s : State), awaited s.dev a isConsumedRead →
    ∃ d, exec (.consumedReadDone a.tag (.bytes b)) s =
        .next { s with board := landed s.board a true, dev := settle d } ∧
      d.journal.consumed = word b 0 ∧ d.journal.produced = s.dev.journal.produced ∧ d.journal.readPending = false ∧
      (s.dev.journal.readPending = true → s.dev.running = true →
        inWindow s.dev.iface.bounds (boardAddr s.dev 0x18) 4 = true → inFlight d (boardAddr s.dev 0x18) 4 .consumedRead) ∧
      ((s.dev.journal.readPending = false ∨ s.dev.running = false) →
        live d isConsumedRead = live (dropAccess s.dev a.tag) isConsumedRead)

/-- The journal writer writes no entry while its fill is at or above the ring's size. A write whose completion is
to be discarded is not one in flight: log entry 38, DESIGN CHOICE (section 10.1). -/
def Obligations.FullRingWritesNothing : Prop :=
  ∀ (d : Device) (r : Ring), d.journal.ring = some r → r.size ≤ d.journal.fill → canAccess d = true →
    live d isJournalWrite = false →
    live (serveJournal d) isJournalWrite = false ∧ (serveJournal d).journal.requests = [] ∧
    (serveJournal d).journal.overflow = d.journal.overflow + BitVec.ofNat 32 d.journal.requests.length

/-- CIRCUIT_FETCH_DONE: the record enters the ready stage, or the circuit is IN_FLIGHT and its PLAN_ERROR verdict record is
written where the part may access the board, or a draining slot discards it (sections 4.2 and 9.8). -/
def Obligations.CircuitFetchDone : Prop :=
  ∀ (a : Access) (n : Fin 8) (p : Fin 2) (c : Nat) (b : List Byte) (s : State),
    awaited s.dev a isCircuitFetch → a.kind = .circuitFetch n p c →
    ∃ d, exec (.circuitFetchDone a.tag (.bytes b)) s =
        .next { s with board := landed s.board a true, dev := settle d } ∧
      (s.dev.slots[n].state = .draining → d.sched[n].stage[p] = .empty ∧ circuitEntry d n c = circuitEntry s.dev n c) ∧
      (s.dev.slots[n].state ≠ .draining → ∀ rec,
        circuit? s.dev.slots[n].desc.reach s.dev.slots[n].desc.nmax b = some rec →
        d.sched[n].stage[p] = .fetched c rec) ∧
      (s.dev.slots[n].state ≠ .draining →
        circuit? s.dev.slots[n].desc.reach s.dev.slots[n].desc.nmax b = none →
        d.sched[n].stage[p] = .empty ∧ (circuitEntry d n c).status = .inFlight ∧
        (canAccess s.dev = true → inWindow s.dev.iface.bounds (s.dev.slots[n].desc.verdictBase + c * 64) 64 = true →
          ∃ w ∈ d.dma.inFlight, w.kind = .verdictWrite n s.dev.slots[n].generation c none 0 none ∧
            w.addr = s.dev.slots[n].desc.verdictBase + c * 64 ∧ w.discarded = false ∧ w.data.length = 64 ∧
            word w.data 0 = word b 0 ∧ half w.data 4 = s.dev.slots[n].generation ∧ u8 w.data 6 = 0 ∧
            half w.data 8 = 1#16 ∧ s16 w.data 0x0C = -32768)) ∧
      d.slots = s.dev.slots ∧ d.probes = s.dev.probes

/-- VERDICT_WRITE_DONE for the slot's current generation, of a probe's verdict and of a circuit that no probe judged (the
PLAN_ERROR record of sections 4.2 and 9.8): the circuit is DONE, the probe's record free, the verdict counted by its code and its
bin; a failed write counts nothing, frees the record all the same and drains the slot, or makes the reason of one already DRAINING
MEMORY_FAULT where R22 lets it, and leaves the board bytes as they were (log entry 31, DESIGN CHOICE). The last verdict drains the
slot for COMPLETE; a drain voids, stops and owes its shadow write as every drain does, which one whose completion is to be
discarded does not hold back (log entry 38, DESIGN CHOICE; that the commands stand in `launch.issued` until the step's end is log
entry 7, DESIGN CHOICE; sections 1.6, 4.2, 4.6 and 9.8). -/
def Obligations.VerdictWriteDone : Prop :=
  (∀ (a : Access) (n : Fin 8) (g : Half) (c : Nat) (r : Fin 16) (code : Fin 12) (m : Option Int) (s : State),
    awaited s.dev a isVerdictWrite → a.kind = .verdictWrite n g c (some r) code m →
    (s.dev.slots[n].generation = g →
      ∃ d, exec (.verdictWriteDone a.tag true) s =
          .next { s with board := Memory.write s.board a.addr a.data, dev := settle d } ∧
        d.probes.records[r] = none ∧ r ∉ d.probes.order ∧ d.iface = s.dev.iface ∧
        verdictCounted s.dev d a n c (some r) code m) ∧
    ∃ d, exec (.verdictWriteDone a.tag false) s = .next { s with dev := settle d } ∧
      d.probes.records[r] = none ∧ r ∉ d.probes.order ∧ d.iface = s.dev.iface ∧
      verdictLost s.dev d a n c (some r)) ∧
  (∀ (a : Access) (n : Fin 8) (g : Half) (c : Nat) (code : Fin 12) (m : Option Int) (s : State),
    awaited s.dev a isVerdictWrite → a.kind = .verdictWrite n g c none code m →
    (s.dev.slots[n].generation = g →
      ∃ d, exec (.verdictWriteDone a.tag true) s =
          .next { s with board := Memory.write s.board a.addr a.data, dev := settle d } ∧ d.iface = s.dev.iface ∧
        verdictCounted s.dev d a n c none code m) ∧
    ∃ d, exec (.verdictWriteDone a.tag false) s = .next { s with dev := settle d } ∧ d.iface = s.dev.iface ∧
      verdictLost s.dev d a n c none)

/-! ### Launch bus (4.4) and probes (4.5, 4.6) -/

/-- COMMAND_SENT: the next waiting command begins, and a sent LAUNCH or STOP whose context still awaits its reply starts that
context's 5 ms timer. One that serves no context any more, a reply having ended it, starts none: log entry 39, DESIGN CHOICE
(section 4.4). -/
def Obligations.CommandSent : Prop :=
  ∀ s : State,
    (s.dev.launch.sending = none → exec .commandSent s = .next s) ∧
    ∀ c, s.dev.launch.sending = some c →
      ∃ d, exec .commandSent s = .next { s with dev := d } ∧ d = { s.dev with launch := d.launch } ∧
        d.launch.sending = s.dev.launch.waiting.head? ∧ d.launch.waiting = s.dev.launch.waiting.tail ∧
        d.launch.stuck = s.dev.launch.stuck ∧
        ∀ x : Fin 8,
          (awaitsReply s.dev x c = true →
            d.launch.contexts[x] = { s.dev.launch.contexts[x] with timer := some (s.dev.now + 5) }) ∧
          (awaitsReply s.dev x c = false → d.launch.contexts[x] = s.dev.launch.contexts[x])

/-- ACK_ON: an owned ARMING context is ON and its probe ARMED, one without owner is stopped, any other reply changes nothing.
The reply ends the context's LAUNCH, also one not yet sent (log entry 39, DESIGN CHOICE; that the commands stand in
`launch.issued` until the step's end is log entry 7, DESIGN CHOICE; section 4.4). -/
def Obligations.AckOn : Prop :=
  ∀ (point : Byte) (s : State),
    (contextOf s.dev point = none → exec (.ackOn point) s = .next s) ∧
    ∀ x, contextOf s.dev point = some x →
      (∀ r p, s.dev.launch.contexts[x].state = .arming → s.dev.launch.contexts[x].owner = some r →
        s.dev.probes.records[r] = some p →
        ∃ d, exec (.ackOn point) s = .next { s with dev := settle d } ∧
          d.launch.contexts[x] = { s.dev.launch.contexts[x] with state := .on, timer := none } ∧
          d.probes.records[r] = some { p with state := .armed } ∧ d.tones = s.dev.tones ∧ d.slots = s.dev.slots ∧
          (∀ y : Fin 8, y ≠ x → d.launch.contexts[y] = s.dev.launch.contexts[y]) ∧ commandEnded s.dev d x ∧
          (∀ q : Fin 16, q ≠ r → d.probes.records[q] = s.dev.probes.records[q])) ∧
      (s.dev.launch.contexts[x].state = .arming → s.dev.launch.contexts[x].owner = none →
        ∃ y d, exec (.ackOn point) s = .next { s with dev := settle d } ∧ commandEnded s.dev y x ∧
          y.launch.contexts = s.dev.launch.contexts ∧ stopIssued y d x point ∧
          d.probes = s.dev.probes ∧ d.tones = s.dev.tones) ∧
      (s.dev.launch.contexts[x].state ≠ .arming → exec (.ackOn point) s = .next { s with dev := settle s.dev })

/-- ACK_OFF and NACK of a STOPPING context confirm its stop and end its STOP, also one not yet sent (log entry 39, DESIGN
CHOICE); for a point no context names they clear its stuck entry or are ignored; ACK_OFF in ARMING or ON and NACK in ON are
ignored. That the arbiter then runs, in the same step, is log entry 43, DESIGN CHOICE, where a GRACE probe keeps owning the
context (sections 4.3 to 4.5). -/
def Obligations.StopReplies : Prop :=
  (∀ (point : Byte) (x : Fin 8) (s : State), contextOf s.dev point = some x →
    ((s.dev.launch.contexts[x].state = .arming ∨ s.dev.launch.contexts[x].state = .on) →
      exec (.ackOff point) s = .next { s with dev := settle s.dev }) ∧
    (s.dev.launch.contexts[x].state = .on → exec (.nack point) s = .next { s with dev := settle s.dev })) ∧
  ∀ (f : Byte → Instr) (point : Byte) (s : State), f = .ackOff ∨ f = .nack →
    (∀ x, contextOf s.dev point = some x → s.dev.launch.contexts[x].state = .stopping →
      ∃ d, exec (f point) s = .next { s with dev := settle d } ∧
        d.launch.contexts[x] = { s.dev.launch.contexts[x] with state := .idle, timer := none } ∧
        (∀ q, s.dev.tones[s.dev.launch.contexts[x].tone] = .quarantined q →
          d.tones[s.dev.launch.contexts[x].tone] = .quarantined { q with stopConfirmed := true }) ∧
        (∀ t : Fin 48, t ≠ s.dev.launch.contexts[x].tone → d.tones[t] = s.dev.tones[t]) ∧ commandEnded s.dev d x ∧
        d.probes = s.dev.probes ∧ d.slots = s.dev.slots ∧ d.launch.stuck = s.dev.launch.stuck) ∧
    (contextOf s.dev point = none → isStuck s.dev point = false → exec (f point) s = .next s) ∧
    (∀ e, contextOf s.dev point = none → s.dev.launch.stuck.find? (·.point == point) = some e →
      ∃ d, exec (f point) s = .next { s with dev := settle d } ∧
        d.launch.stuck = s.dev.launch.stuck.eraseP (·.point == point) ∧
        d.tones[e.tone] = .quarantined ⟨s.dev.rounds.number, none, .none, none, true⟩ ∧
        (∀ t : Fin 48, t ≠ e.tone → d.tones[t] = s.dev.tones[t]) ∧ d.launch.contexts = s.dev.launch.contexts ∧
        d.probes = s.dev.probes ∧ d.slots = s.dev.slots)

/-- A launch fault by NACK, by an ACK_ON timeout or by the modulator's FAULT: the probe leaves its context, its tone is
quarantined with holder ENDED, and it is evaluated with the finding's cause, its verdict written; a NACK ends the context's
LAUNCH, also one not yet sent (log entry 39, DESIGN CHOICE); a timeout and a FAULT issue STOP; a FAULT for a context that is not
ON, or for a point no context names, is ignored (that the commands stand in `launch.issued` until the step's end is log entry 7,
DESIGN CHOICE; sections 4.4 to 4.6 and 9.8). -/
def Obligations.LaunchFaults : Prop :=
  (∀ (point : Byte) (s : State),
    (contextOf s.dev point = none → exec (.modulatorFault point) s = .next s) ∧
    (∀ x, contextOf s.dev point = some x → s.dev.launch.contexts[x].state ≠ .on →
      exec (.modulatorFault point) s = .next { s with dev := settle s.dev })) ∧
  ∀ (c : Instr) (cause : LaunchCause) (x : Fin 8) (r : Fin 16) (p : Probe) (s : State),
    faultingReply s.dev c x cause → s.dev.launch.contexts[x].owner = some r → s.dev.probes.records[r] = some p →
    ∃ d, exec c s = .next { s with dev := settle d } ∧
      d.launch.contexts[p.ctx].owner ≠ some r ∧ d.launch.contexts[x].timer = none ∧
      d.launch.contexts[x].state = (if cause = .nack then .idle else .stopping) ∧
      d.tones[p.tone] =
        .quarantined ⟨s.dev.rounds.number, some r, .ended, p.lastListen, decide (cause = .nack)⟩ ∧
      evaluated s.dev d r { p with
        launchFault := some cause
        accums := if cause = .fault then p.accums.map (fun _ => Accumulator.empty) else p.accums } ∧
      (cause = .nack → commandEnded s.dev d x) ∧
      (cause ≠ .nack → d.launch.sending = s.dev.launch.sending ∧ d.launch.waiting = s.dev.launch.waiting ∧
        d.launch.issued = insertCommand (.stop s.dev.launch.contexts[x].point (some x)) s.dev.launch.issued) ∧
      (∀ q : Fin 16, q ≠ r → d.probes.records[q] = s.dev.probes.records[q]) ∧
      d.slots = s.dev.slots ∧ d.rounds = s.dev.rounds

/-- REPLY_TIMER_EXPIRY: without a running timer no effect; an ARMING context is stopped; a STOPPING one is IDLE with its point
and tone on the stuck list, which raises LAUNCH_STUCK; the clock stands at the timer's time or later, and an expiry acts only
while the timer runs (log entry 1, DESIGN CHOICE; that the commands stand in `launch.issued` until the step's end is log entry
7, DESIGN CHOICE; section 4.4). -/
def Obligations.ReplyTimerExpiry : Prop :=
  ∀ (x : Fin 8) (s : State),
    (s.dev.launch.contexts[x].timer = none → exec (.replyTimerExpiry x) s = .next s) ∧
    ∀ t, s.dev.launch.contexts[x].timer = some t →
      ∃ d, exec (.replyTimerExpiry x) s = .next { s with dev := settle d } ∧ d.now = max s.dev.now t ∧
        (s.dev.launch.contexts[x].state = .arming → s.dev.launch.contexts[x].owner = none →
          stopIssued s.dev d x s.dev.launch.contexts[x].point ∧ d.probes = s.dev.probes ∧ d.tones = s.dev.tones) ∧
        (s.dev.launch.contexts[x].state = .stopping →
          d.launch.contexts[x] = { s.dev.launch.contexts[x] with state := .idle, timer := none } ∧
          d.launch.stuck =
            s.dev.launch.stuck ++ [⟨s.dev.launch.contexts[x].point, s.dev.launch.contexts[x].tone⟩] ∧
          d.tones[s.dev.launch.contexts[x].tone] = .stuck ∧ d.regs.irqCause.getLsbD 2 = true ∧
          d.slots = s.dev.slots)

/-- A probe at a lead ROUND_START, the round number being the new one. Around it, entry to EVALUATING whatever the reason: the
context's owner is released and the verdict record write issued with the verdict of the record as it stands, or the record
freed where the verdict is withheld; and early completion, from LISTENING with STOP issued and the tone released, from GRACE
with the tone's holder ENDED (that the commands stand in `launch.issued` until the step's end is log entry 7, DESIGN CHOICE;
sections 4.4 to 4.6, 9.2 and 9.8). -/
def Obligations.ProbeAtRoundStart : Prop :=
  (∀ (d : Device) (r : Fin 16) (p : Probe), d.probes.records[r] = some p →
    (p.state = .launching → (moveProbe d r).probes.records[r] = some p) ∧
    (p.state = .armed → (moveProbe d r).probes.records[r] = some { p with
      state := .listening, listenFrom := some d.rounds.number, lastListen := some d.rounds.number, roundsListened := 1 }) ∧
    (p.state = .listening → p.roundsListened < p.record.nmaxEff → (moveProbe d r).probes.records[r] =
      some { p with roundsListened := p.roundsListened + 1, lastListen := some d.rounds.number }) ∧
    (p.state = .listening → p.record.nmaxEff ≤ p.roundsListened →
      (moveProbe d r).probes.records[r] = some { p with state := .grace } ∧
      (moveProbe d r).tones[p.tone] = .quarantined ⟨d.rounds.number, some r, .grace, p.lastListen, false⟩) ∧
    (p.state = .grace → evaluated d (moveProbe d r) r p ∧ (moveProbe d r).launch.contexts[p.ctx].owner ≠ some r ∧
      ∀ z, d.tones[p.tone] = .quarantined z → z.holder = some r → z.status = .grace →
        (moveProbe d r).tones[p.tone] = .quarantined { z with status := .ended }) ∧
    ∀ q : Fin 16, q ≠ r → (moveProbe d r).probes.records[q] = d.probes.records[q]) ∧
  (∀ (d : Device) (r : Fin 16) (p : Probe), evaluated d (evaluateRecord r p d) r p ∧
    (evaluateRecord r p d).launch.contexts[p.ctx].owner ≠ some r ∧ (evaluateRecord r p d).launch.issued = d.launch.issued ∧
    (evaluateRecord r p d).tones = d.tones ∧ (evaluateRecord r p d).slots = d.slots ∧
    (verdictWithheld p.slot d = true → (evaluateRecord r p d).dma = d.dma)) ∧
  (∀ d : Device, stopsIssued d (moveProbes d) (fun c => ∃ (r : Fin 16) (p : Probe), d.probes.records[r] = some p ∧
    p.state = .listening ∧ p.record.nmaxEff ≤ p.roundsListened ∧ p.ctx = c)) ∧
  (∀ (d : Device) (r : Fin 16) (p : Probe), evaluated d (completeEarly r p d) r p ∧
    (completeEarly r p d).launch.contexts[p.ctx].owner ≠ some r ∧
    (p.state = .listening → stopsIssued d (completeEarly r p d) (fun c => c = p.ctx) ∧
      (completeEarly r p d).tones[p.tone] = .quarantined ⟨d.rounds.number, some r, .ended, p.lastListen, false⟩) ∧
    (p.state = .grace → (completeEarly r p d).launch.issued = d.launch.issued ∧
      ∀ z, d.tones[p.tone] = .quarantined z → z.holder = some r → z.status = .grace →
        (completeEarly r p d).tones[p.tone] = .quarantined { z with status := .ended }))

/-! ### Rounds, settings and looks (chapters 3 and 5) -/

/-- ROUND_START at a RUNNING lead: the number rises by 1, the round is scheduled by the period and guard now in force, the
windows count down and the campaigns of those that enter QUIET run, due tones come FREE, every probe moves, the credit steps
and the silence counts are taken, the last round's plan is dropped, the journal's coalescing memory is renewed and the mark is
the only frame queued. The probes whose GRACE ends have their verdicts written, and the contexts of those that enter GRACE are
stopped; a shadow write is due for each campaign that runs again, a status write for each window and each peer whose status
changes (log entry 30, DEDUCED), which one whose completion is to be discarded does not hold back (log entry 38, DESIGN
CHOICE). The clock stands at the timer's time or later (log entry 1, DESIGN CHOICE), and silence is counted by the configured
flags of the latest application (log entry 35, DESIGN CHOICE). The credit steps one by one: returns, reserves, lending and
withdrawal (that the commands stand in `launch.issued` until the step's end is log entry 7, DESIGN CHOICE; sections 2.2, 2.3,
3.2, 4.4 to 4.6, 6.3 to 6.5, 6.7, 9.8 and 10.1). -/
def Obligations.RoundStart : Prop :=
  (∀ (n : Round) (queued limit : Nat) (kept bs : List CreditBlock) (b : CreditBlock),
    (b.isDue n = true → queued ≤ limit + (kept.map (·.amount)).sum + (bs.map (·.amount)).sum →
      (returnBlocks n queued limit kept (b :: bs)).1 = (returnBlocks n queued limit kept bs).1 ∧
      (returnBlocks n queued limit kept (b :: bs)).2 = (returnBlocks n queued limit kept bs).2 + b.amount) ∧
    ((b.isDue n = false ∨ limit + (kept.map (·.amount)).sum + (bs.map (·.amount)).sum < queued) →
      returnBlocks n queued limit kept (b :: bs) = returnBlocks n queued limit (kept ++ [b]) bs)) ∧
  (∀ (n : Round) (l : LeadLink) (p : Fin 16),
    (l.peers[p].hasBacklog = true → 4 ≤ l.pool → l.peers[p].lent < 64 →
      lendPeer n l p = { l with
        pool := l.pool - 4, pointer := p, peers := l.peers.set p { l.peers[p] with lent := l.peers[p].lent + 4 } }) ∧
    (l.peers[p].hasBacklog = true → (l.pool < 4 ∨ 64 ≤ l.peers[p].lent) → lendPeer n l p = l) ∧
    (l.peers[p].hasBacklog = false → 0 < l.peers[p].lent → lendPeer n l p = { l with peers := l.peers.set p { l.peers[p] with
      lent := 0, blocks := l.peers[p].blocks ++ [⟨l.peers[p].lent, n + 2#32⟩] } }) ∧
    (l.peers[p].reserve < l.peers[p].target → raiseReserve l p = { l with peers := l.peers.set p { l.peers[p] with
      reserve := min l.peers[p].target (128 - (l.reserves - l.peers[p].reserve)) } })) ∧
  (∀ (x : Peer) (queued : Nat), x.target < x.reserve → ∃ k, x.lowerReserve queued = { x with reserve := max x.target (4 * k) } ∧
    queued ≤ 4 * k + x.lent + x.withdrawn ∧ ∀ j, queued ≤ 4 * j + x.lent + x.withdrawn → k ≤ j) ∧
  (∀ x : Peer, x.configured = true →
    x.tickSilence.silence = min (x.silence + 1) 8 ∧
    (7 ≤ x.silence → (x.state = .unknown ∨ x.state = .present) → x.tickSilence.state = .silent) ∧
    (x.silence < 7 → x.tickSilence.state = x.state)) ∧
  ∀ s : State,
    (∀ t, s.dev.leading = true → s.dev.rounds.nextAt = some t →
      ∃ d, exec .roundStart s = .next { s with dev := settle d } ∧ d.now = max s.dev.now t ∧
        d.rounds.number = s.dev.rounds.number + 1#32 ∧
        d.rounds.watchAt = some (d.now + d.rounds.guardTime / 2) ∧ d.rounds.nextAt = some (d.now + d.rounds.period) ∧
        d.rounds.phase = .scheduled (d.now + d.rounds.guardTime) (d.now + d.rounds.period) ∧
        (∀ w : Fin 4, d.windows[w] = s.dev.windows[w].atRound) ∧
        d.taps.plan = [] ∧ d.taps.watched = [] ∧ d.taps.localWatches = [] ∧ d.taps.detectors = s.dev.taps.detectors ∧
        (∃ grants, d.lead.transmit = [.mark d.rounds.number d.rounds.period d.rounds.guardTime grants] ∧
          ∀ p : Fin 16, grants[p] = grantOf d p) ∧
        d.iface = s.dev.iface ∧ d.areas = s.dev.areas ∧ d.walks = s.dev.walks ∧ d.journal.memory = [] ∧
        (∀ n : Fin 8, d.slots[n].state = (if (s.dev.slots[n].state = .waiting ∨ s.dev.slots[n].state = .suspended) ∧
            (∃ w : Fin 4, s.dev.slots[n].desc.windowId = w.val ∧ s.dev.windows[w].phase = .settling ∧
              s.dev.windows[w].settle = 0) then .running else s.dev.slots[n].state)) ∧
        (∀ x : Fin 48, (∀ (r : Fin 16) (p : Probe), s.dev.probes.records[r] = some p → p.tone ≠ x) →
          d.tones[x] = (match s.dev.tones[x] with
            | .quarantined q => if q.stopConfirmed = true ∧ 2 ≤ (d.rounds.number - q.release).toNat ∧
                (d.rounds.number - q.release).toNat < 2 ^ 31 then .free else .quarantined q
            | y => y)) ∧
        (∀ (r : Fin 16) (p : Probe), s.dev.probes.records[r] = some p →
          (p.state = .launching ∨ p.state = .evaluating → d.probes.records[r] = some p) ∧
          (p.state = .armed → d.probes.records[r] = some { p with
            state := .listening, listenFrom := some d.rounds.number, lastListen := some d.rounds.number, roundsListened := 1 }) ∧
          (p.state = .listening → p.roundsListened < p.record.nmaxEff → d.probes.records[r] =
            some { p with roundsListened := p.roundsListened + 1, lastListen := some d.rounds.number }) ∧
          (p.state = .listening → p.record.nmaxEff ≤ p.roundsListened →
            d.probes.records[r] = some { p with state := .grace } ∧
            (s.dev.launch.contexts[p.ctx].state = .on → d.launch.contexts[p.ctx].state = .stopping)) ∧
          (p.state = .grace → evaluated s.dev d r p)) ∧
        stopsIssued s.dev d (fun c => ∃ (r : Fin 16) (p : Probe), s.dev.probes.records[r] = some p ∧ p.state = .listening ∧
          p.record.nmaxEff ≤ p.roundsListened ∧ p.ctx = c) ∧
        (∀ w : Fin 4, d.windows[w] ≠ s.dev.windows[w] → windowDue s.dev d w) ∧
        (∀ n : Fin 8, d.slots[n].state ≠ s.dev.slots[n].state → shadowDue s.dev d n False) ∧
        (∀ p : Fin 16, peerStatusBytes d.lead.peers[p] ≠ peerStatusBytes s.dev.lead.peers[p] →
          peerDue s.dev d p (.peer p ∈ d.dma.owed)) ∧
        (∀ r : Fin 16, s.dev.probes.records[r] = none → d.probes.records[r] = none) ∧
        (s.dev.rounds.staged = none →
          d.lead.pool = (creditSteps s.dev.ownNode (queueCounts s.dev) d.rounds.number s.dev.lead).pool ∧
          d.lead.pointer = (creditSteps s.dev.ownNode (queueCounts s.dev) d.rounds.number s.dev.lead).pointer ∧
          ∀ p : Fin 16, d.lead.peers[p] =
            (creditSteps s.dev.ownNode (queueCounts s.dev) d.rounds.number s.dev.lead).peers[p].tickSilence)) ∧
    (s.dev.leading = false ∨ s.dev.rounds.nextAt = none → exec .roundStart s = .next s)

/-- The application of a staged copy at a round boundary: period, guard, tap table, configured nodes and their targets, with the
acknowledgment write owed, or nothing while HOLD is set with settings in force or a settings read is in flight or pending. An
acknowledgment write whose completion is to be discarded is not the one in flight: log entry 38, DESIGN CHOICE. At a lead a
status write is due for each peer whose status changes (log entry 30, DEDUCED); a node that ceases to be configured keeps its
hello state and its silence count (log entry 40, DESIGN CHOICE; sections 3.1, 3.4, 5.1, 6.3 and 6.4). -/
def Obligations.StagedSettingsApply : Prop :=
  ∀ (d : Device) (seq : Half) (x : Settings), d.rounds.staged = some (seq, x) →
    (settled d = true → (d.rounds.hold = false ∨ d.rounds.inForce = none) →
      (applyStaged d).rounds.staged = none ∧ (applyStaged d).rounds.applied = some (seq, d.rounds.number) ∧
      (∃ y, (applyStaged d).rounds.inForce = some y ∧ y.period = derivePeriod x.period ∧
        y.guardTime = deriveGuard (derivePeriod x.period) x.guardTime) ∧
      (∃ table, (applyStaged d).taps.table = some table ∧
        ∀ t : Fin 32, table[t].enabled = x.taps[t].enabled ∧ table[t].loss = min x.taps[t].loss 250 ∧
          table[t].first.val = min x.taps[t].first 95 ∧ table[t].last.val = min x.taps[t].last 95) ∧
      (∀ p : Fin 16, (applyStaged d).lead.peers[p].configured = (x.peers[p].configured && p != d.ownNode)) ∧
      (∀ p : Fin 16, (applyStaged d).lead.peers[p].target =
        min (if x.peers[p].configured = true ∧ p ≠ d.ownNode then codeCredits x.peers[p].code else 0)
          (128 - (((List.finRange 16).filter (· < p)).map (fun q => (applyStaged d).lead.peers[q].target)).sum)) ∧
      (∀ p : Fin 16, (applyStaged d).lead.peers[p].reserve = d.lead.peers[p].reserve ∧
        (d.lead.peers[p].configured = false → x.peers[p].configured = true → p ≠ d.ownNode →
          (applyStaged d).lead.peers[p].state = .unknown ∧ (applyStaged d).lead.peers[p].silence = 0) ∧
        (d.lead.peers[p].configured = true → (x.peers[p].configured = false ∨ p = d.ownNode) →
          (applyStaged d).lead.peers[p] = { d.lead.peers[p] with
            configured := false, target := (applyStaged d).lead.peers[p].target, state := .absent, capLevel := false
            capEmpty := false }) ∧
        (d.lead.peers[p].configured = false → x.peers[p].configured = true → p ≠ d.ownNode →
          (applyStaged d).lead.peers[p].capLevel = false ∧ (applyStaged d).lead.peers[p].capEmpty = false ∧
          (applyStaged d).lead.peers[p].hello = none) ∧
        (d.iface.mode = some .lead →
          peerStatusBytes (applyStaged d).lead.peers[p] ≠ peerStatusBytes d.lead.peers[p] →
          peerDue d (applyStaged d) p False)) ∧
      (canAccess d = true →
        (live d (ofChannel .acknowledgment) = true → .acknowledgment ∈ (applyStaged d).dma.owed) ∧
        (live d (ofChannel .acknowledgment) = false → inWindow d.iface.bounds (boardAddr d 0x28) 8 = true →
          ∃ w ∈ (applyStaged d).dma.inFlight, w.kind = .channelWrite .acknowledgment false false ∧
            w.addr = boardAddr d 0x28 ∧ w.data.length = 8 ∧ half w.data 0 = seq ∧ word w.data 4 = d.rounds.number)) ∧
      (applyStaged d).rounds.number = d.rounds.number) ∧
    ((settled d = false ∨ (d.rounds.hold = true ∧ d.rounds.inForce.isSome)) → applyStaged d = d)

/-- The period and guard in force are set only by an application of staged settings: a step that changes them applies the copy
staged before it, or the copy its own settings read brings, derives the two by the rule's table, notes the sequence with the
round number and leaves nothing staged; only a COLD_RESET or a BOARD_RESET empties them. An application is acknowledged in
either mode, a follower's round is timed by its mark, and a lead's by the values in force, whoever had them applied (R39). -/
def Obligations.PeriodAndGuardDerived : Prop :=
  (∀ s t : State, step s = .next t →
    t.dev.rounds.inForce = s.dev.rounds.inForce ∨
    (t.dev.rounds.inForce = none ∧ ∃ c rest, s.pending = c :: rest ∧ resets c = true) ∨
    ∃ (seq : Half) (x : Settings),
      (s.dev.rounds.staged = some (seq, x) ∨ ∃ (a : Access) (b : List Byte) (rest : List Instr),
        s.pending = .settingsReadDone a.tag (.bytes b) :: rest ∧ awaited s.dev a isSettingsRead ∧
        a.kind = .settingsRead seq ∧ x = settingsOf b) ∧
      t.dev.rounds.inForce = some { x with
        period := derivePeriod x.period, guardTime := deriveGuard (derivePeriod x.period) x.guardTime } ∧
      t.dev.rounds.staged = none ∧ t.dev.rounds.applied = some (seq, t.dev.rounds.number)) ∧
  (∀ (d : Device) (seq : Half) (x : Settings), d.rounds.staged = some (seq, x) → settled d = true →
    (d.rounds.hold = false ∨ d.rounds.inForce = none) →
    (applyStaged d).rounds.period = derivePeriod x.period ∧
    (applyStaged d).rounds.guardTime = deriveGuard (derivePeriod x.period) x.guardTime ∧
    (canAccess d = true → live (applyStaged d) (ofChannel .acknowledgment) = true)) ∧
  (∀ p g : Nat,
    derivePeriod p = max 100 (min 2000 (p / 10 * 10)) ∧ derivePeriod p % 10 = 0 ∧
    deriveGuard (derivePeriod p) g % 10 = 0 ∧ 10 ≤ deriveGuard (derivePeriod p) g ∧
    deriveGuard (derivePeriod p) g ≤ 500 ∧ 2 * deriveGuard (derivePeriod p) g ≤ derivePeriod p ∧
    (2 * max 10 (min 500 (g / 10 * 10)) ≤ derivePeriod p →
      deriveGuard (derivePeriod p) g = max 10 (min 500 (g / 10 * 10))) ∧
    (derivePeriod p < 2 * max 10 (min 500 (g / 10 * 10)) →
      deriveGuard (derivePeriod p) g = derivePeriod p / 2 / 10 * 10)) ∧
  ([(100, 20), (95, 20), (255, 200), (150, 75), (3000, 5), (100, 60), (0, 0)].map
      (fun (p, g) => (derivePeriod p, deriveGuard (derivePeriod p) g)) =
    [(100, 20), (100, 20), (250, 120), (150, 70), (2000, 10), (100, 50), (100, 10)]) ∧
  (∀ (d : Device) (m : MarkBody),
    (acceptMark m d).rounds.phase = .scheduled (d.now + m.guardTime) (d.now + m.period)) ∧
  (∀ d : Device, d.rounds.staged = none →
    (leadRoundStart d).rounds.inForce = d.rounds.inForce ∧
    (leadRoundStart d).rounds.nextAt = some (d.now + d.rounds.period) ∧
    (leadRoundStart d).rounds.phase = .scheduled (d.now + d.rounds.guardTime) (d.now + d.rounds.period))

/-- WATCH_ISSUE at a RUNNING lead: the local list is the own node's watches, and each configured node with a watch gets one
WATCH_LIST of at most 64 entries, in ascending node order; the watches are the incomplete hops of the LISTENING probes, one
each, rising by the probe's place in the admission order (oldest first) and then by hop number, and a node's list keeps that
order. The clock stands at the scheduled time or later (log entry 1, DESIGN CHOICE; sections 5.4 and 6.5). -/
def Obligations.WatchIssue : Prop :=
  ∀ s : State,
    (∀ t, s.dev.leading = true → s.dev.rounds.watchAt = some t →
      ∃ d, exec .watchIssue s = .next { s with dev := d } ∧ d.now = max s.dev.now t ∧
        d.rounds = { s.dev.rounds with watchAt := none } ∧
        d.taps = { s.dev.taps with localWatches := watchesOf (allWatches s.dev) s.dev.ownNode } ∧
        (∃ fs, d.lead.transmit = s.dev.lead.transmit ++ fs ∧
          (∀ f ∈ fs, ∃ p : Fin 16, isPeer s.dev p = true ∧
            f = .watchList p s.dev.rounds.number ((watchesOf (allWatches s.dev) p).take 64)) ∧
          ∀ p : Fin 16, isPeer s.dev p = true → watchesOf (allWatches s.dev) p ≠ [] →
            .watchList p s.dev.rounds.number ((watchesOf (allWatches s.dev) p).take 64) ∈ fs) ∧
        d.lead.transmit = s.dev.lead.transmit ++ (List.finRange 16).filterMap (fun p =>
          if isPeer s.dev p = true ∧ watchesOf (allWatches s.dev) p ≠ [] then
            some (.watchList p s.dev.rounds.number ((watchesOf (allWatches s.dev) p).take 64)) else none) ∧
        (∀ (node : Fin 16) (w : Watch), (node, w) ∈ allWatches s.dev ↔
          ∃ r ∈ s.dev.probes.order, ∃ p, s.dev.probes.records[r] = some p ∧ p.state = .listening ∧ w.tone = p.tone ∧
            ∃ (k : Nat) (hop : Hop) (a : Accumulator), p.record.hops[k]? = some hop ∧ p.accums[k]? = some a ∧
              a.looksDone ≠ p.record.looks ∧
              hop.loc = ⟨node, w.port, w.slot⟩) ∧
        (∃ tags : List (Nat × Nat), tags.length = (allWatches s.dev).length ∧
          tags.Pairwise (fun x y => x.1 < y.1 ∨ (x.1 = y.1 ∧ x.2 < y.2)) ∧
          (∀ (o k : Nat) (r : Fin 16) (p : Probe) (hop : Hop) (a : Accumulator), s.dev.probes.order[o]? = some r →
            s.dev.probes.records[r] = some p → p.state = .listening → p.record.hops[k]? = some hop →
            p.accums[k]? = some a → a.looksDone ≠ p.record.looks → (o, k) ∈ tags) ∧
          ∀ (j o k : Nat), tags[j]? = some (o, k) → ∃ (r : Fin 16) (p : Probe) (hop : Hop) (a : Accumulator),
            s.dev.probes.order[o]? = some r ∧ s.dev.probes.records[r] = some p ∧ p.state = .listening ∧
            p.record.hops[k]? = some hop ∧ p.accums[k]? = some a ∧ a.looksDone ≠ p.record.looks ∧
            (allWatches s.dev)[j]? = some (hop.loc.node, ⟨hop.loc.port, hop.loc.slot, p.tone⟩)) ∧
        (∀ node : Fin 16, watchesOf (allWatches s.dev) node = ((allWatches s.dev).filter (·.1 = node)).map (·.2)) ∧
        d.lead.peers = s.dev.lead.peers ∧ d.probes = s.dev.probes ∧ d.slots = s.dev.slots) ∧
    (s.dev.leading = false ∨ s.dev.rounds.watchAt = none → exec .watchIssue s = .next s)

/-- LOOK_OPEN and LOOK_DEADLINE: the plan takes the round's watches in their order, one entry a location, without the
disabled taps; while time is left the IDLE detectors take work in detector order, its first entries and then sweep looks,
and as many entries leave the plan as they begin, none where no look may begin; a look begun at LOOK_OPEN is on an enabled
tap, carries the current round number and ends by the deadline; LOOK_DEADLINE drops the plan and every watch and leaves
the detectors. The clock stands at the event's time or later (log entry 1, DESIGN CHOICE), and a draw that yields nothing
leaves the sweep cursor where it is (log entry 12, DEDUCED; sections 5.5, 5.6 and 5.9). -/
def Obligations.LookOpenAndDeadline : Prop :=
  ∀ s : State,
    (∀ o t, s.dev.rounds.phase = .scheduled o t →
      ∃ d, exec .lookOpen s = .next { s with dev := d } ∧ d.now = max s.dev.now o ∧
        d.rounds = { s.dev.rounds with phase := .opened t } ∧ d.taps.table = s.dev.taps.table ∧
        (∀ i : Fin 4, s.dev.taps.detectors[i] ≠ .idle → d.taps.detectors[i] = s.dev.taps.detectors[i]) ∧
        (∀ (i : Fin 4) (l : Look), s.dev.taps.detectors[i] = .idle → d.taps.detectors[i] = .looking l →
          l.round = s.dev.rounds.number ∧ l.endAt = d.now + 12 ∧ l.endAt ≤ t ∧
          l.loss = tapLoss s.dev l.port ∧ tapEnabled s.dev l.port = true) ∧
        (∀ ws, ws = (if s.dev.iface.mode = some .follow then s.dev.taps.heldWatches else s.dev.taps.localWatches) →
          (∀ (p : Fin 32) (x : Fin 96), (p, x) ∈ d.taps.watched ↔ ∃ w ∈ ws, w.port = p ∧ w.slot = x) ∧
          ∀ plan, plan = (ws.filter (fun w => tapEnabled s.dev w.port)).foldl addWatch [] →
            (s.dev.running = true → s.dev.taps.table.isSome → d.now + 12 ≤ t →
              d.taps.plan = plan.drop ((List.finRange 4).filter (fun j => s.dev.taps.detectors[j] == .idle)).length) ∧
            (¬(s.dev.running = true ∧ s.dev.taps.table.isSome ∧ d.now + 12 ≤ t) →
              d.taps.plan = plan ∧ d.taps.detectors = s.dev.taps.detectors) ∧
            (∃ e1 e2 e3, takesWork { s.dev with now := max s.dev.now o, rounds := { s.dev.rounds with phase := .opened t }, taps :=
                { s.dev.taps with
                  plan := plan, watched := d.taps.watched, sweepFirst := none, sweepOver := false, localWatches := []
                  heldWatches := [] } } e1 0 ∧
              takesWork e1 e2 1 ∧ takesWork e2 e3 2 ∧ takesWork e3 d 3) ∧
            (s.dev.running = true → s.dev.taps.table.isSome → d.now + 12 ≤ t →
              ∀ (i : Fin 4) (e : PlanEntry), s.dev.taps.detectors[i] = .idle →
                plan[((List.finRange 4).filter (fun j => decide (j < i) && s.dev.taps.detectors[j] == .idle)).length]? = some e →
                d.taps.detectors[i] = .looking
                  ⟨e.port, e.slot, some e.tones, s.dev.rounds.number, tapLoss s.dev e.port, d.now + 12⟩)) ∧
        d.classifier = s.dev.classifier ∧ d.follower = s.dev.follower ∧ d.slots = s.dev.slots) ∧
    (∀ o t, s.dev.rounds.phase = .scheduled o t ∨ s.dev.rounds.phase = .opened t →
      ∃ d, exec .lookDeadline s = .next { s with dev := d } ∧ d.now = max s.dev.now t ∧
        d.rounds = { s.dev.rounds with phase := .closed } ∧
        d.taps = { s.dev.taps with
          plan := [], watched := [], sweepFirst := none, sweepOver := false, localWatches := [], heldWatches := [] } ∧
        d.classifier = s.dev.classifier ∧ d.probes = s.dev.probes ∧ d.slots = s.dev.slots) ∧
    ((∀ o t, s.dev.rounds.phase ≠ .scheduled o t) → exec .lookOpen s = .next s) ∧
    (s.dev.rounds.phase = .closed → exec .lookDeadline s = .next s)

/-- LOOK_END: a look reports at most eight found tones, those of highest raw code (the lower tone first among equals),
each with the code its detector's factory offset corrects, by descending level code and ascending tone, and then EMPTY for
each watched tone not found at all, by ascending tone, so that a found tone crowded out is reported neither way. At the
lead the look's sightings enter the local share as far as it has room, behind any detector HOLDING; at a follower they
enter the hold queue, and those over 32 are shed; at the lead a detector becomes HOLDING while another is HOLDING, with
what it has or with nothing. A detector that keeps no sighting takes work at once: the plan's next entry, or a sweep look
at the first unwatched position from the cursor on, or it stays IDLE; the cursor goes round the sweep order, set to its
head at each application of settings, and a draw that yields nothing leaves it where it is (log entry 12, DEDUCED).
Sightings shed owe a counter write, which one whose completion is to be discarded does not hold back (log entry 38, DESIGN
CHOICE). The clock stands at the look's end or later (log entry 1, DESIGN CHOICE; sections 3.4, 5.1, 5.2, 5.6 to 5.8 and
6.8). -/
def Obligations.LookEnd : Prop :=
  (∀ (offset : BitVec 6) (raw : Nat),
    (raw = 0 → correctedLevel offset raw = 0) ∧ (raw = 1023 → correctedLevel offset raw = 1023) ∧
    (raw ≠ 0 → raw ≠ 1023 → (correctedLevel offset raw : Int) = max 1 (min 1022 ((raw : Int) + offset.toInt)))) ∧
  (∀ table : Vector Tap 32,
    (∀ (p : Fin 32) (x : Fin 96), (p, x) ∈ sweepOrder table ↔
      table[p].enabled = true ∧ table[p].first ≤ x ∧ x ≤ table[p].last) ∧
    (sweepOrder table).Pairwise (fun a b => a.1 < b.1 ∨ (a.1 = b.1 ∧ a.2 < b.2))) ∧
  (∀ (d : Device) (seq : Half) (x : Settings), d.rounds.staged = some (seq, x) → settled d = true →
    (d.rounds.hold = false ∨ d.rounds.inForce = none) →
    ∃ table, (applyStaged d).taps = { d.taps with table := some table, cursor := (sweepOrder table).head? }) ∧
  (∀ (d : Device) (offset : BitVec 6) (l : Look) (found : List FoundTone),
    ∃ (reported rest : List FoundTone) (empties : List (Fin 48)),
      (reported ++ rest).Perm found ∧ reported.length = min 8 found.length ∧
      (∀ f ∈ reported, ∀ g ∈ rest, g.raw.toNat < f.raw.toNat ∨ (g.raw = f.raw ∧ f.tone ≤ g.tone)) ∧
      reported.Pairwise (fun f g => correctedLevel offset g.raw.toNat < correctedLevel offset f.raw.toNat ∨
        (correctedLevel offset g.raw.toNat = correctedLevel offset f.raw.toNat ∧ f.tone ≤ g.tone)) ∧
      empties.Pairwise (· < ·) ∧
      (∀ t : Fin 48, t ∈ empties ↔ (∃ ts, l.tones = some ts ∧ t ∈ ts) ∧ ∀ f ∈ found, f.tone ≠ t) ∧
      lookSightings d offset l found =
        reported.map (fun f => ⟨none, l.round, ⟨d.ownNode, l.port, l.slot⟩, f.tone,
          some (correctedLevel offset f.raw.toNat), l.loss, true, true⟩) ++
        empties.map (fun t => ⟨none, l.round, ⟨d.ownNode, l.port, l.slot⟩, t, none, l.loss, true, true⟩)) ∧
  ∀ (i : Fin 4) (l : Look) (found : List FoundTone) (s : State), s.dev.taps.detectors[i] = .looking l →
    ∃ d, exec (.lookEnd i found) s = .next { s with dev := settle d } ∧ d.now = max s.dev.now l.endAt ∧
      (s.dev.iface.mode ≠ some .follow → ∀ xs, xs = lookSightings s.dev s.dev.fuses[i] l found →
        (anyHolding s.dev = true →
          d.taps.detectors[i] = .holding xs ∧ d.classifier = s.dev.classifier ∧
          d.taps = { s.dev.taps with detectors := s.dev.taps.detectors.set i (.holding xs) }) ∧
        (anyHolding s.dev = false →
          d.classifier.queue =
            s.dev.classifier.queue ++ (xs.take (localRoom s.dev)).map (fun x => ⟨x, none, none⟩) ∧
          (localRoom s.dev < xs.length → d.taps.detectors[i] = .holding (xs.drop (localRoom s.dev)) ∧ d.taps = { s.dev.taps with
            detectors := s.dev.taps.detectors.set i (.holding (xs.drop (localRoom s.dev))) }) ∧
          (xs.length ≤ localRoom s.dev →
            takesWork { d with taps := { s.dev.taps with detectors := s.dev.taps.detectors.set i .idle } } d i ∧
            ∀ ys, d.taps.detectors[i] ≠ .holding ys))) ∧
      (s.dev.iface.mode = some .follow → ∀ xs, xs = lookSightings s.dev s.dev.fuses[i] l found →
        d.follower.hold = s.dev.follower.hold ++ xs.take (32 - s.dev.follower.hold.length) ∧
        d.follower.shed =
          s.dev.follower.shed + BitVec.ofNat 32 (xs.length - (32 - s.dev.follower.hold.length)) ∧
        d.classifier = s.dev.classifier ∧
        takesWork { d with taps := { s.dev.taps with detectors := s.dev.taps.detectors.set i .idle } } d i ∧
        (d.follower.shed ≠ s.dev.follower.shed →
          writeShown s.dev d .linkCounters (boardAddr s.dev 0x38) (linkCounterBytes d.follower))) ∧
      (∀ j : Fin 4, j ≠ i → d.taps.detectors[j] = s.dev.taps.detectors[j]) ∧
      d.slots = s.dev.slots ∧ d.probes = s.dev.probes ∧ d.rounds = s.dev.rounds

/-! ### The supervisory link (chapter 6) and the marks of a follower (3.3) -/

/-- ROUND_MARK_RECEIVED accepted by a follower: it adopts the round, the grant and the timing, staged settings are applied,
its windows count down, due tones come FREE, every sixteenth mark makes a STEADY HELLO pending, and the journal's coalescing
memory is renewed. The frame's time is an operand, before which it does not arrive (log entry 1, DESIGN CHOICE), and an
acknowledgment or window status write to be discarded is not the one in flight (log entry 38, DESIGN CHOICE). A status write is
due for each window that changes (sections 3.3, 2.2, 3.4, 4.5, 6.8
and 10.1). -/
def Obligations.MarkAccepted : Prop :=
  ∀ (time : Nat) (source : Fin 16) (body : List Byte) (m : MarkBody) (i : Identity) (s : State),
    s.dev.following = true → s.dev.iface.start = none → s.dev.identity = some i → i.leadNode = some source →
    markBody? body = some m → tooClose (s.dev.advance time) = false →
    ∃ d, exec (.roundMarkReceived time (BitVec.ofNat 8 source.val) 0xFF#8 body) s =
        .next { s with dev := settle d } ∧ d.now = max s.dev.now time ∧
      d.rounds.number = m.round ∧ d.rounds.leadState = .following ∧
      d.rounds.lastMark = some ⟨d.now, m.period, m.guardTime⟩ ∧
      d.rounds.phase = .scheduled (d.now + m.guardTime) (d.now + m.period) ∧
      d.follower.grant = some m.grants[i.ownNode] ∧ d.follower.leadLostAt = some (d.now + 4 * m.period) ∧
      d.follower.hold = s.dev.follower.hold ∧ d.follower.sent = s.dev.follower.sent ∧
      (s.dev.rounds.leadState = .leadLost → d.follower.hello = some .joining ∧ d.follower.helloCount = 0) ∧
      (s.dev.rounds.leadState = .following → 16 ≤ s.dev.follower.helloCount + 1 →
        d.follower.hello = some (s.dev.follower.hello.getD .steady) ∧ d.follower.helloCount = 0) ∧
      (s.dev.rounds.leadState = .following → s.dev.follower.helloCount + 1 < 16 →
        d.follower.hello = s.dev.follower.hello ∧ d.follower.helloCount = s.dev.follower.helloCount + 1) ∧
      (∀ (seq : Half) (x : Settings), s.dev.rounds.staged = some (seq, x) → settled s.dev = true →
        (s.dev.rounds.hold = false ∨ s.dev.rounds.inForce = none) →
        d.rounds.staged = none ∧ d.rounds.applied = some (seq, m.round) ∧
        d.rounds.inForce = some { x with
          period := derivePeriod x.period, guardTime := deriveGuard (derivePeriod x.period) x.guardTime } ∧
        d.taps.table = some (mapVec (fun _ t => clampTap t) x.taps) ∧
        (live s.dev (ofChannel .acknowledgment) = true → .acknowledgment ∈ d.dma.owed) ∧
        (live s.dev (ofChannel .acknowledgment) = false → inWindow s.dev.iface.bounds (boardAddr s.dev 0x28) 8 = true →
          ∃ w ∈ d.dma.inFlight, w.kind = .channelWrite .acknowledgment false false ∧ w.addr = boardAddr s.dev 0x28 ∧
            w.data.length = 8 ∧ half w.data 0 = seq ∧ word w.data 4 = m.round)) ∧
      ((s.dev.rounds.staged = none ∨ settled s.dev = false ∨ (s.dev.rounds.hold = true ∧ s.dev.rounds.inForce.isSome)) →
        d.rounds.staged = s.dev.rounds.staged ∧ d.rounds.applied = s.dev.rounds.applied ∧
        d.rounds.inForce = s.dev.rounds.inForce ∧ d.taps.table = s.dev.taps.table) ∧
      (∀ x : Fin 48, d.tones[x] = (match s.dev.tones[x] with
        | .quarantined q => if q.stopConfirmed = true ∧ 2 ≤ (m.round - q.release).toNat ∧
            (m.round - q.release).toNat < 2 ^ 31 then .free else .quarantined q
        | y => y)) ∧
      (∀ w : Fin 4, d.windows[w] = s.dev.windows[w].atRound ∧
        (d.windows[w] ≠ s.dev.windows[w] → windowDue s.dev d w)) ∧ d.taps.plan = [] ∧ d.taps.heldWatches = [] ∧
      d.journal = { s.dev.journal with memory := [] } ∧
      (beforeDeadline (s.dev.advance time) = true → ∀ (j : Fin 4) (l : Look), d.taps.detectors[j] ≠ .looking l) ∧
      d.slots = s.dev.slots

/-- ROUND_MARK_RECEIVED ignored: every mark at a lead, another source's or one less than 50 ms after the last accepted one at
a follower; it is counted, a counter write is due (which one to be discarded does not hold back, log entry 38, DESIGN
CHOICE), and nothing else of the round timing changes. The mark's arrival is the clock or the frame's time,
whichever is later, so the clause on one too close rests on the model's choice (log entry 1, DESIGN CHOICE; section 3.3). -/
def Obligations.MarkIgnored : Prop :=
  ∀ (time : Nat) (source : Fin 16) (body : List Byte) (m : MarkBody) (s : State),
    s.dev.iface.state = .running → s.dev.iface.start = none → markBody? body = some m →
    ((s.dev.iface.mode = some .lead ∨
        (s.dev.iface.mode = some .follow ∧ s.dev.identity.bind (·.leadNode) ≠ some source)) →
      ∃ d, exec (.roundMarkReceived time (BitVec.ofNat 8 source.val) 0xFF#8 body) s =
          .next { s with dev := settle d } ∧
        d.rounds = { s.dev.rounds with marksForeign := s.dev.rounds.marksForeign + 1#32 } ∧
        writeShown s.dev d .markCounters (boardAddr s.dev 0x30)
          (putWord d.rounds.marksTooClose ++ putWord d.rounds.marksForeign) ∧
        d.windows = s.dev.windows ∧ d.taps = s.dev.taps ∧ d.follower = s.dev.follower ∧ d.slots = s.dev.slots) ∧
    ((s.dev.iface.mode = some .follow ∧ s.dev.identity.bind (·.leadNode) = some source ∧
        tooClose (s.dev.advance time) = true) →
      ∃ d, exec (.roundMarkReceived time (BitVec.ofNat 8 source.val) 0xFF#8 body) s =
          .next { s with dev := settle d } ∧
        d.rounds = { s.dev.rounds with marksTooClose := s.dev.rounds.marksTooClose + 1#32 } ∧
        writeShown s.dev d .markCounters (boardAddr s.dev 0x30)
          (putWord d.rounds.marksTooClose ++ putWord d.rounds.marksForeign) ∧
        d.windows = s.dev.windows ∧ d.taps = s.dev.taps ∧ d.follower = s.dev.follower ∧ d.slots = s.dev.slots)

/-- WATCH_LIST_RECEIVED by a follower from its lead: held in place of an earlier list when it arrives before LOOK_OPEN, merged
into the plan after it, discarded from the look deadline on, when its round is not the current one or when no round is in
progress. Arrival is the frame's time or the clock, whichever is later, and a list that arrives at LOOK_OPEN's time or later
while LOOK_OPEN has not been taken joins the watches that LOOK_OPEN will build the plan from (log entry 1, DESIGN CHOICE;
section 5.5). -/
def Obligations.WatchListTaken : Prop :=
  ∀ (time : Nat) (source own : Fin 16) (body : List Byte) (round : Round) (ws : List Watch) (s : State),
    s.dev.following = true → s.dev.iface.start = none → s.dev.identity.bind (·.leadNode) = some source →
    s.dev.ownNode = own → watchListBody? body = some (round, ws) →
    ((round ≠ s.dev.rounds.number ∨ s.dev.rounds.phase = .closed ∨
        (∃ o t, s.dev.rounds.phase = .scheduled o t ∧ o ≤ max s.dev.now time ∧ t ≤ max s.dev.now time) ∨
        (∃ t, s.dev.rounds.phase = .opened t ∧ t ≤ max s.dev.now time)) →
      exec (.watchListReceived time (BitVec.ofNat 8 source.val) (BitVec.ofNat 8 own.val) body) s =
        .next { s with dev := settle (s.dev.advance time) }) ∧
    (∀ o t, round = s.dev.rounds.number → s.dev.rounds.phase = .scheduled o t → max s.dev.now time < o →
      exec (.watchListReceived time (BitVec.ofNat 8 source.val) (BitVec.ofNat 8 own.val) body) s =
        .next { s with dev := settle { s.dev.advance time with taps := { s.dev.taps with heldWatches := ws } } }) ∧
    (∀ o t, round = s.dev.rounds.number → s.dev.rounds.phase = .scheduled o t → o ≤ max s.dev.now time →
      max s.dev.now time < t →
      exec (.watchListReceived time (BitVec.ofNat 8 source.val) (BitVec.ofNat 8 own.val) body) s =
        .next { s with dev := settle { s.dev.advance time with
          taps := { s.dev.taps with heldWatches := s.dev.taps.heldWatches ++ ws } } }) ∧
    (∀ t, round = s.dev.rounds.number → s.dev.rounds.phase = .opened t → max s.dev.now time < t →
      ∃ d, exec (.watchListReceived time (BitVec.ofNat 8 source.val) (BitVec.ofNat 8 own.val) body) s =
          .next { s with dev := settle d } ∧ d.now = max s.dev.now time ∧
        (∀ w ∈ ws, (w.port, w.slot) ∈ d.taps.watched) ∧ (∀ x ∈ s.dev.taps.watched, x ∈ d.taps.watched) ∧
        (∃ k, d.taps.plan =
          ((ws.filter (fun w => tapEnabled s.dev w.port)).foldl addWatch s.dev.taps.plan).drop k ∧
          (d.taps.detectors = s.dev.taps.detectors → k = 0)) ∧
        ((∀ i : Fin 4, s.dev.taps.detectors[i] ≠ .idle) →
          d.taps.plan = (ws.filter (fun w => tapEnabled s.dev w.port)).foldl addWatch s.dev.taps.plan ∧
          d.taps.detectors = s.dev.taps.detectors) ∧
        (∀ i : Fin 4, s.dev.taps.detectors[i] ≠ .idle → d.taps.detectors[i] = s.dev.taps.detectors[i]) ∧
        d.rounds = s.dev.rounds ∧ d.taps.table = s.dev.taps.table)

/-- SIGHTING_RECEIVED and HELLO_RECEIVED from a configured peer at a RUNNING lead; at a lead that is STOPPED a configured peer's
SIGHTING counts as arrived and is otherwise discarded, and every other frame of these kinds that a part does not take RUNNING is
discarded. A status write is due when the peer's status changes (log entry 30, DEDUCED), which one whose completion is to be
discarded does not hold back (log entry 38, DESIGN CHOICE; sections 6.1, 6.4 and 6.6). -/
def Obligations.PeerFramesTaken : Prop :=
  (∀ (p own : Fin 16) (body : List Byte) (s : State),
    s.dev.leading = true → s.dev.iface.start = none → s.dev.ownNode = own → isPeer s.dev p = true →
    (∀ b, sightingBody? body = some b → laterThan b.round s.dev.rounds.number = false →
      ∃ d, exec (.sightingReceived (BitVec.ofNat 8 p.val) (BitVec.ofNat 8 own.val) body) s =
          .next { s with dev := settle d } ∧
        d.lead.peers[p].arrived = s.dev.lead.peers[p].arrived + 1#16 ∧ d.lead.peers[p].state = .present ∧
        d.lead.peers[p].silence = 0 ∧ d.lead.peers[p].report = some b.backlog ∧
        (inQueue s.dev p < s.dev.lead.peers[p].limit →
          d.classifier.queue =
            s.dev.classifier.queue ++ [⟨remoteSighting p s.dev.lead.peers[p] b, none, none⟩] ∧
          d.lead.peers[p].violations = s.dev.lead.peers[p].violations) ∧
        (s.dev.lead.peers[p].limit ≤ inQueue s.dev p →
          d.classifier = s.dev.classifier ∧
          d.lead.peers[p].violations = s.dev.lead.peers[p].violations + 1#32) ∧
        (peerStatusBytes d.lead.peers[p] ≠ peerStatusBytes s.dev.lead.peers[p] → peerDue s.dev d p False) ∧
        (∀ q : Fin 16, q ≠ p → d.lead.peers[q] = s.dev.lead.peers[q]) ∧ d.lead.pool = s.dev.lead.pool) ∧
    (∀ b, helloBody? body = some b →
      ∃ d, exec (.helloReceived (BitVec.ofNat 8 p.val) (BitVec.ofNat 8 own.val) body) s =
          .next { s with dev := settle d } ∧
        d.lead.peers[p] = { s.dev.lead.peers[p] with
          capLevel := b.capLevel, capEmpty := b.capEmpty, hello := some b.state, arrived := b.sent
          state := .present, silence := 0 } ∧
        (peerStatusBytes d.lead.peers[p] ≠ peerStatusBytes s.dev.lead.peers[p] → peerDue s.dev d p False) ∧
        (∀ q : Fin 16, q ≠ p → d.lead.peers[q] = s.dev.lead.peers[q]) ∧ d.lead.pool = s.dev.lead.pool ∧
        d.classifier = s.dev.classifier)) ∧
  (∀ (p : Fin 16) (dest : Byte) (body : List Byte) (s : State), addressed s.dev dest = true →
    s.dev.iface.state = .stopped → s.dev.iface.start = none → s.dev.iface.mode = some .lead → isPeer s.dev p = true →
    exec (.sightingReceived (BitVec.ofNat 8 p.val) dest body) s = .next { s with dev := settle { s.dev with
      lead := { s.dev.lead with peers := s.dev.lead.peers.set p { s.dev.lead.peers[p] with
        arrived := s.dev.lead.peers[p].arrived + 1#16 } } } }) ∧
  (∀ (source dest : Byte) (body : List Byte) (s : State),
    (s.dev.iface.start.isSome ∨ addressed s.dev dest = false ∨
      (s.dev.iface.state ≠ .running ∧ (s.dev.iface.state ≠ .stopped ∨ s.dev.iface.mode ≠ some .lead ∨
        ∀ p : Fin 16, isPeer s.dev p = true → source.toNat ≠ p.val)) →
      exec (.sightingReceived source dest body) s = .next { s with dev := settle s.dev }) ∧
    (s.dev.iface.start.isSome ∨ addressed s.dev dest = false ∨ s.dev.iface.state ≠ .running →
      exec (.helloReceived source dest body) s = .next { s with dev := settle s.dev }))

/-- UNKNOWN_FRAME_RECEIVED and every malformed frame: a frame under 3 bytes is discarded; one of an unknown kind addressed to a
RUNNING part is counted as malformed for its source at a lead, in link_malformed at a follower; a frame of kinds 1 to 4 that
fails a check of R99 is counted likewise and changes nothing else, but for a configured peer's SIGHTING that fails check 3 or 4,
which counts as arrived too. Each count owes its status or counter write, which one whose completion is to be discarded does not
hold back (log entry 38, DESIGN CHOICE). That link_malformed counts a source byte above 15 as well is the model's reading (log
entry 37), and the clause on the clock, that a ROUND_MARK or a WATCH_LIST does not arrive before its operand's time, is the
model's choice (log entry 1, DESIGN CHOICE; sections 6.1, 6.2, 6.6 and 11.3). -/
def Obligations.UnknownFrames : Prop :=
  (∀ (kind source dest : Byte) (frame body : List Byte) (s : State),
    (frame.length < 3 → exec (.unknownFrameReceived frame) s = .next { s with dev := settle s.dev }) ∧
    (addressed s.dev dest = false →
      exec (.unknownFrameReceived (kind :: source :: dest :: body)) s = .next { s with dev := settle s.dev }) ∧
    ((kind = 0#8 ∨ 4 < kind.toNat) → s.dev.iface.state = .running → s.dev.iface.start = none →
      addressed s.dev dest = true →
      ∃ d, exec (.unknownFrameReceived (kind :: source :: dest :: body)) s = .next { s with dev := settle d } ∧
        (∀ p : Fin 16, s.dev.iface.mode = some .lead → source.toNat = p.val →
          d.lead.peers[p] =
            { s.dev.lead.peers[p] with malformed := s.dev.lead.peers[p].malformed + 1#32 } ∧
          peerDue s.dev d p False ∧ d.follower = s.dev.follower) ∧
        (s.dev.iface.mode = some .follow →
          d.follower = { s.dev.follower with malformed := s.dev.follower.malformed + 1#32 } ∧ d.lead = s.dev.lead ∧
          writeShown s.dev d .linkCounters (boardAddr s.dev 0x38) (linkCounterBytes d.follower)) ∧
        d.classifier = s.dev.classifier ∧ d.rounds = s.dev.rounds ∧ d.taps = s.dev.taps ∧ d.slots = s.dev.slots)) ∧
  (∀ (time kind : Nat) (f : Byte → Byte → List Byte → Instr) (source dest : Byte) (body : List Byte) (fault : FrameFault)
      (s : State), (kind, f) ∈ receivedFrames time → s.dev.iface.state = .running → s.dev.iface.start = none →
    addressed s.dev dest = true → checkFrame s.dev kind source (dest == 0xFF#8) body = .error fault →
    ∃ d, exec (f source dest body) s = .next { s with dev := settle d } ∧
      d.now = (if kind ≤ 2 then max s.dev.now time else s.dev.now) ∧
      (∀ p : Fin 16, s.dev.iface.mode = some .lead → source.toNat = p.val →
        d.lead.peers[p] = { s.dev.lead.peers[p] with
          malformed := s.dev.lead.peers[p].malformed + 1#32
          arrived := (if kind = 3 ∧ isPeer s.dev p = true ∧ (fault = .badField ∨ fault = .futureRound)
            then s.dev.lead.peers[p].arrived + 1#16 else s.dev.lead.peers[p].arrived) } ∧
        peerDue s.dev d p False ∧
        (∀ q : Fin 16, q ≠ p → d.lead.peers[q] = s.dev.lead.peers[q])) ∧
      (s.dev.iface.mode = some .lead → 15 < source.toNat → d.lead = s.dev.lead) ∧
      (s.dev.iface.mode = some .lead → d.follower = s.dev.follower) ∧
      (s.dev.iface.mode = some .follow →
        d.follower = { s.dev.follower with malformed := s.dev.follower.malformed + 1#32 } ∧ d.lead = s.dev.lead ∧
        writeShown s.dev d .linkCounters (boardAddr s.dev 0x38) (linkCounterBytes d.follower)) ∧
      d.classifier = s.dev.classifier ∧ d.rounds = s.dev.rounds ∧ d.taps = s.dev.taps ∧ d.slots = s.dev.slots ∧
      d.probes = s.dev.probes) ∧
  (∀ (d : Device) (kind : Nat) (source : Byte) (toAll : Bool) (body : List Byte),
    ((d.iface.mode = some .lead ∧ kind ≠ 1 ∧ kind ≠ 3 ∧ kind ≠ 4) ∨ (d.iface.mode = some .follow ∧ kind ≠ 1 ∧ kind ≠ 2) →
      checkFrame d kind source toAll body = .error .badKind) ∧
    ((d.iface.mode = some .lead ∧ (kind = 1 ∨ kind = 3 ∨ kind = 4)) ∨
        (d.iface.mode = some .follow ∧ (kind = 1 ∨ kind = 2)) →
      (15 < source.toNat ∨
          (∃ p : Fin 16, source.toNat = p.val ∧ ((kind = 2 ∧ d.identity.bind (·.leadNode) ≠ some p) ∨
            ((kind = 3 ∨ kind = 4) ∧ isPeer d p = false))) →
        checkFrame d kind source toAll body = .error .badSource) ∧
      (∀ p : Fin 16, source.toNat = p.val →
        (kind = 2 → d.identity.bind (·.leadNode) = some p) → ((kind = 3 ∨ kind = 4) → isPeer d p = true) →
        ((kind = 1 ∧ (toAll = false ∨ markBody? body = none)) ∨
            (kind = 2 ∧ (toAll = true ∨ watchListBody? body = none)) ∨
            (kind = 3 ∧ (toAll = true ∨ sightingBody? body = none)) ∨
            (kind = 4 ∧ (toAll = true ∨ helloBody? body = none)) →
          checkFrame d kind source toAll body = .error .badField) ∧
        (∀ b, kind = 3 → toAll = false → sightingBody? body = some b →
          checkFrame d kind source toAll body =
            (if laterThan b.round d.rounds.number = true then .error .futureRound else .ok (.sighting p b))) ∧
        (∀ m, kind = 1 → toAll = true → markBody? body = some m →
          checkFrame d kind source toAll body = .ok (.mark p m)) ∧
        (∀ r ws, kind = 2 → toAll = false → watchListBody? body = some (r, ws) →
          checkFrame d kind source toAll body = .ok (.watchList r ws)) ∧
        (∀ b, kind = 4 → toAll = false → helloBody? body = some b →
          checkFrame d kind source toAll body = .ok (.hello p b)))))

/-- FRAMER_READY: the front frame at a lead, a pending HELLO and then the oldest held sighting against credit at a follower,
else no effect. That readiness with nothing due is not remembered, and the field that keeps the frame handed over, are the
model's choice (log entry 10; sections 6.1, 6.5 and 6.8). -/
def Obligations.FramerReady : Prop :=
  ∀ s : State,
    (∀ f rest, s.dev.leading = true → s.dev.lead.transmit = f :: rest →
      exec .framerReady s = .next { s with dev := { s.dev with
        framer := some (txFrameBytes s.dev.ownNode f), lead := { s.dev.lead with transmit := rest } } }) ∧
    (∀ st, s.dev.following = true → s.dev.rounds.leadState = .following → s.dev.follower.hello = some st →
      exec .framerReady s = .next { s with dev := { s.dev with
        framer := some (helloFrame s.dev.ownNode s.dev.leadNode s.dev.follower.sent st)
        follower := { s.dev.follower with hello := none } } }) ∧
    (∀ x rest g, s.dev.following = true → s.dev.rounds.leadState = .following → s.dev.follower.hello = none →
      s.dev.follower.hold = x :: rest → s.dev.follower.grant = some g →
      (1 ≤ (g - s.dev.follower.sent).toNat → (g - s.dev.follower.sent).toNat < 32768 →
        exec .framerReady s = .next { s with dev := { s.dev with
          framer := some (sightingFrame s.dev.ownNode s.dev.leadNode x rest.length)
          follower := { s.dev.follower with hold := rest, sent := s.dev.follower.sent + 1#16 } } }) ∧
      ((g - s.dev.follower.sent).toNat = 0 ∨ 32768 ≤ (g - s.dev.follower.sent).toNat →
        exec .framerReady s = .next s)) ∧
    (s.dev.iface.state ≠ .running ∨ (s.dev.leading = true ∧ s.dev.lead.transmit = []) ∨
      (s.dev.following = true ∧ (s.dev.rounds.leadState = .leadLost ∨
        (s.dev.follower.hello = none ∧ (s.dev.follower.hold = [] ∨ s.dev.follower.grant = none)))) →
      exec .framerReady s = .next s)

/-- LEAD_LOST_TIMER_EXPIRY at a RUNNING follower: LEAD_LOST, its looks, watches, held sightings, grant and pending HELLO
gone, its windows and round number kept, the cause raised. The clock stands at the timer's time or later (log entry 1, DESIGN
CHOICE; sections 3.3, 5.9 and 6.8). -/
def Obligations.LeadLost : Prop :=
  ∀ s : State,
    (∀ t, s.dev.following = true → s.dev.follower.leadLostAt = some t →
      ∃ d, exec .leadLostTimerExpiry s = .next { s with dev := settle d } ∧ d.now = max s.dev.now t ∧
        d.rounds = { s.dev.rounds with leadState := .leadLost, phase := .closed } ∧
        d.follower = { s.dev.follower with hold := [], grant := none, hello := none, leadLostAt := none } ∧
        (∀ (j : Fin 4) (l : Look), d.taps.detectors[j] ≠ .looking l) ∧ d.taps.plan = [] ∧ d.taps.heldWatches = [] ∧
        d.taps.table = s.dev.taps.table ∧ d.regs.irqCause.getLsbD 3 = true ∧ d.windows = s.dev.windows ∧
        d.slots = s.dev.slots) ∧
    (s.dev.follower.leadLostAt = none → exec .leadLostTimerExpiry s = .next s)

/-! ### Classification and translation (chapters 7 and 8) -/

/-- CLASSIFY_SIGHTING, of a peer's sighting or a local one: what each check before translation does, the answer of an LTB
hit or of a bypass campaign (a look offered and taken, unclassified, CROSS, MISROUTE or nothing), and the three ways of a
miss. The answer is what the device is before the entry departs; a local departure serves the lowest HOLDING detector, and
the next one from the room that remains once it holds none and has taken work, a draw that yields nothing leaving the
sweep cursor where it is (log entry 12, DEDUCED). A look that completes its probe has the verdict record written, and from
LISTENING the context stopped; a counted sighting owes the counter write, which one whose completion is to be discarded
does not hold back (log entry 38, DESIGN CHOICE). What earlier means for a round exactly 2^31 from a probe's first
listening round is log entry 41 (DEDUCED; that the commands stand in `launch.issued` until the step's end is log entry 7,
DESIGN CHOICE; sections 4.6, 5.8, 7.5 and 8.2 to 8.5). -/
def Obligations.ClassifySighting : Prop :=
  (∀ s : State,
    ((s.dev.leading = false ∨ s.dev.classifier.stalled = true ∨ nextEntry s.dev = none) →
      exec .classifySighting s = .next { s with dev := settle s.dev }) ∧
    ∀ i e, s.dev.leading = true → s.dev.classifier.stalled = false → nextEntry s.dev = some i →
      s.dev.classifier.queue[i]? = some e →
      (e.sighting.source.isSome → ∃ d, exec .classifySighting s = .next { s with dev := settle d } ∧
        (checkEntry s.dev e.sighting = .stale →
          d.classifier = { s.dev.classifier with
            queue := s.dev.classifier.queue.eraseIdx i, stale := s.dev.classifier.stale + 1#32 } ∧
          d.probes = s.dev.probes ∧ d.slots = s.dev.slots) ∧
        (checkEntry s.dev e.sighting = .lateTone →
          d.classifier = { s.dev.classifier with
            queue := s.dev.classifier.queue.eraseIdx i, lateTone := s.dev.classifier.lateTone + 1#32 } ∧
          d.probes = s.dev.probes ∧ d.slots = s.dev.slots) ∧
        (checkEntry s.dev e.sighting = .stray →
          d.classifier = { s.dev.classifier with
            queue := s.dev.classifier.queue.eraseIdx i, stray := s.dev.classifier.stray + 1#32 } ∧
          d.probes = s.dev.probes ∧ d.slots = s.dev.slots) ∧
        (checkEntry s.dev e.sighting = .silent →
          d = s.dev.setQueue (s.dev.classifier.queue.eraseIdx i)) ∧
        (∀ p, checkEntry s.dev e.sighting = .late p →
          d.classifier.queue = s.dev.classifier.queue.eraseIdx i ∧ d.probes = s.dev.probes ∧
          (s.dev.slots[p.slot].generation = p.generation → d.slots[p.slot].summary.lateDiscard =
            s.dev.slots[p.slot].summary.lateDiscard + 1#32) ∧
          (s.dev.slots[p.slot].generation ≠ p.generation → d.slots = s.dev.slots)) ∧
        (∀ p, checkEntry s.dev e.sighting = .outOfReach p →
          d.classifier.queue = s.dev.classifier.queue.eraseIdx i ∧ d.probes = s.dev.probes ∧
          (s.dev.slots[p.slot].generation = p.generation → d.slots[p.slot].summary.outOfReach =
            s.dev.slots[p.slot].summary.outOfReach + 1#32))) ∧
      ((∀ r p, checkEntry s.dev e.sighting ≠ .pass r p) →
        ∃ x, exec .classifySighting s = .next { s with dev := settle (depart i x) } ∧ x.probes = s.dev.probes ∧
          x.classifier = { s.dev.classifier with
            stale := s.dev.classifier.stale + (if checkEntry s.dev e.sighting = .stale then 1#32 else 0#32)
            lateTone := s.dev.classifier.lateTone + (if checkEntry s.dev e.sighting = .lateTone then 1#32 else 0#32)
            stray := s.dev.classifier.stray + (if checkEntry s.dev e.sighting = .stray then 1#32 else 0#32) } ∧
          ((checkEntry s.dev e.sighting = .stale ∨ checkEntry s.dev e.sighting = .lateTone ∨
              checkEntry s.dev e.sighting = .stray) →
            writeShown s.dev x .sightingCounters (boardAddr s.dev 0x40) (sightingCounterBytes x.classifier)) ∧
          (∀ p, checkEntry s.dev e.sighting = .late p → x = countSlot .late p.slot p.generation s.dev) ∧
          (∀ p, checkEntry s.dev e.sighting = .outOfReach p → x = countSlot .outOfReach p.slot p.generation s.dev) ∧
          ((∀ p, checkEntry s.dev e.sighting ≠ .late p ∧ checkEntry s.dev e.sighting ≠ .outOfReach p) →
            x.slots = s.dev.slots)) ∧
      (∀ r p, checkEntry s.dev e.sighting = .pass r p → s.dev.slots[p.slot].desc.directoryBase ≠ 0 →
        s.dev.areas[p.slot].lookup e.sighting.loc = none →
        ∃ d, exec .classifySighting s = .next { s with dev := settle d } ∧ d.probes = s.dev.probes ∧ d.slots = s.dev.slots ∧
          (∀ w, walkFor s.dev p.slot e.sighting.loc = some w →
            d.walks = s.dev.walks ∧ d.classifier.stalled = false ∧
            d.classifier.queue[i]? = some { e with parked := some w, memo := some ⟨r, p.slot, p.generation, p.circuit⟩ }) ∧
          (∀ w, walkFor s.dev p.slot e.sighting.loc = none → freeWalk? s.dev = some w →
            d.walks[w] =
              some ⟨.node, p.slot, s.dev.slots[p.slot].generation, e.sighting.loc, 0, 0, 0, 0⟩ ∧
            d.classifier.queue[i]? = some { e with parked := some w, memo := some ⟨r, p.slot, p.generation, p.circuit⟩ } ∧
            d.classifier.stalled = false ∧
            (∀ addr, addr = s.dev.slots[p.slot].desc.directoryBase + 8 * e.sighting.loc.node.val →
              inWindow s.dev.iface.bounds addr 8 = true → inFlight d addr 8 (.walkRead w))) ∧
          (walkFor s.dev p.slot e.sighting.loc = none → freeWalk? s.dev = none →
            d.walks = s.dev.walks ∧ d.classifier.stalled = true)) ∧
      (∀ r p, checkEntry s.dev e.sighting = .pass r p →
        s.dev.slots[p.slot].desc.directoryBase = 0 ∨ (s.dev.areas[p.slot].lookup e.sighting.loc).isSome →
        ∃ x, exec .classifySighting s = .next { s with dev := settle (depart i x) } ∧
          x.classifier = { s.dev.classifier with
            queue := s.dev.classifier.queue.set i { e with memo := some ⟨r, p.slot, p.generation, p.circuit⟩ } } ∧
          (∀ q : Fin 16, q ≠ r → x.probes.records[q] = s.dev.probes.records[q]) ∧ x.areas = s.dev.areas ∧
          x.walks = s.dev.walks ∧
          (∀ h hop a, p.record.hops[h]? = some hop → p.accums[h]? = some a → hop.loc = e.sighting.loc →
            (s.dev.slots[p.slot].desc.directoryBase = 0 ∧
              (∀ j hj, j < h → p.record.hops[j]? = some hj → hj.loc ≠ e.sighting.loc)) ∨
            (s.dev.slots[p.slot].desc.directoryBase ≠ 0 ∧
              s.dev.areas[p.slot].lookup e.sighting.loc = some (.expect p.circuit h hop.role.code hop.powerCheck)) →
            x.slots = s.dev.slots ∧
            (lookIgnored a p.record.looks e.sighting = true → x.probes = s.dev.probes ∧ x.tones = s.dev.tones) ∧
            (lookIgnored a p.record.looks e.sighting = false → ∀ q : Probe,
              q = { p with
                accums := p.accums.set h (a.accept hop p.record.depth e.sighting)
                leak := (if hop.role = .guarded ∧ e.sighting.level.isSome ∧ p.leak = none then some h else p.leak) } →
              (q.complete = false → x.probes.records[r] = some q ∧ x.tones = s.dev.tones ∧ x.launch = s.dev.launch) ∧
              (q.complete = true → evaluated s.dev x r q ∧
                (p.state = .listening → stopsIssued s.dev x (fun c => c = p.ctx)) ∧
                (p.state ≠ .listening → x.launch.issued = s.dev.launch.issued) ∧
                x.launch.contexts[p.ctx].owner ≠ some r ∧
                (p.state = .listening →
                  x.tones[p.tone] = .quarantined ⟨s.dev.rounds.number, some r, .ended, p.lastListen, false⟩ ∧
                  (s.dev.launch.contexts[p.ctx].state = .on → x.launch.contexts[p.ctx].state = .stopping)) ∧
                (∀ z, p.state = .grace → s.dev.tones[p.tone] = .quarantined z → z.holder = some r → z.status = .grace →
                  x.tones[p.tone] = .quarantined { z with status := .ended })))) ∧
          (((s.dev.slots[p.slot].desc.directoryBase = 0 ∧ ∀ hop ∈ p.record.hops, hop.loc ≠ e.sighting.loc) ∨
            (∃ h role power, s.dev.slots[p.slot].desc.directoryBase ≠ 0 ∧
              s.dev.areas[p.slot].lookup e.sighting.loc = some (.expect p.circuit h role power) ∧
              ∀ hop, p.record.hops[h]? = some hop →
                ¬(hop.loc = e.sighting.loc ∧ hop.role.code = role ∧ hop.powerCheck = power))) →
            x.probes = s.dev.probes ∧
            (e.sighting.level = none ∨ s.dev.slots[p.slot].generation ≠ p.generation → x.slots = s.dev.slots) ∧
            (e.sighting.level.isSome → s.dev.slots[p.slot].generation = p.generation →
              x.slots[p.slot].summary.unclassified = s.dev.slots[p.slot].summary.unclassified + 1#32)) ∧
          (∀ c h role power, s.dev.slots[p.slot].desc.directoryBase ≠ 0 → c ≠ p.circuit →
            s.dev.areas[p.slot].lookup e.sighting.loc = some (.expect c h role power) →
            x.slots = s.dev.slots ∧
            (e.sighting.level.isSome → p.cross = none → x.probes.records[r] = some { p with cross := some c }) ∧
            (e.sighting.level = none ∨ p.cross.isSome → x.probes = s.dev.probes)) ∧
          (s.dev.slots[p.slot].desc.directoryBase ≠ 0 →
            s.dev.areas[p.slot].lookup e.sighting.loc = some .nothing →
            x.slots = s.dev.slots ∧
            (e.sighting.level.isSome → p.misroute = none →
              x.probes.records[r] = some { p with misroute := some e.sighting.loc }) ∧
            (e.sighting.level = none ∨ p.misroute.isSome → x.probes = s.dev.probes)))) ∧
  (∀ (d : Device) (i : Nat) (e : QueueEntry), d.classifier.queue[i]? = some e →
    (e.sighting.source.isSome → depart i d = d.setQueue (d.classifier.queue.eraseIdx i)) ∧
    (e.sighting.source = none → depart i d = serveHolding (d.setQueue (d.classifier.queue.eraseIdx i)))) ∧
  (∀ d : Device, (∀ (i : Fin 4) (xs : List Sighting), d.taps.detectors[i] ≠ .holding xs) → serveHolding d = d) ∧
  (∀ (d : Device) (i : Fin 4) (xs : List Sighting), d.taps.detectors[i] = .holding xs →
    (∀ (j : Fin 4) (ys : List Sighting), j < i → d.taps.detectors[j] ≠ .holding ys) →
    (localRoom d < xs.length →
      serveHolding d = { d with
        classifier := { d.classifier with queue :=
          d.classifier.queue ++ (xs.take (localRoom d)).map (fun x => ⟨x, none, none⟩) }
        taps := { d.taps with detectors := d.taps.detectors.set i (.holding (xs.drop (localRoom d))) } }) ∧
    (xs.length ≤ localRoom d →
      (∀ ys, (serveHolding d).taps.detectors[i] ≠ .holding ys) ∧
      ∃ e, takesWork { d with
          classifier := { d.classifier with queue := d.classifier.queue ++ xs.map (fun x => ⟨x, none, none⟩) }
          taps := { d.taps with detectors := d.taps.detectors.set i .idle } } e i ∧
        e.classifier.queue = d.classifier.queue ++ xs.map (fun x => ⟨x, none, none⟩) ∧
        (∀ j : Fin 4, j ≠ i → e.taps.detectors[j] = d.taps.detectors[j]) ∧ serveHolding d = serveHolding e ∧
        ((∀ (j : Fin 4) (ys : List Sighting), j ≠ i → d.taps.detectors[j] ≠ .holding ys) → serveHolding d = e)))

/-- WALK_READ_DONE: each level's zero pointer or absent entry gives NONE, a good one the next read, a bad one a drain for
PLAN_ERROR with its journal entry; a result is filled and looked up again under its key, in the way that holds its tag, else
way A or B if invalid, else the way the index's toggle names, which then flips. A walk that ends frees its record and hands
its parked sightings back, oldest first, each judged again by its age, its memo and its tone before the answer is applied, and
a stalled entry is presented again. An answer at the probe's own hop offers the look, whose completion of the probe has the
verdict written and from LISTENING the context stopped; a counted sighting owes the counter write, which one whose completion
is to be discarded does not hold back (log entry 38, DESIGN CHOICE). What earlier means for a round exactly 2^31 from a
probe's first listening round is log entry 41 (DEDUCED; that the commands stand in `launch.issued` until the step's end
is log entry 7, DESIGN CHOICE; sections 4.6, 7.1, 7.3 to 7.6, 8.2 to 8.5). -/
def Obligations.WalkReadDone : Prop :=
  (∀ (a : Access) (w : Fin 4) (k : Walk) (b : List Byte) (s : State),
    awaited s.dev a isWalkRead → a.kind = .walkRead w → s.dev.walks[w] = some k → canAccess s.dev = true →
    ∃ d, exec (.walkReadDone a.tag (.bytes b)) s =
        .next { s with board := landed s.board a true, dev := settle d } ∧
      (k.state = .node → pointerOk s.dev.iface.bounds (u64 b 0) 256 = true →
        d.walks[w] = some { k with state := .port, portTable := u64 b 0 } ∧
        inFlight d (u64 b 0 + 8 * k.key.port.val) 8 (.walkRead w)) ∧
      (k.state = .port → pointerOk s.dev.iface.bounds (u64 b 0) 384 = true →
        d.walks[w] = some { k with state := .slot, slotTable := u64 b 0 } ∧
        inFlight d (u64 b 0 + 4 * k.key.slot.val) 4 (.walkRead w)) ∧
      (k.state = .slot → (word b 0).getLsbD 31 = true → slotEntryCircuit b < s.dev.slots[k.area].desc.count →
        d.walks[w] = some { k with state := .circuit, circuit := slotEntryCircuit b, hop := slotEntryHop b } ∧
        ((∀ addr, addr = s.dev.slots[k.area].desc.circuitBase + slotEntryCircuit b * 272 →
          inWindow s.dev.iface.bounds addr (16 + 16 * (slotEntryHop b + 1)) = true →
          inFlight d addr (16 + 16 * (slotEntryHop b + 1)) (.walkRead w)))) ∧
      ((k.state = .node ∨ k.state = .port) ∧ u64 b 0 = 0 ∨ k.state = .slot ∧ (word b 0).getLsbD 31 = false →
        (mayFill s.dev k = true → d.areas[k.area].lookup k.key = some .nothing) ∧
        endsWalk w (if s.dev.slots[k.area].generation = k.generation then some .nothing else none)
          (if mayFill s.dev k = true then { dropAccess s.dev a.tag with
            areas := s.dev.areas.set k.area (s.dev.areas[k.area].fill k.key .nothing) } else dropAccess s.dev a.tag) d) ∧
      (k.state = .circuit → k.hop < u8 b 7 → hopAt b k.hop k.key = true →
        (mayFill s.dev k = true → d.areas[k.area].lookup k.key =
          some (.expect k.circuit k.hop (byteAt b (19 + 16 * k.hop)) (bitAt b (20 + 16 * k.hop) 0))) ∧
        (mayFill s.dev k = false → d.areas = s.dev.areas) ∧
        ∀ ans, ans = Answer.expect k.circuit k.hop (byteAt b (19 + 16 * k.hop)) (bitAt b (20 + 16 * k.hop) 0) →
        endsWalk w (if s.dev.slots[k.area].generation = k.generation then some ans else none)
          (if mayFill s.dev k = true then { dropAccess s.dev a.tag with
            areas := s.dev.areas.set k.area (s.dev.areas[k.area].fill k.key ans) } else dropAccess s.dev a.tag) d) ∧
      (((k.state = .node ∧ u64 b 0 ≠ 0 ∧ pointerOk s.dev.iface.bounds (u64 b 0) 256 = false) ∨
        (k.state = .port ∧ u64 b 0 ≠ 0 ∧ pointerOk s.dev.iface.bounds (u64 b 0) 384 = false) ∨
        (k.state = .slot ∧ (word b 0).getLsbD 31 = true ∧ s.dev.slots[k.area].desc.count ≤ slotEntryCircuit b) ∨
        (k.state = .circuit ∧ (u8 b 7 ≤ k.hop ∨ hopAt b k.hop k.key = false))) →
        d.areas = s.dev.areas ∧
        (∃ e, planErrorOf k b e ∧ endsWalk w none
          (journalRequest e (some (.planError k.area.val)) (drainSlot k.area .planError (dropAccess s.dev a.tag))) d) ∧
        ((s.dev.slots[k.area].state = .running ∨ s.dev.slots[k.area].state = .suspended) →
          d.slots[k.area].state = .draining ∧ d.slots[k.area].reason = .planError))) ∧
  (∀ (x y : Area) (l : Location) (ans : Answer), y = x.fill l ans →
    y.sweep = x.sweep ∧ y.lookup l = some ans ∧
    ∃ (way : Nat) (flips : Bool),
      (hasTag l (x.way l 0) = true → way = 0 ∧ flips = false) ∧
      (hasTag l (x.way l 0) = false → hasTag l (x.way l 1) = true → way = 1 ∧ flips = false) ∧
      (hasTag l (x.way l 0) = false → hasTag l (x.way l 1) = false →
        (x.way l 0 = none → way = 0 ∧ flips = false) ∧
        ((x.way l 0).isSome → x.way l 1 = none → way = 1 ∧ flips = false) ∧
        ((x.way l 0).isSome → (x.way l 1).isSome → flips = true ∧
          way = (if x.toggles.getLsbD ((l.slot.val + 7 * l.port.val + 13 * l.node.val) % 64) then 1 else 0))) ∧
      Sparse.get y.entries (2 * ((l.slot.val + 7 * l.port.val + 13 * l.node.val) % 64) + way) = some ⟨l, ans⟩ ∧
      (∀ k, k ≠ 2 * ((l.slot.val + 7 * l.port.val + 13 * l.node.val) % 64) + way →
        Sparse.get y.entries k = Sparse.get x.entries k) ∧
      ∀ i, i < 64 → y.toggles.getLsbD i = (if flips = true ∧ i = (l.slot.val + 7 * l.port.val + 13 * l.node.val) % 64
        then !x.toggles.getLsbD i else x.toggles.getLsbD i)) ∧
  (∀ (w : Fin 4) (ans : Option Answer) (n : Nat) (d : Device), d.classifier.queue.length ≤ n →
    (∀ e ∈ (handBack w ans n d).classifier.queue, e.parked ≠ some w) ∧ (handBack w ans n d).walks = d.walks ∧
    (handBack w ans n d).areas = d.areas) ∧
  (∀ (w : Fin 4) (ans : Option Answer) (n i : Nat) (x : Sighting) (m : Memo) (d : Device),
    d.classifier.queue.findIdx? (fun e => e.parked == some w) = some i →
    d.classifier.queue[i]? = some ⟨x, some w, some m⟩ →
    handBack w ans (n + 1) d = handBack w ans n (depart i (applyHandedBack x m ans d))) ∧
  (∀ (x : Sighting) (m : Memo) (ans : Option Answer) (d y : Device), y = applyHandedBack x m ans d →
    y.classifier.queue = d.classifier.queue ∧
    (isStale d.rounds.number x.round = true →
      y.classifier = { d.classifier with stale := d.classifier.stale + 1#32 } ∧ y.probes = d.probes ∧ y.slots = d.slots) ∧
    (y.classifier ≠ d.classifier →
      writeShown d y .sightingCounters (boardAddr d 0x40) (sightingCounterBytes y.classifier)) ∧
    (isStale d.rounds.number x.round = false →
      ((d.slots[m.slot].generation = m.generation ∧ d.slots[m.slot].state = .draining) ∨
        (∃ p, d.probes.records[m.record] = some p ∧ p.state = .evaluating ∧ p.slot = m.slot ∧
          p.generation = m.generation ∧ p.circuit = m.circuit) →
        y = countSlot .late m.slot m.generation d) ∧
      ((d.slots[m.slot].generation ≠ m.generation ∨ d.slots[m.slot].state ≠ .draining) →
        (∀ p, d.probes.records[m.record] = some p → p.state ≠ .evaluating ∨ p.slot ≠ m.slot ∨
          p.generation ≠ m.generation ∨ p.circuit ≠ m.circuit) →
        (resolveTone d x = .lateTone →
          y.classifier = { d.classifier with lateTone := d.classifier.lateTone + 1#32 } ∧ y.probes = d.probes ∧
          y.slots = d.slots) ∧
        (resolveTone d x = .stray →
          y.classifier = { d.classifier with stray := d.classifier.stray + 1#32 } ∧ y.probes = d.probes ∧
          y.slots = d.slots) ∧
        (resolveTone d x = .silent → y = d) ∧
        (∀ r p, resolveTone d x = .probe r p →
          (r ≠ m.record ∨ p.slot ≠ m.slot ∨ p.generation ≠ m.generation ∨ p.circuit ≠ m.circuit →
            y.classifier = { d.classifier with lateTone := d.classifier.lateTone + 1#32 } ∧ y.probes = d.probes ∧
            y.slots = d.slots) ∧
          (m = ⟨r, p.slot, p.generation, p.circuit⟩ →
            (outsideWindow p x.round = true → d.slots[p.slot].state ≠ .draining → p.state ≠ .evaluating →
              y = countSlot .late p.slot p.generation d) ∧
            (checkProbe d x r p = .outOfReach p → y = countSlot .outOfReach p.slot p.generation d) ∧
            (checkProbe d x r p = .pass r p →
              (ans = none → y = countSlot .late m.slot m.generation d) ∧
              ∀ z, ans = some z → y = applyAnswer r p x z d)))))) ∧
  (∀ (r : Fin 16) (p : Probe) (h : Nat) (hop : Hop) (a : Accumulator) (x : Sighting) (d : Device),
    p.record.hops[h]? = some hop → p.accums[h]? = some a →
    (hop.loc = x.loc → applyAnswer r p x (.expect p.circuit h hop.role.code hop.powerCheck) d = offerLook r p h hop x d) ∧
    (lookIgnored a p.record.looks x = true → offerLook r p h hop x d = d) ∧
    (lookIgnored a p.record.looks x = false → ∀ q : Probe,
      q = { p with
        accums := p.accums.set h (a.accept hop p.record.depth x)
        leak := (if hop.role = .guarded ∧ x.level.isSome ∧ p.leak = none then some h else p.leak) } →
      (q.complete = false → (offerLook r p h hop x d).probes.records[r] = some q ∧
        (offerLook r p h hop x d).launch = d.launch ∧ (offerLook r p h hop x d).tones = d.tones) ∧
      (q.complete = true → evaluated d (offerLook r p h hop x d) r q ∧
        (p.state = .listening → stopsIssued d (offerLook r p h hop x d) (fun c => c = p.ctx) ∧
          (offerLook r p h hop x d).tones[p.tone] =
            .quarantined ⟨d.rounds.number, some r, .ended, p.lastListen, false⟩) ∧
        (p.state ≠ .listening → (offerLook r p h hop x d).launch.issued = d.launch.issued)))) ∧
  (∀ (kind : SlotCount) (n : Fin 8) (g : Half) (d : Device),
    (d.slots[n].generation ≠ g → countSlot kind n g d = d) ∧
    (d.slots[n].generation = g → countSlot kind n g d = { d with
      slots := d.slots.set n { d.slots[n] with summary := { d.slots[n].summary with
        lateDiscard := d.slots[n].summary.lateDiscard + (if kind = .late then 1#32 else 0#32)
        outOfReach := d.slots[n].summary.outOfReach + (if kind = .outOfReach then 1#32 else 0#32)
        unclassified := d.slots[n].summary.unclassified + (if kind = .unclassified then 1#32 else 0#32) } } }))

/-- SWEEP_STEP: one index a step, the last of 128 resets the toggles and frees a SWEEPING slot, which owes its shadow write; one
whose completion is to be discarded does not hold it back (log entry 38, DESIGN CHOICE; section 7.7). -/
def Obligations.SweepStep : Prop :=
  ∀ (n : Fin 8) (s : State),
    (s.dev.areas[n].sweep = none → exec (.sweepStep n) s = .next { s with dev := settle s.dev }) ∧
    (∀ k, s.dev.areas[n].sweep = some k → k < 127 →
      exec (.sweepStep n) s = .next { s with dev := settle (s.dev.setArea n { s.dev.areas[n] with
        entries := Sparse.erase s.dev.areas[n].entries k, sweep := some (k + 1) }) }) ∧
    (∀ k, s.dev.areas[n].sweep = some k → 127 ≤ k →
      ∃ d, exec (.sweepStep n) s = .next { s with dev := settle d } ∧
        d.areas[n].entries = Sparse.erase s.dev.areas[n].entries k ∧ d.areas[n].toggles = 0#64 ∧
        d.areas[n].sweep = none ∧
        d.slots[n].state = (if s.dev.slots[n].state = .sweeping then .free else s.dev.slots[n].state) ∧
        (s.dev.slots[n].state = .sweeping → shadowDue s.dev d n False) ∧
        d.slots[n].generation = s.dev.slots[n].generation ∧
        (∀ m : Fin 8, m ≠ n → d.areas[m] = s.dev.areas[m] ∧ d.slots[m] = s.dev.slots[m]))

/-! ### Hop power (9.4) -/

/-- The hop power: the mean of the valid powers to the nearest tenth, a half going down, NO_POWER without one or at a GUARD
hop, and always in −500..+200 in the verdict of accumulators whose powers are accepted looks' (R157). Around it, what an
accepted look leaves in its accumulator, the spread, the hop status, the margins and spans, the worst margin and its bin, the
path patterns, the finding flags, the primary code, the key hop and the bytes of the verdict record (sections 9.2, 9.3, 9.5 to
9.8 and 11.2). -/
def Obligations.HopPower : Prop :=
  (∀ (hop : Hop) (a : Accumulator),
    (hop.role = .guarded → hopPower hop a = none) ∧
    (validPowers a = [] → hopPower hop a = none) ∧
    (hop.role ≠ .guarded → validPowers a ≠ [] →
      ∃ ph n, hopPower hop a = some ph ∧ n = ((validPowers a).length : Int) ∧
        2 * (validPowers a).sum - n ≤ 2 * n * ph ∧ 2 * n * ph < 2 * (validPowers a).sum + n)) ∧
  roundedMean 85 2 = 42 ∧ roundedMean (-353) 2 = -177 ∧ roundedMean (-527) 3 = -176 ∧ roundedMean (-871) 3 = -290 ∧
  (∀ (hop : Hop) (a : Accumulator) (depth : Nat) (x : Sighting),
    (∀ v ∈ validPowers a, -500 ≤ v ∧ v ≤ 200) → ∀ v ∈ validPowers (a.accept hop depth x), -500 ≤ v ∧ v ≤ 200) ∧
  (∀ p : Probe, (∀ a ∈ p.accums, ∀ v ∈ validPowers a, -500 ≤ v ∧ v ≤ 200) →
    ∀ ph, some ph ∈ (evaluate p).powers → -500 ≤ ph ∧ ph ≤ 200) ∧
  (∀ (hop : Hop) (a b : Accumulator) (depth : Nat) (x : Sighting), b = a.accept hop depth x →
    b.looksDone = a.looksDone + 1 ∧ b.looksSeen = a.looksSeen + (if x.level.isSome then 1 else 0) ∧
    (∃ v, b.stored = a.stored ++ [⟨x.round, v⟩] ∧
      (x.level = none → v = .empty) ∧ (x.level = some 0 → v = .dark) ∧ (x.level = some 1023 → v = .over) ∧
      (∀ l, x.level = some l → l ≠ 0 → l ≠ 1023 →
        ((hop.role = .guarded ∨ hop.powerCheck = false ∨ x.capLevel = false) → v = .noLevel) ∧
        (hop.role ≠ .guarded → hop.powerCheck = true → x.capLevel = true →
          v = .power (max (-500) (min 200 ((l : Int) - 700 + x.loss +
            (if depth = 1 then 170 else if depth = 2 then 140 else 110)))) ∧
          (b.clamped = true ↔ a.clamped = true ∨
            ¬(-500 ≤ (l : Int) - 700 + x.loss + (if depth = 1 then 170 else if depth = 2 then 140 else 110) ∧
              (l : Int) - 700 + x.loss + (if depth = 1 then 170 else if depth = 2 then 140 else 110) ≤ 200))))) ∧
    (b.overload = true ↔ a.overload = true ∨ (x.level = some 1023 ∧ hop.role ≠ .guarded ∧ x.capLevel = true)) ∧
    (b.foundOnly = true ↔ a.foundOnly = true ∨ (x.level.isSome ∧ x.capEmpty = false))) ∧
  (∀ (hop : Hop) (a : Accumulator) (limit : Int), 0 ≤ limit →
    (spreadExceeded hop a limit = true ↔
      hop.role ≠ .guarded ∧ ∃ u ∈ validPowers a, ∃ v ∈ validPowers a, limit < u - v)) ∧
  (∀ (hop : Hop) (a : Accumulator) (looks : Nat), 0 < looks →
    (hop.role ≠ .guarded →
      (a.looksDone = looks → a.looksSeen = looks → hopStatus hop a looks = .present) ∧
      (a.looksDone = looks → 0 < a.looksSeen → a.looksSeen < looks → hopStatus hop a looks = .intermittent) ∧
      (a.looksDone = looks → a.looksSeen = 0 → hopStatus hop a looks = .missing) ∧
      (a.looksDone < looks → a.foundOnly = true → 0 < a.looksSeen → hopStatus hop a looks = .present) ∧
      (a.looksDone < looks → a.foundOnly = false ∨ a.looksSeen = 0 → hopStatus hop a looks = .unobserved)) ∧
    (hop.role = .guarded →
      (0 < a.looksSeen → hopStatus hop a looks = .leak) ∧
      (a.looksDone = looks → a.looksSeen = 0 → hopStatus hop a looks = .darkOk) ∧
      (a.looksDone ≠ looks → a.looksSeen = 0 → hopStatus hop a looks = .guardUnobserved))) ∧
  (∀ r : HopResult,
    (r.power = none → r.margin = none ∧ r.low = false ∧ r.high = false) ∧
    ∀ ph, r.power = some ph →
      r.margin = some (min (ph - (r.hop.expected - r.hop.tolLow)) ((r.hop.expected + r.hop.tolHigh) - ph)) ∧
      (r.low = true ↔ ph - (r.hop.expected - r.hop.tolLow) < 0) ∧
      (r.high = true ↔ (r.hop.expected + r.hop.tolHigh) - ph < 0) ∧
      (0 ≤ r.hop.tolLow → 0 ≤ r.hop.tolHigh → ¬(r.low = true ∧ r.high = true))) ∧
  (∀ (rs : List HopResult) (ps : List (Nat × Hop × Int)),
    (poweredHops rs).map (·.1) = (rs.filter (·.power.isSome)).map (·.number) ∧
    (∀ i hop ph, (i, hop, ph) ∈ poweredHops rs ↔ ∃ r ∈ rs, r.number = i ∧ r.hop = hop ∧ r.power = some ph) ∧
    (spansOf ps).length = ps.length - 1 ∧
    (∀ (k i j : Nat) (hi hj : Hop) (pi pj : Int), ps[k]? = some (i, hi, pi) → ps[k + 1]? = some (j, hj, pj) →
      (spansOf ps)[k]? = some ⟨j, pi - pj, hj.budget, hj.gain⟩)) ∧
  (∀ x : Span, x.margin = min (x.budget - x.loss) (x.loss + x.gain) ∧ (x.tooMuchLoss = true ↔ x.budget < x.loss) ∧
    (x.tooMuchGain = true ↔ x.loss < -x.gain)) ∧
  (∀ (rs : List HopResult) (all : List Int),
    all = rs.filterMap HopResult.margin ++ (spansOf (poweredHops rs)).map Span.margin →
    (worstMargin rs = none ↔ all = []) ∧
    ∀ m, worstMargin rs = some m → ∃ x ∈ all, m = max (-999) (min 999 x) ∧ ∀ y ∈ all, x ≤ y) ∧
  (∀ m : Int, (m < 0 → marginBin m = 0) ∧ (140 ≤ m → marginBin m = 15) ∧
    (∀ k : Nat, 1 ≤ k → k ≤ 14 → 10 * ((k : Int) - 1) ≤ m → m ≤ 10 * ((k : Int) - 1) + 9 → (marginBin m).val = k)) ∧
  (∀ rs : List HopResult, (rs.map (·.number)).Pairwise (· < ·) →
    (pathBroken rs = true ↔ ∃ r ∈ rs, r.status = .missing ∧ ∀ x ∈ rs, (x.number < r.number → x.status ≠ .missing) ∧
      (r.number < x.number → x.hop.role ≠ .guarded → x.status = .missing ∨ x.status = .unobserved)) ∧
    (pathGap rs = true ↔ ∃ r ∈ rs, r.status = .missing ∧ ∃ x ∈ rs, r.number < x.number ∧
      (x.status = .present ∨ x.status = .intermittent)) ∧
    (pathIncomplete rs = true ↔ ∃ x ∈ rs, (x.status = .unobserved ∨ x.status = .guardUnobserved) ∧
      ∀ r ∈ rs, r.status = .missing → x.number < r.number)) ∧
  (∀ f : Findings, f.primary.val = [f.planError, f.launchFault, f.crossed, f.misrouted, f.broken, f.leak, f.gap,
    f.incomplete, f.unsteady, f.low || f.high || f.spanLoss || f.spanGain || f.overload].findIdx id) ∧
  (∀ (code : Fin 12) (p : Probe) (rs : List HopResult), (rs.map (·.number)).Pairwise (· < ·) →
    (code.val < 4 ∨ 9 < code.val → keyHop code p rs = 15) ∧ (code = 5 → keyHop code p rs = p.leak.getD 15) ∧
    (∀ r ∈ rs, keyMark code rs r → (∀ x ∈ rs, keyMark code rs x → r.number ≤ x.number) →
      (code = 4 ∨ (6 ≤ code.val ∧ code.val ≤ 9)) → keyHop code p rs = r.number)) ∧
  (∀ (p : Probe) (rs : List HopResult) (v : Verdict), rs = hopResults p → v = evaluate p →
    rs.map (·.number) = List.range (min p.record.hops.length p.accums.length) ∧
    (∀ (k : Nat) (r : HopResult), rs[k]? = some r → p.record.hops[k]? = some r.hop ∧ ∃ a, p.accums[k]? = some a ∧
      r.status = hopStatus r.hop a p.record.looks ∧ r.power = hopPower r.hop a ∧ r.overload = a.overload ∧
      r.clamped = a.clamped ∧
      (r.unsteady = true ↔ spreadExceeded r.hop a p.record.spread = true ∨ r.status = .intermittent)) ∧
    v.circuitId = p.record.id ∧ v.generation = p.generation ∧ v.cause = p.launchFault ∧ v.listenFrom = p.listenFrom ∧
    v.roundsListened = p.roundsListened ∧ v.voids = p.voids ∧ v.cross = p.cross ∧ v.misroute = p.misroute ∧
    v.leak = p.leak ∧ v.statuses = rs.map (·.status) ∧ v.powers = rs.map (·.power) ∧ v.margin = worstMargin rs ∧
    v.code = v.findings.primary ∧ v.keyHop = keyHop v.code p rs ∧ v.findings.planError = false ∧
    v.findings.launchFault = p.launchFault.isSome ∧ v.findings.crossed = p.cross.isSome ∧
    v.findings.misrouted = p.misroute.isSome ∧ v.findings.broken = pathBroken rs ∧ v.findings.leak = p.leak.isSome ∧
    v.findings.gap = pathGap rs ∧ v.findings.incomplete = pathIncomplete rs ∧
    (v.findings.unsteady = true ↔ ∃ r ∈ rs, r.unsteady = true) ∧
    (v.findings.intermittent = true ↔ ∃ r ∈ rs, r.status = .intermittent) ∧
    (v.findings.low = true ↔ ∃ r ∈ rs, r.low = true) ∧ (v.findings.high = true ↔ ∃ r ∈ rs, r.high = true) ∧
    (v.findings.spanLoss = true ↔ ∃ x ∈ spansOf (poweredHops rs), x.tooMuchLoss = true) ∧
    (v.findings.spanGain = true ↔ ∃ x ∈ spansOf (poweredHops rs), x.tooMuchGain = true) ∧
    (v.findings.overload = true ↔ ∃ r ∈ rs, r.overload = true) ∧
    (v.findings.clamped = true ↔ ∃ r ∈ rs, r.clamped = true)) ∧
  (∀ (v : Verdict) (b : List Byte), b = verdictBytes v →
    b.length = 64 ∧ word b 0 = v.circuitId ∧ half b 4 = v.generation ∧ u8 b 6 = v.code.val ∧
    (v.keyHop < 16 → v.leak.getD 15 < 16 → u8 b 7 % 16 = v.keyHop ∧ u8 b 7 / 16 = v.leak.getD 15) ∧
    (∀ k, k < 16 → [v.findings.planError, v.findings.launchFault, v.findings.crossed, v.findings.misrouted,
      v.findings.broken, v.findings.leak, v.findings.gap, v.findings.incomplete, v.findings.unsteady,
      v.findings.intermittent, v.findings.low, v.findings.high, v.findings.spanLoss, v.findings.spanGain,
      v.findings.overload, v.findings.clamped][k]? = some ((half b 8).getLsbD k)) ∧
    (v.roundsListened < 64 → u8 b 0x0A % 4 = (v.cause.map LaunchCause.code).getD 0 ∧
      u8 b 0x0A / 4 = v.roundsListened) ∧
    (v.voids < 256 → u8 b 0x0B = v.voids) ∧ (v.margin = none → s16 b 0x0C = -32768) ∧
    (∀ m, v.margin = some m → -999 ≤ m → m ≤ 999 → s16 b 0x0C = m) ∧
    (∀ c, v.cross.getD 0 = c → c < 65536 → u16 b 0x0E = c) ∧ word b 0x10 = v.listenFrom.getD 0#32 ∧
    (∀ l, v.misroute.getD Location.zero = l →
      u8 b 0x14 = l.node.val ∧ u8 b 0x15 = l.port.val ∧ u8 b 0x16 = l.slot.val) ∧ u8 b 0x17 = 0 ∧
    (∀ h, h < 8 → u8 b (0x18 + h) % 16 = (v.statuses.getD (2 * h) .noHop).code ∧
      u8 b (0x18 + h) / 16 = (v.statuses.getD (2 * h + 1) .noHop).code) ∧
    (∀ h, h < 16 → (v.powers.getD h none = none → s16 b (0x20 + 2 * h) = -32768) ∧
      ∀ ph, v.powers.getD h none = some ph → -500 ≤ ph → ph ≤ 200 → s16 b (0x20 + 2 * h) = ph))

/-! ### What every step keeps -/

/-- Every step keeps the bytes the part has written in their canonical form, which is the model's own way of holding them (log
entry 4, DESIGN CHOICE). -/
def Obligations.EveryStepKeepsBoardForm : Prop :=
  ∀ s t : State, boardLaw s → step s = .next t → boardLaw t

/-- Every step keeps the credit law: pool, lent and withdrawn-pending credit make 64, and each peer's lent credit is a
multiple of 4 in 0..64; and together with the bounds on reserves and targets, that no peer's sightings in the queue pass
R_p + L_p + W_p (sections 6.3, 6.6 and 6.7). -/
def Obligations.EveryStepKeepsCredit : Prop :=
  (∀ s t : State, creditLaw s.dev → lentLaw s.dev → step s = .next t → creditLaw t.dev ∧ lentLaw t.dev) ∧
  (∀ s t : State, peerLaw s.dev → reserveLaw s.dev → heldLaw s.dev → step s = .next t →
    peerLaw t.dev ∧ reserveLaw t.dev ∧ heldLaw t.dev)

/-- Every step keeps the hold queue within 32 sightings, the journal's request list within 16 requests and the local share
within 64 sightings; with the credit laws the sighting queue never holds more than 256 (sections 5.8, 6.8, 8.1 and 10.1). -/
def Obligations.EveryStepKeepsQueueBounds : Prop :=
  (∀ s t : State, holdLaw s.dev → requestLaw s.dev → step s = .next t → holdLaw t.dev ∧ requestLaw t.dev) ∧
  (∀ s t : State, localLaw s.dev → step s = .next t → localLaw t.dev) ∧
  (∀ d : Device, creditLaw d → localLaw d → peerLaw d → reserveLaw d → d.classifier.queue.length ≤ 256)

/-- Every step keeps the device state laws: no start in progress while RUNNING or FAULTED; RUN clear and no scan timer while
FAULTED; in every summary the primary-code counts sum to verdicts written; no launch bus command issued in a step waits at its
end to be put on the bus (where such commands stand is the model's own field, log entry 7, DESIGN CHOICE); each context has at
most one command queued or awaiting its reply (a reply ends a command not yet sent: log entry 39, DESIGN CHOICE). It keeps the
law of R62, that no two launched probes share a tone, a launch context or a launch point they hold, together with what that law rests
on: a context's owner and its probe agree, tones and points in use are distinct and none is stuck, stuck list and contexts in
use never pass 8, and a verdict write in flight is of a probe in EVALUATING. And it keeps an LTB area's entries at their
index, no tag twice (sections 1.1, 1.2, 1.4, 4.3 to 4.6, 7.4 and 9.8). -/
def Obligations.EveryStepKeepsDeviceLaws : Prop :=
  (∀ s t : State, startLaw s.dev → faultedLaw s.dev → step s = .next t → startLaw t.dev ∧ faultedLaw t.dev) ∧
  (∀ s t : State, summaryLaw s.dev → step s = .next t → summaryLaw t.dev) ∧
  (∀ s t : State, issuedLaw s.dev → step s = .next t → issuedLaw t.dev) ∧
  (∀ s t : State, busLaw s.dev → step s = .next t → busLaw t.dev) ∧
  (∀ s t : State, startLaw s.dev → probeLaw s.dev → contextLaw s.dev → ownerLaw s.dev → toneLaw s.dev → pointLaw s.dev →
    stuckLaw s.dev → verdictLaw s.dev → step s = .next t →
    probeLaw t.dev ∧ contextLaw t.dev ∧ ownerLaw t.dev ∧ toneLaw t.dev ∧ pointLaw t.dev ∧ stuckLaw t.dev ∧
      verdictLaw t.dev) ∧
  (∀ s t : State, areaLaw s.dev → step s = .next t → areaLaw t.dev)

/-- The state after reset meets every law the steps keep. -/
def Obligations.ResetMeetsLaws : Prop :=
  boardLaw State.reset ∧ creditLaw State.reset.dev ∧ lentLaw State.reset.dev ∧ holdLaw State.reset.dev ∧
    requestLaw State.reset.dev ∧ startLaw State.reset.dev ∧ faultedLaw State.reset.dev ∧ localLaw State.reset.dev ∧
    heldLaw State.reset.dev ∧ peerLaw State.reset.dev ∧ reserveLaw State.reset.dev ∧ summaryLaw State.reset.dev ∧
    issuedLaw State.reset.dev ∧ busLaw State.reset.dev ∧ probeLaw State.reset.dev ∧ contextLaw State.reset.dev ∧
    ownerLaw State.reset.dev ∧ toneLaw State.reset.dev ∧ pointLaw State.reset.dev ∧ stuckLaw State.reset.dev ∧
    verdictLaw State.reset.dev ∧ areaLaw State.reset.dev
end

