-- ==== Sys2Proof/Laws/Memory.lean ====
section
/-! SUPPORT. The laws of the canonical lists: a read after a write gives the value written and leaves every other key alone,
and every operation keeps the keys strictly rising; the same of the board bytes. -/

namespace Sys2Proof.Machine

variable {α : Type}

/-- What a put lists under every key. -/
theorem Sparse.get_put (l : List (Nat × α)) (q j : Nat) (x : α) :
    Sparse.get (Sparse.put l q x) j = if j = q then some x else Sparse.get l j := by
  induction l with
  | nil => simp [Sparse.put, Sparse.get]
  | cons e rest ih =>
    obtain ⟨k, v⟩ := e
    unfold Sparse.put
    split
    · simp only [Sparse.get]
    · split
      · subst_vars; simp only [Sparse.get]; split <;> simp_all
      · simp only [Sparse.get, ih]
        by_cases h1 : j = k
        · subst h1; simp_all [eq_comm]
        · simp [h1]

/-- An erase leaves every other key alone. -/
theorem Sparse.get_erase_ne (l : List (Nat × α)) (q j : Nat) (h : j ≠ q) :
    Sparse.get (Sparse.erase l q) j = Sparse.get l j := by
  induction l with
  | nil => rfl
  | cons e rest ih =>
    obtain ⟨k, v⟩ := e
    unfold Sparse.erase
    split
    · subst_vars; simp [Sparse.get, h]
    · simp [Sparse.get, ih]

/-- Every key of a list is above a bound. -/
def Sparse.above (b : Nat) (l : List (Nat × α)) : Prop := ∀ e ∈ l, b < e.1

theorem Sparse.rising_cons (k : Nat) (v : α) (l : List (Nat × α)) :
    Sparse.rising ((k, v) :: l) = true ↔ Sparse.above k l ∧ Sparse.rising l = true := by
  induction l generalizing k v with
  | nil => simp [Sparse.rising, Sparse.above]
  | cons e rest ih =>
    obtain ⟨j, w⟩ := e
    simp only [Sparse.rising, Bool.and_eq_true, decide_eq_true_eq, Sparse.above, List.mem_cons, forall_eq_or_imp]
    constructor
    · rintro ⟨h1, h2⟩
      exact ⟨⟨h1, fun e he => Nat.lt_trans h1 ((ih j w).1 h2 |>.1 e he)⟩, h2⟩
    · rintro ⟨⟨h1, _⟩, h2⟩; exact ⟨h1, h2⟩

theorem Sparse.above_put (b : Nat) (l : List (Nat × α)) (q : Nat) (x : α) (h : Sparse.above b l) (hq : b < q) :
    Sparse.above b (Sparse.put l q x) := by
  induction l with
  | nil => intro e he; simp [Sparse.put] at he; simp [he, hq]
  | cons e rest ih =>
    obtain ⟨k, v⟩ := e
    have hk : b < k := h (k, v) (by simp)
    have hr : Sparse.above b rest := fun e he => h e (by simp [he])
    unfold Sparse.put
    split
    · intro e he
      simp only [List.mem_cons] at he
      rcases he with rfl | rfl | he
      exacts [hq, hk, hr e he]
    · split
      · intro e he
        simp only [List.mem_cons] at he
        rcases he with rfl | he
        exacts [hk, hr e he]
      · intro e he
        simp only [List.mem_cons] at he
        rcases he with rfl | he
        exacts [hk, ih hr e he]

/-- A put keeps the canonical form. -/
theorem Sparse.rising_put (l : List (Nat × α)) (q : Nat) (x : α) (h : Sparse.rising l = true) :
    Sparse.rising (Sparse.put l q x) = true := by
  induction l with
  | nil => rfl
  | cons e rest ih =>
    obtain ⟨k, v⟩ := e
    obtain ⟨h1, h2⟩ := (Sparse.rising_cons k v rest).1 h
    unfold Sparse.put
    split
    · rename_i hq
      rw [Sparse.rising_cons]
      refine ⟨fun e he => ?_, h⟩
      simp only [List.mem_cons] at he
      rcases he with rfl | he
      exacts [hq, Nat.lt_trans hq (h1 e he)]
    · split
      · rw [Sparse.rising_cons]; exact ⟨h1, h2⟩
      · rw [Sparse.rising_cons]
        exact ⟨Sparse.above_put k rest q x h1 (by omega), ih h2⟩

theorem Sparse.above_erase (b : Nat) (l : List (Nat × α)) (q : Nat) (h : Sparse.above b l) :
    Sparse.above b (Sparse.erase l q) := by
  induction l with
  | nil => exact h
  | cons e rest ih =>
    obtain ⟨k, v⟩ := e
    have hr : Sparse.above b rest := fun e he => h e (by simp [he])
    unfold Sparse.erase
    split
    · exact hr
    · intro e he
      simp only [List.mem_cons] at he
      rcases he with rfl | he
      exacts [h (k, v) (by simp), ih hr e he]

/-- An erase keeps the canonical form. -/
theorem Sparse.rising_erase (l : List (Nat × α)) (q : Nat) (h : Sparse.rising l = true) :
    Sparse.rising (Sparse.erase l q) = true := by
  induction l with
  | nil => rfl
  | cons e rest ih =>
    obtain ⟨k, v⟩ := e
    obtain ⟨h1, h2⟩ := (Sparse.rising_cons k v rest).1 h
    unfold Sparse.erase
    split
    · exact h2
    · rw [Sparse.rising_cons]
      exact ⟨Sparse.above_erase k rest q h1, ih h2⟩

/-- A key erased from a canonical list is listed no more. -/
theorem Sparse.get_erase (l : List (Nat × α)) (q : Nat) (h : Sparse.rising l = true) :
    Sparse.get (Sparse.erase l q) q = none := by
  have low : ∀ (l : List (Nat × α)) (b : Nat), Sparse.above b l → Sparse.get l b = none := by
    intro l b hb
    induction l with
    | nil => rfl
    | cons e rest ih =>
      obtain ⟨k, v⟩ := e
      have hk : b < k := hb (k, v) (by simp)
      simp [Sparse.get, Nat.ne_of_lt hk, ih (fun e he => hb e (by simp [he]))]
  induction l with
  | nil => rfl
  | cons e rest ih =>
    obtain ⟨k, v⟩ := e
    obtain ⟨h1, h2⟩ := (Sparse.rising_cons k v rest).1 h
    unfold Sparse.erase
    split
    · subst_vars; exact low rest _ h1
    · rename_i hq; simp [Sparse.get, hq, ih h2]

/-! ### Board bytes -/

/-- The byte read after a write: the one written inside its extent, and the old one outside. -/
theorem Memory.read_write (m : List Host.Cell) (a : Nat) (bs : List Byte) (j : Nat) :
    Memory.read (Memory.write m a bs) j =
      if a ≤ j ∧ j < a + bs.length then bs[j - a]? else Memory.read m j := by
  induction bs generalizing m a with
  | nil => simp [Memory.write]
  | cons b bs ih =>
    rw [Memory.write, ih]
    simp only [Memory.read, Sparse.get_put, List.length_cons]
    by_cases h1 : a + 1 ≤ j ∧ j < a + 1 + bs.length
    · have h2 : a ≤ j ∧ j < a + (bs.length + 1) := by omega
      have h3 : j - a = (j - (a + 1)) + 1 := by omega
      simp only [h1, h2, h3, and_self, if_true, List.getElem?_cons_succ]
    · by_cases h4 : j = a
      · subst h4; simp
      · have h2 : ¬(a ≤ j ∧ j < a + (bs.length + 1)) := by omega
        simp only [h1, h2, h4, if_false]

/-- A write keeps the canonical form. -/
theorem Memory.wf_write (m : List Host.Cell) (a : Nat) (bs : List Byte) (h : Memory.wf m = true) :
    Memory.wf (Memory.write m a bs) = true := by
  induction bs generalizing m a with
  | nil => exact h
  | cons b bs ih => exact ih _ _ (Sparse.rising_put m a b h)

/-- The board memory at reset has the canonical form. -/
theorem Memory.wf_reset : Memory.wf State.reset.board = true := rfl

end Sys2Proof.Machine
end

