-- ==== Sys2Proof/Laws/State.lean ====
section
/-! SUPPORT. One lemma per field per update of the device, true by `rfl`, so that no later proof unfolds a record update; the
reading back of each indexed part; and the frames of `raise`. -/

namespace Sys2Proof.Machine

@[simp] theorem Device.setSlot_now (d : Device) (n : Fin 8) (x : Slot) : (d.setSlot n x).now = d.now := rfl
@[simp] theorem Device.setSlot_fuses (d : Device) (n : Fin 8) (x : Slot) : (d.setSlot n x).fuses = d.fuses := rfl
@[simp] theorem Device.setSlot_regs (d : Device) (n : Fin 8) (x : Slot) : (d.setSlot n x).regs = d.regs := rfl
@[simp] theorem Device.setSlot_iface (d : Device) (n : Fin 8) (x : Slot) : (d.setSlot n x).iface = d.iface := rfl
@[simp] theorem Device.setSlot_identity (d : Device) (n : Fin 8) (x : Slot) : (d.setSlot n x).identity = d.identity := rfl
@[simp] theorem Device.setSlot_sched (d : Device) (n : Fin 8) (x : Slot) : (d.setSlot n x).sched = d.sched := rfl
@[simp] theorem Device.setSlot_windows (d : Device) (n : Fin 8) (x : Slot) : (d.setSlot n x).windows = d.windows := rfl
@[simp] theorem Device.setSlot_rounds (d : Device) (n : Fin 8) (x : Slot) : (d.setSlot n x).rounds = d.rounds := rfl
@[simp] theorem Device.setSlot_probes (d : Device) (n : Fin 8) (x : Slot) : (d.setSlot n x).probes = d.probes := rfl
@[simp] theorem Device.setSlot_launch (d : Device) (n : Fin 8) (x : Slot) : (d.setSlot n x).launch = d.launch := rfl
@[simp] theorem Device.setSlot_tones (d : Device) (n : Fin 8) (x : Slot) : (d.setSlot n x).tones = d.tones := rfl
@[simp] theorem Device.setSlot_taps (d : Device) (n : Fin 8) (x : Slot) : (d.setSlot n x).taps = d.taps := rfl
@[simp] theorem Device.setSlot_lead (d : Device) (n : Fin 8) (x : Slot) : (d.setSlot n x).lead = d.lead := rfl
@[simp] theorem Device.setSlot_follower (d : Device) (n : Fin 8) (x : Slot) : (d.setSlot n x).follower = d.follower := rfl
@[simp] theorem Device.setSlot_framer (d : Device) (n : Fin 8) (x : Slot) : (d.setSlot n x).framer = d.framer := rfl
@[simp] theorem Device.setSlot_areas (d : Device) (n : Fin 8) (x : Slot) : (d.setSlot n x).areas = d.areas := rfl
@[simp] theorem Device.setSlot_walks (d : Device) (n : Fin 8) (x : Slot) : (d.setSlot n x).walks = d.walks := rfl
@[simp] theorem Device.setSlot_classifier (d : Device) (n : Fin 8) (x : Slot) : (d.setSlot n x).classifier = d.classifier := rfl
@[simp] theorem Device.setSlot_journal (d : Device) (n : Fin 8) (x : Slot) : (d.setSlot n x).journal = d.journal := rfl
@[simp] theorem Device.setSlot_dma (d : Device) (n : Fin 8) (x : Slot) : (d.setSlot n x).dma = d.dma := rfl

@[simp] theorem Device.setSched_now (d : Device) (n : Fin 8) (x : SlotSchedule) : (d.setSched n x).now = d.now := rfl
@[simp] theorem Device.setSched_fuses (d : Device) (n : Fin 8) (x : SlotSchedule) : (d.setSched n x).fuses = d.fuses := rfl
@[simp] theorem Device.setSched_regs (d : Device) (n : Fin 8) (x : SlotSchedule) : (d.setSched n x).regs = d.regs := rfl
@[simp] theorem Device.setSched_iface (d : Device) (n : Fin 8) (x : SlotSchedule) : (d.setSched n x).iface = d.iface := rfl
@[simp] theorem Device.setSched_identity (d : Device) (n : Fin 8) (x : SlotSchedule) : (d.setSched n x).identity = d.identity := rfl
@[simp] theorem Device.setSched_slots (d : Device) (n : Fin 8) (x : SlotSchedule) : (d.setSched n x).slots = d.slots := rfl
@[simp] theorem Device.setSched_windows (d : Device) (n : Fin 8) (x : SlotSchedule) : (d.setSched n x).windows = d.windows := rfl
@[simp] theorem Device.setSched_rounds (d : Device) (n : Fin 8) (x : SlotSchedule) : (d.setSched n x).rounds = d.rounds := rfl
@[simp] theorem Device.setSched_probes (d : Device) (n : Fin 8) (x : SlotSchedule) : (d.setSched n x).probes = d.probes := rfl
@[simp] theorem Device.setSched_launch (d : Device) (n : Fin 8) (x : SlotSchedule) : (d.setSched n x).launch = d.launch := rfl
@[simp] theorem Device.setSched_tones (d : Device) (n : Fin 8) (x : SlotSchedule) : (d.setSched n x).tones = d.tones := rfl
@[simp] theorem Device.setSched_taps (d : Device) (n : Fin 8) (x : SlotSchedule) : (d.setSched n x).taps = d.taps := rfl
@[simp] theorem Device.setSched_lead (d : Device) (n : Fin 8) (x : SlotSchedule) : (d.setSched n x).lead = d.lead := rfl
@[simp] theorem Device.setSched_follower (d : Device) (n : Fin 8) (x : SlotSchedule) : (d.setSched n x).follower = d.follower := rfl
@[simp] theorem Device.setSched_framer (d : Device) (n : Fin 8) (x : SlotSchedule) : (d.setSched n x).framer = d.framer := rfl
@[simp] theorem Device.setSched_areas (d : Device) (n : Fin 8) (x : SlotSchedule) : (d.setSched n x).areas = d.areas := rfl
@[simp] theorem Device.setSched_walks (d : Device) (n : Fin 8) (x : SlotSchedule) : (d.setSched n x).walks = d.walks := rfl
@[simp] theorem Device.setSched_classifier (d : Device) (n : Fin 8) (x : SlotSchedule) : (d.setSched n x).classifier = d.classifier := rfl
@[simp] theorem Device.setSched_journal (d : Device) (n : Fin 8) (x : SlotSchedule) : (d.setSched n x).journal = d.journal := rfl
@[simp] theorem Device.setSched_dma (d : Device) (n : Fin 8) (x : SlotSchedule) : (d.setSched n x).dma = d.dma := rfl

@[simp] theorem Device.setPlace_now (d : Device) (n : Fin 8) (p : Fin 2) (x : Place) : (d.setPlace n p x).now = d.now := rfl
@[simp] theorem Device.setPlace_fuses (d : Device) (n : Fin 8) (p : Fin 2) (x : Place) : (d.setPlace n p x).fuses = d.fuses := rfl
@[simp] theorem Device.setPlace_regs (d : Device) (n : Fin 8) (p : Fin 2) (x : Place) : (d.setPlace n p x).regs = d.regs := rfl
@[simp] theorem Device.setPlace_iface (d : Device) (n : Fin 8) (p : Fin 2) (x : Place) : (d.setPlace n p x).iface = d.iface := rfl
@[simp] theorem Device.setPlace_identity (d : Device) (n : Fin 8) (p : Fin 2) (x : Place) : (d.setPlace n p x).identity = d.identity := rfl
@[simp] theorem Device.setPlace_slots (d : Device) (n : Fin 8) (p : Fin 2) (x : Place) : (d.setPlace n p x).slots = d.slots := rfl
@[simp] theorem Device.setPlace_windows (d : Device) (n : Fin 8) (p : Fin 2) (x : Place) : (d.setPlace n p x).windows = d.windows := rfl
@[simp] theorem Device.setPlace_rounds (d : Device) (n : Fin 8) (p : Fin 2) (x : Place) : (d.setPlace n p x).rounds = d.rounds := rfl
@[simp] theorem Device.setPlace_probes (d : Device) (n : Fin 8) (p : Fin 2) (x : Place) : (d.setPlace n p x).probes = d.probes := rfl
@[simp] theorem Device.setPlace_launch (d : Device) (n : Fin 8) (p : Fin 2) (x : Place) : (d.setPlace n p x).launch = d.launch := rfl
@[simp] theorem Device.setPlace_tones (d : Device) (n : Fin 8) (p : Fin 2) (x : Place) : (d.setPlace n p x).tones = d.tones := rfl
@[simp] theorem Device.setPlace_taps (d : Device) (n : Fin 8) (p : Fin 2) (x : Place) : (d.setPlace n p x).taps = d.taps := rfl
@[simp] theorem Device.setPlace_lead (d : Device) (n : Fin 8) (p : Fin 2) (x : Place) : (d.setPlace n p x).lead = d.lead := rfl
@[simp] theorem Device.setPlace_follower (d : Device) (n : Fin 8) (p : Fin 2) (x : Place) : (d.setPlace n p x).follower = d.follower := rfl
@[simp] theorem Device.setPlace_framer (d : Device) (n : Fin 8) (p : Fin 2) (x : Place) : (d.setPlace n p x).framer = d.framer := rfl
@[simp] theorem Device.setPlace_areas (d : Device) (n : Fin 8) (p : Fin 2) (x : Place) : (d.setPlace n p x).areas = d.areas := rfl
@[simp] theorem Device.setPlace_walks (d : Device) (n : Fin 8) (p : Fin 2) (x : Place) : (d.setPlace n p x).walks = d.walks := rfl
@[simp] theorem Device.setPlace_classifier (d : Device) (n : Fin 8) (p : Fin 2) (x : Place) : (d.setPlace n p x).classifier = d.classifier := rfl
@[simp] theorem Device.setPlace_journal (d : Device) (n : Fin 8) (p : Fin 2) (x : Place) : (d.setPlace n p x).journal = d.journal := rfl
@[simp] theorem Device.setPlace_dma (d : Device) (n : Fin 8) (p : Fin 2) (x : Place) : (d.setPlace n p x).dma = d.dma := rfl

@[simp] theorem Device.setWindow_now (d : Device) (w : Fin 4) (x : Window) : (d.setWindow w x).now = d.now := rfl
@[simp] theorem Device.setWindow_fuses (d : Device) (w : Fin 4) (x : Window) : (d.setWindow w x).fuses = d.fuses := rfl
@[simp] theorem Device.setWindow_regs (d : Device) (w : Fin 4) (x : Window) : (d.setWindow w x).regs = d.regs := rfl
@[simp] theorem Device.setWindow_iface (d : Device) (w : Fin 4) (x : Window) : (d.setWindow w x).iface = d.iface := rfl
@[simp] theorem Device.setWindow_identity (d : Device) (w : Fin 4) (x : Window) : (d.setWindow w x).identity = d.identity := rfl
@[simp] theorem Device.setWindow_slots (d : Device) (w : Fin 4) (x : Window) : (d.setWindow w x).slots = d.slots := rfl
@[simp] theorem Device.setWindow_sched (d : Device) (w : Fin 4) (x : Window) : (d.setWindow w x).sched = d.sched := rfl
@[simp] theorem Device.setWindow_rounds (d : Device) (w : Fin 4) (x : Window) : (d.setWindow w x).rounds = d.rounds := rfl
@[simp] theorem Device.setWindow_probes (d : Device) (w : Fin 4) (x : Window) : (d.setWindow w x).probes = d.probes := rfl
@[simp] theorem Device.setWindow_launch (d : Device) (w : Fin 4) (x : Window) : (d.setWindow w x).launch = d.launch := rfl
@[simp] theorem Device.setWindow_tones (d : Device) (w : Fin 4) (x : Window) : (d.setWindow w x).tones = d.tones := rfl
@[simp] theorem Device.setWindow_taps (d : Device) (w : Fin 4) (x : Window) : (d.setWindow w x).taps = d.taps := rfl
@[simp] theorem Device.setWindow_lead (d : Device) (w : Fin 4) (x : Window) : (d.setWindow w x).lead = d.lead := rfl
@[simp] theorem Device.setWindow_follower (d : Device) (w : Fin 4) (x : Window) : (d.setWindow w x).follower = d.follower := rfl
@[simp] theorem Device.setWindow_framer (d : Device) (w : Fin 4) (x : Window) : (d.setWindow w x).framer = d.framer := rfl
@[simp] theorem Device.setWindow_areas (d : Device) (w : Fin 4) (x : Window) : (d.setWindow w x).areas = d.areas := rfl
@[simp] theorem Device.setWindow_walks (d : Device) (w : Fin 4) (x : Window) : (d.setWindow w x).walks = d.walks := rfl
@[simp] theorem Device.setWindow_classifier (d : Device) (w : Fin 4) (x : Window) : (d.setWindow w x).classifier = d.classifier := rfl
@[simp] theorem Device.setWindow_journal (d : Device) (w : Fin 4) (x : Window) : (d.setWindow w x).journal = d.journal := rfl
@[simp] theorem Device.setWindow_dma (d : Device) (w : Fin 4) (x : Window) : (d.setWindow w x).dma = d.dma := rfl

@[simp] theorem Device.setRecord_now (d : Device) (r : Fin 16) (x : Option Probe) : (d.setRecord r x).now = d.now := rfl
@[simp] theorem Device.setRecord_fuses (d : Device) (r : Fin 16) (x : Option Probe) : (d.setRecord r x).fuses = d.fuses := rfl
@[simp] theorem Device.setRecord_regs (d : Device) (r : Fin 16) (x : Option Probe) : (d.setRecord r x).regs = d.regs := rfl
@[simp] theorem Device.setRecord_iface (d : Device) (r : Fin 16) (x : Option Probe) : (d.setRecord r x).iface = d.iface := rfl
@[simp] theorem Device.setRecord_identity (d : Device) (r : Fin 16) (x : Option Probe) : (d.setRecord r x).identity = d.identity := rfl
@[simp] theorem Device.setRecord_slots (d : Device) (r : Fin 16) (x : Option Probe) : (d.setRecord r x).slots = d.slots := rfl
@[simp] theorem Device.setRecord_sched (d : Device) (r : Fin 16) (x : Option Probe) : (d.setRecord r x).sched = d.sched := rfl
@[simp] theorem Device.setRecord_windows (d : Device) (r : Fin 16) (x : Option Probe) : (d.setRecord r x).windows = d.windows := rfl
@[simp] theorem Device.setRecord_rounds (d : Device) (r : Fin 16) (x : Option Probe) : (d.setRecord r x).rounds = d.rounds := rfl
@[simp] theorem Device.setRecord_launch (d : Device) (r : Fin 16) (x : Option Probe) : (d.setRecord r x).launch = d.launch := rfl
@[simp] theorem Device.setRecord_tones (d : Device) (r : Fin 16) (x : Option Probe) : (d.setRecord r x).tones = d.tones := rfl
@[simp] theorem Device.setRecord_taps (d : Device) (r : Fin 16) (x : Option Probe) : (d.setRecord r x).taps = d.taps := rfl
@[simp] theorem Device.setRecord_lead (d : Device) (r : Fin 16) (x : Option Probe) : (d.setRecord r x).lead = d.lead := rfl
@[simp] theorem Device.setRecord_follower (d : Device) (r : Fin 16) (x : Option Probe) : (d.setRecord r x).follower = d.follower := rfl
@[simp] theorem Device.setRecord_framer (d : Device) (r : Fin 16) (x : Option Probe) : (d.setRecord r x).framer = d.framer := rfl
@[simp] theorem Device.setRecord_areas (d : Device) (r : Fin 16) (x : Option Probe) : (d.setRecord r x).areas = d.areas := rfl
@[simp] theorem Device.setRecord_walks (d : Device) (r : Fin 16) (x : Option Probe) : (d.setRecord r x).walks = d.walks := rfl
@[simp] theorem Device.setRecord_classifier (d : Device) (r : Fin 16) (x : Option Probe) : (d.setRecord r x).classifier = d.classifier := rfl
@[simp] theorem Device.setRecord_journal (d : Device) (r : Fin 16) (x : Option Probe) : (d.setRecord r x).journal = d.journal := rfl
@[simp] theorem Device.setRecord_dma (d : Device) (r : Fin 16) (x : Option Probe) : (d.setRecord r x).dma = d.dma := rfl

@[simp] theorem Device.setContext_now (d : Device) (c : Fin 8) (x : Context) : (d.setContext c x).now = d.now := rfl
@[simp] theorem Device.setContext_fuses (d : Device) (c : Fin 8) (x : Context) : (d.setContext c x).fuses = d.fuses := rfl
@[simp] theorem Device.setContext_regs (d : Device) (c : Fin 8) (x : Context) : (d.setContext c x).regs = d.regs := rfl
@[simp] theorem Device.setContext_iface (d : Device) (c : Fin 8) (x : Context) : (d.setContext c x).iface = d.iface := rfl
@[simp] theorem Device.setContext_identity (d : Device) (c : Fin 8) (x : Context) : (d.setContext c x).identity = d.identity := rfl
@[simp] theorem Device.setContext_slots (d : Device) (c : Fin 8) (x : Context) : (d.setContext c x).slots = d.slots := rfl
@[simp] theorem Device.setContext_sched (d : Device) (c : Fin 8) (x : Context) : (d.setContext c x).sched = d.sched := rfl
@[simp] theorem Device.setContext_windows (d : Device) (c : Fin 8) (x : Context) : (d.setContext c x).windows = d.windows := rfl
@[simp] theorem Device.setContext_rounds (d : Device) (c : Fin 8) (x : Context) : (d.setContext c x).rounds = d.rounds := rfl
@[simp] theorem Device.setContext_probes (d : Device) (c : Fin 8) (x : Context) : (d.setContext c x).probes = d.probes := rfl
@[simp] theorem Device.setContext_tones (d : Device) (c : Fin 8) (x : Context) : (d.setContext c x).tones = d.tones := rfl
@[simp] theorem Device.setContext_taps (d : Device) (c : Fin 8) (x : Context) : (d.setContext c x).taps = d.taps := rfl
@[simp] theorem Device.setContext_lead (d : Device) (c : Fin 8) (x : Context) : (d.setContext c x).lead = d.lead := rfl
@[simp] theorem Device.setContext_follower (d : Device) (c : Fin 8) (x : Context) : (d.setContext c x).follower = d.follower := rfl
@[simp] theorem Device.setContext_framer (d : Device) (c : Fin 8) (x : Context) : (d.setContext c x).framer = d.framer := rfl
@[simp] theorem Device.setContext_areas (d : Device) (c : Fin 8) (x : Context) : (d.setContext c x).areas = d.areas := rfl
@[simp] theorem Device.setContext_walks (d : Device) (c : Fin 8) (x : Context) : (d.setContext c x).walks = d.walks := rfl
@[simp] theorem Device.setContext_classifier (d : Device) (c : Fin 8) (x : Context) : (d.setContext c x).classifier = d.classifier := rfl
@[simp] theorem Device.setContext_journal (d : Device) (c : Fin 8) (x : Context) : (d.setContext c x).journal = d.journal := rfl
@[simp] theorem Device.setContext_dma (d : Device) (c : Fin 8) (x : Context) : (d.setContext c x).dma = d.dma := rfl

@[simp] theorem Device.setTone_now (d : Device) (t : Fin 48) (x : ToneState) : (d.setTone t x).now = d.now := rfl
@[simp] theorem Device.setTone_fuses (d : Device) (t : Fin 48) (x : ToneState) : (d.setTone t x).fuses = d.fuses := rfl
@[simp] theorem Device.setTone_regs (d : Device) (t : Fin 48) (x : ToneState) : (d.setTone t x).regs = d.regs := rfl
@[simp] theorem Device.setTone_iface (d : Device) (t : Fin 48) (x : ToneState) : (d.setTone t x).iface = d.iface := rfl
@[simp] theorem Device.setTone_identity (d : Device) (t : Fin 48) (x : ToneState) : (d.setTone t x).identity = d.identity := rfl
@[simp] theorem Device.setTone_slots (d : Device) (t : Fin 48) (x : ToneState) : (d.setTone t x).slots = d.slots := rfl
@[simp] theorem Device.setTone_sched (d : Device) (t : Fin 48) (x : ToneState) : (d.setTone t x).sched = d.sched := rfl
@[simp] theorem Device.setTone_windows (d : Device) (t : Fin 48) (x : ToneState) : (d.setTone t x).windows = d.windows := rfl
@[simp] theorem Device.setTone_rounds (d : Device) (t : Fin 48) (x : ToneState) : (d.setTone t x).rounds = d.rounds := rfl
@[simp] theorem Device.setTone_probes (d : Device) (t : Fin 48) (x : ToneState) : (d.setTone t x).probes = d.probes := rfl
@[simp] theorem Device.setTone_launch (d : Device) (t : Fin 48) (x : ToneState) : (d.setTone t x).launch = d.launch := rfl
@[simp] theorem Device.setTone_taps (d : Device) (t : Fin 48) (x : ToneState) : (d.setTone t x).taps = d.taps := rfl
@[simp] theorem Device.setTone_lead (d : Device) (t : Fin 48) (x : ToneState) : (d.setTone t x).lead = d.lead := rfl
@[simp] theorem Device.setTone_follower (d : Device) (t : Fin 48) (x : ToneState) : (d.setTone t x).follower = d.follower := rfl
@[simp] theorem Device.setTone_framer (d : Device) (t : Fin 48) (x : ToneState) : (d.setTone t x).framer = d.framer := rfl
@[simp] theorem Device.setTone_areas (d : Device) (t : Fin 48) (x : ToneState) : (d.setTone t x).areas = d.areas := rfl
@[simp] theorem Device.setTone_walks (d : Device) (t : Fin 48) (x : ToneState) : (d.setTone t x).walks = d.walks := rfl
@[simp] theorem Device.setTone_classifier (d : Device) (t : Fin 48) (x : ToneState) : (d.setTone t x).classifier = d.classifier := rfl
@[simp] theorem Device.setTone_journal (d : Device) (t : Fin 48) (x : ToneState) : (d.setTone t x).journal = d.journal := rfl
@[simp] theorem Device.setTone_dma (d : Device) (t : Fin 48) (x : ToneState) : (d.setTone t x).dma = d.dma := rfl

@[simp] theorem Device.setDetector_now (d : Device) (i : Fin 4) (x : Detector) : (d.setDetector i x).now = d.now := rfl
@[simp] theorem Device.setDetector_fuses (d : Device) (i : Fin 4) (x : Detector) : (d.setDetector i x).fuses = d.fuses := rfl
@[simp] theorem Device.setDetector_regs (d : Device) (i : Fin 4) (x : Detector) : (d.setDetector i x).regs = d.regs := rfl
@[simp] theorem Device.setDetector_iface (d : Device) (i : Fin 4) (x : Detector) : (d.setDetector i x).iface = d.iface := rfl
@[simp] theorem Device.setDetector_identity (d : Device) (i : Fin 4) (x : Detector) : (d.setDetector i x).identity = d.identity := rfl
@[simp] theorem Device.setDetector_slots (d : Device) (i : Fin 4) (x : Detector) : (d.setDetector i x).slots = d.slots := rfl
@[simp] theorem Device.setDetector_sched (d : Device) (i : Fin 4) (x : Detector) : (d.setDetector i x).sched = d.sched := rfl
@[simp] theorem Device.setDetector_windows (d : Device) (i : Fin 4) (x : Detector) : (d.setDetector i x).windows = d.windows := rfl
@[simp] theorem Device.setDetector_rounds (d : Device) (i : Fin 4) (x : Detector) : (d.setDetector i x).rounds = d.rounds := rfl
@[simp] theorem Device.setDetector_probes (d : Device) (i : Fin 4) (x : Detector) : (d.setDetector i x).probes = d.probes := rfl
@[simp] theorem Device.setDetector_launch (d : Device) (i : Fin 4) (x : Detector) : (d.setDetector i x).launch = d.launch := rfl
@[simp] theorem Device.setDetector_tones (d : Device) (i : Fin 4) (x : Detector) : (d.setDetector i x).tones = d.tones := rfl
@[simp] theorem Device.setDetector_lead (d : Device) (i : Fin 4) (x : Detector) : (d.setDetector i x).lead = d.lead := rfl
@[simp] theorem Device.setDetector_follower (d : Device) (i : Fin 4) (x : Detector) : (d.setDetector i x).follower = d.follower := rfl
@[simp] theorem Device.setDetector_framer (d : Device) (i : Fin 4) (x : Detector) : (d.setDetector i x).framer = d.framer := rfl
@[simp] theorem Device.setDetector_areas (d : Device) (i : Fin 4) (x : Detector) : (d.setDetector i x).areas = d.areas := rfl
@[simp] theorem Device.setDetector_walks (d : Device) (i : Fin 4) (x : Detector) : (d.setDetector i x).walks = d.walks := rfl
@[simp] theorem Device.setDetector_classifier (d : Device) (i : Fin 4) (x : Detector) : (d.setDetector i x).classifier = d.classifier := rfl
@[simp] theorem Device.setDetector_journal (d : Device) (i : Fin 4) (x : Detector) : (d.setDetector i x).journal = d.journal := rfl
@[simp] theorem Device.setDetector_dma (d : Device) (i : Fin 4) (x : Detector) : (d.setDetector i x).dma = d.dma := rfl

@[simp] theorem Device.setPeer_now (d : Device) (p : Fin 16) (x : Peer) : (d.setPeer p x).now = d.now := rfl
@[simp] theorem Device.setPeer_fuses (d : Device) (p : Fin 16) (x : Peer) : (d.setPeer p x).fuses = d.fuses := rfl
@[simp] theorem Device.setPeer_regs (d : Device) (p : Fin 16) (x : Peer) : (d.setPeer p x).regs = d.regs := rfl
@[simp] theorem Device.setPeer_iface (d : Device) (p : Fin 16) (x : Peer) : (d.setPeer p x).iface = d.iface := rfl
@[simp] theorem Device.setPeer_identity (d : Device) (p : Fin 16) (x : Peer) : (d.setPeer p x).identity = d.identity := rfl
@[simp] theorem Device.setPeer_slots (d : Device) (p : Fin 16) (x : Peer) : (d.setPeer p x).slots = d.slots := rfl
@[simp] theorem Device.setPeer_sched (d : Device) (p : Fin 16) (x : Peer) : (d.setPeer p x).sched = d.sched := rfl
@[simp] theorem Device.setPeer_windows (d : Device) (p : Fin 16) (x : Peer) : (d.setPeer p x).windows = d.windows := rfl
@[simp] theorem Device.setPeer_rounds (d : Device) (p : Fin 16) (x : Peer) : (d.setPeer p x).rounds = d.rounds := rfl
@[simp] theorem Device.setPeer_probes (d : Device) (p : Fin 16) (x : Peer) : (d.setPeer p x).probes = d.probes := rfl
@[simp] theorem Device.setPeer_launch (d : Device) (p : Fin 16) (x : Peer) : (d.setPeer p x).launch = d.launch := rfl
@[simp] theorem Device.setPeer_tones (d : Device) (p : Fin 16) (x : Peer) : (d.setPeer p x).tones = d.tones := rfl
@[simp] theorem Device.setPeer_taps (d : Device) (p : Fin 16) (x : Peer) : (d.setPeer p x).taps = d.taps := rfl
@[simp] theorem Device.setPeer_follower (d : Device) (p : Fin 16) (x : Peer) : (d.setPeer p x).follower = d.follower := rfl
@[simp] theorem Device.setPeer_framer (d : Device) (p : Fin 16) (x : Peer) : (d.setPeer p x).framer = d.framer := rfl
@[simp] theorem Device.setPeer_areas (d : Device) (p : Fin 16) (x : Peer) : (d.setPeer p x).areas = d.areas := rfl
@[simp] theorem Device.setPeer_walks (d : Device) (p : Fin 16) (x : Peer) : (d.setPeer p x).walks = d.walks := rfl
@[simp] theorem Device.setPeer_classifier (d : Device) (p : Fin 16) (x : Peer) : (d.setPeer p x).classifier = d.classifier := rfl
@[simp] theorem Device.setPeer_journal (d : Device) (p : Fin 16) (x : Peer) : (d.setPeer p x).journal = d.journal := rfl
@[simp] theorem Device.setPeer_dma (d : Device) (p : Fin 16) (x : Peer) : (d.setPeer p x).dma = d.dma := rfl

@[simp] theorem Device.setArea_now (d : Device) (n : Fin 8) (x : Area) : (d.setArea n x).now = d.now := rfl
@[simp] theorem Device.setArea_fuses (d : Device) (n : Fin 8) (x : Area) : (d.setArea n x).fuses = d.fuses := rfl
@[simp] theorem Device.setArea_regs (d : Device) (n : Fin 8) (x : Area) : (d.setArea n x).regs = d.regs := rfl
@[simp] theorem Device.setArea_iface (d : Device) (n : Fin 8) (x : Area) : (d.setArea n x).iface = d.iface := rfl
@[simp] theorem Device.setArea_identity (d : Device) (n : Fin 8) (x : Area) : (d.setArea n x).identity = d.identity := rfl
@[simp] theorem Device.setArea_slots (d : Device) (n : Fin 8) (x : Area) : (d.setArea n x).slots = d.slots := rfl
@[simp] theorem Device.setArea_sched (d : Device) (n : Fin 8) (x : Area) : (d.setArea n x).sched = d.sched := rfl
@[simp] theorem Device.setArea_windows (d : Device) (n : Fin 8) (x : Area) : (d.setArea n x).windows = d.windows := rfl
@[simp] theorem Device.setArea_rounds (d : Device) (n : Fin 8) (x : Area) : (d.setArea n x).rounds = d.rounds := rfl
@[simp] theorem Device.setArea_probes (d : Device) (n : Fin 8) (x : Area) : (d.setArea n x).probes = d.probes := rfl
@[simp] theorem Device.setArea_launch (d : Device) (n : Fin 8) (x : Area) : (d.setArea n x).launch = d.launch := rfl
@[simp] theorem Device.setArea_tones (d : Device) (n : Fin 8) (x : Area) : (d.setArea n x).tones = d.tones := rfl
@[simp] theorem Device.setArea_taps (d : Device) (n : Fin 8) (x : Area) : (d.setArea n x).taps = d.taps := rfl
@[simp] theorem Device.setArea_lead (d : Device) (n : Fin 8) (x : Area) : (d.setArea n x).lead = d.lead := rfl
@[simp] theorem Device.setArea_follower (d : Device) (n : Fin 8) (x : Area) : (d.setArea n x).follower = d.follower := rfl
@[simp] theorem Device.setArea_framer (d : Device) (n : Fin 8) (x : Area) : (d.setArea n x).framer = d.framer := rfl
@[simp] theorem Device.setArea_walks (d : Device) (n : Fin 8) (x : Area) : (d.setArea n x).walks = d.walks := rfl
@[simp] theorem Device.setArea_classifier (d : Device) (n : Fin 8) (x : Area) : (d.setArea n x).classifier = d.classifier := rfl
@[simp] theorem Device.setArea_journal (d : Device) (n : Fin 8) (x : Area) : (d.setArea n x).journal = d.journal := rfl
@[simp] theorem Device.setArea_dma (d : Device) (n : Fin 8) (x : Area) : (d.setArea n x).dma = d.dma := rfl

@[simp] theorem Device.setWalk_now (d : Device) (w : Fin 4) (x : Option Walk) : (d.setWalk w x).now = d.now := rfl
@[simp] theorem Device.setWalk_fuses (d : Device) (w : Fin 4) (x : Option Walk) : (d.setWalk w x).fuses = d.fuses := rfl
@[simp] theorem Device.setWalk_regs (d : Device) (w : Fin 4) (x : Option Walk) : (d.setWalk w x).regs = d.regs := rfl
@[simp] theorem Device.setWalk_iface (d : Device) (w : Fin 4) (x : Option Walk) : (d.setWalk w x).iface = d.iface := rfl
@[simp] theorem Device.setWalk_identity (d : Device) (w : Fin 4) (x : Option Walk) : (d.setWalk w x).identity = d.identity := rfl
@[simp] theorem Device.setWalk_slots (d : Device) (w : Fin 4) (x : Option Walk) : (d.setWalk w x).slots = d.slots := rfl
@[simp] theorem Device.setWalk_sched (d : Device) (w : Fin 4) (x : Option Walk) : (d.setWalk w x).sched = d.sched := rfl
@[simp] theorem Device.setWalk_windows (d : Device) (w : Fin 4) (x : Option Walk) : (d.setWalk w x).windows = d.windows := rfl
@[simp] theorem Device.setWalk_rounds (d : Device) (w : Fin 4) (x : Option Walk) : (d.setWalk w x).rounds = d.rounds := rfl
@[simp] theorem Device.setWalk_probes (d : Device) (w : Fin 4) (x : Option Walk) : (d.setWalk w x).probes = d.probes := rfl
@[simp] theorem Device.setWalk_launch (d : Device) (w : Fin 4) (x : Option Walk) : (d.setWalk w x).launch = d.launch := rfl
@[simp] theorem Device.setWalk_tones (d : Device) (w : Fin 4) (x : Option Walk) : (d.setWalk w x).tones = d.tones := rfl
@[simp] theorem Device.setWalk_taps (d : Device) (w : Fin 4) (x : Option Walk) : (d.setWalk w x).taps = d.taps := rfl
@[simp] theorem Device.setWalk_lead (d : Device) (w : Fin 4) (x : Option Walk) : (d.setWalk w x).lead = d.lead := rfl
@[simp] theorem Device.setWalk_follower (d : Device) (w : Fin 4) (x : Option Walk) : (d.setWalk w x).follower = d.follower := rfl
@[simp] theorem Device.setWalk_framer (d : Device) (w : Fin 4) (x : Option Walk) : (d.setWalk w x).framer = d.framer := rfl
@[simp] theorem Device.setWalk_areas (d : Device) (w : Fin 4) (x : Option Walk) : (d.setWalk w x).areas = d.areas := rfl
@[simp] theorem Device.setWalk_classifier (d : Device) (w : Fin 4) (x : Option Walk) : (d.setWalk w x).classifier = d.classifier := rfl
@[simp] theorem Device.setWalk_journal (d : Device) (w : Fin 4) (x : Option Walk) : (d.setWalk w x).journal = d.journal := rfl
@[simp] theorem Device.setWalk_dma (d : Device) (w : Fin 4) (x : Option Walk) : (d.setWalk w x).dma = d.dma := rfl

@[simp] theorem Device.setQueue_now (d : Device) (q : List QueueEntry) : (d.setQueue q).now = d.now := rfl
@[simp] theorem Device.setQueue_fuses (d : Device) (q : List QueueEntry) : (d.setQueue q).fuses = d.fuses := rfl
@[simp] theorem Device.setQueue_regs (d : Device) (q : List QueueEntry) : (d.setQueue q).regs = d.regs := rfl
@[simp] theorem Device.setQueue_iface (d : Device) (q : List QueueEntry) : (d.setQueue q).iface = d.iface := rfl
@[simp] theorem Device.setQueue_identity (d : Device) (q : List QueueEntry) : (d.setQueue q).identity = d.identity := rfl
@[simp] theorem Device.setQueue_slots (d : Device) (q : List QueueEntry) : (d.setQueue q).slots = d.slots := rfl
@[simp] theorem Device.setQueue_sched (d : Device) (q : List QueueEntry) : (d.setQueue q).sched = d.sched := rfl
@[simp] theorem Device.setQueue_windows (d : Device) (q : List QueueEntry) : (d.setQueue q).windows = d.windows := rfl
@[simp] theorem Device.setQueue_rounds (d : Device) (q : List QueueEntry) : (d.setQueue q).rounds = d.rounds := rfl
@[simp] theorem Device.setQueue_probes (d : Device) (q : List QueueEntry) : (d.setQueue q).probes = d.probes := rfl
@[simp] theorem Device.setQueue_launch (d : Device) (q : List QueueEntry) : (d.setQueue q).launch = d.launch := rfl
@[simp] theorem Device.setQueue_tones (d : Device) (q : List QueueEntry) : (d.setQueue q).tones = d.tones := rfl
@[simp] theorem Device.setQueue_taps (d : Device) (q : List QueueEntry) : (d.setQueue q).taps = d.taps := rfl
@[simp] theorem Device.setQueue_lead (d : Device) (q : List QueueEntry) : (d.setQueue q).lead = d.lead := rfl
@[simp] theorem Device.setQueue_follower (d : Device) (q : List QueueEntry) : (d.setQueue q).follower = d.follower := rfl
@[simp] theorem Device.setQueue_framer (d : Device) (q : List QueueEntry) : (d.setQueue q).framer = d.framer := rfl
@[simp] theorem Device.setQueue_areas (d : Device) (q : List QueueEntry) : (d.setQueue q).areas = d.areas := rfl
@[simp] theorem Device.setQueue_walks (d : Device) (q : List QueueEntry) : (d.setQueue q).walks = d.walks := rfl
@[simp] theorem Device.setQueue_journal (d : Device) (q : List QueueEntry) : (d.setQueue q).journal = d.journal := rfl
@[simp] theorem Device.setQueue_dma (d : Device) (q : List QueueEntry) : (d.setQueue q).dma = d.dma := rfl

@[simp] theorem Device.advance_fuses (d : Device) (t : Nat) : (d.advance t).fuses = d.fuses := rfl
@[simp] theorem Device.advance_regs (d : Device) (t : Nat) : (d.advance t).regs = d.regs := rfl
@[simp] theorem Device.advance_iface (d : Device) (t : Nat) : (d.advance t).iface = d.iface := rfl
@[simp] theorem Device.advance_identity (d : Device) (t : Nat) : (d.advance t).identity = d.identity := rfl
@[simp] theorem Device.advance_slots (d : Device) (t : Nat) : (d.advance t).slots = d.slots := rfl
@[simp] theorem Device.advance_sched (d : Device) (t : Nat) : (d.advance t).sched = d.sched := rfl
@[simp] theorem Device.advance_windows (d : Device) (t : Nat) : (d.advance t).windows = d.windows := rfl
@[simp] theorem Device.advance_rounds (d : Device) (t : Nat) : (d.advance t).rounds = d.rounds := rfl
@[simp] theorem Device.advance_probes (d : Device) (t : Nat) : (d.advance t).probes = d.probes := rfl
@[simp] theorem Device.advance_launch (d : Device) (t : Nat) : (d.advance t).launch = d.launch := rfl
@[simp] theorem Device.advance_tones (d : Device) (t : Nat) : (d.advance t).tones = d.tones := rfl
@[simp] theorem Device.advance_taps (d : Device) (t : Nat) : (d.advance t).taps = d.taps := rfl
@[simp] theorem Device.advance_lead (d : Device) (t : Nat) : (d.advance t).lead = d.lead := rfl
@[simp] theorem Device.advance_follower (d : Device) (t : Nat) : (d.advance t).follower = d.follower := rfl
@[simp] theorem Device.advance_framer (d : Device) (t : Nat) : (d.advance t).framer = d.framer := rfl
@[simp] theorem Device.advance_areas (d : Device) (t : Nat) : (d.advance t).areas = d.areas := rfl
@[simp] theorem Device.advance_walks (d : Device) (t : Nat) : (d.advance t).walks = d.walks := rfl
@[simp] theorem Device.advance_classifier (d : Device) (t : Nat) : (d.advance t).classifier = d.classifier := rfl
@[simp] theorem Device.advance_journal (d : Device) (t : Nat) : (d.advance t).journal = d.journal := rfl
@[simp] theorem Device.advance_dma (d : Device) (t : Nat) : (d.advance t).dma = d.dma := rfl

@[simp] theorem raise_now (c : Cause) (d : Device) : (raise c d).now = d.now := rfl
@[simp] theorem raise_fuses (c : Cause) (d : Device) : (raise c d).fuses = d.fuses := rfl
@[simp] theorem raise_iface (c : Cause) (d : Device) : (raise c d).iface = d.iface := rfl
@[simp] theorem raise_identity (c : Cause) (d : Device) : (raise c d).identity = d.identity := rfl
@[simp] theorem raise_slots (c : Cause) (d : Device) : (raise c d).slots = d.slots := rfl
@[simp] theorem raise_sched (c : Cause) (d : Device) : (raise c d).sched = d.sched := rfl
@[simp] theorem raise_windows (c : Cause) (d : Device) : (raise c d).windows = d.windows := rfl
@[simp] theorem raise_rounds (c : Cause) (d : Device) : (raise c d).rounds = d.rounds := rfl
@[simp] theorem raise_probes (c : Cause) (d : Device) : (raise c d).probes = d.probes := rfl
@[simp] theorem raise_launch (c : Cause) (d : Device) : (raise c d).launch = d.launch := rfl
@[simp] theorem raise_tones (c : Cause) (d : Device) : (raise c d).tones = d.tones := rfl
@[simp] theorem raise_taps (c : Cause) (d : Device) : (raise c d).taps = d.taps := rfl
@[simp] theorem raise_lead (c : Cause) (d : Device) : (raise c d).lead = d.lead := rfl
@[simp] theorem raise_follower (c : Cause) (d : Device) : (raise c d).follower = d.follower := rfl
@[simp] theorem raise_framer (c : Cause) (d : Device) : (raise c d).framer = d.framer := rfl
@[simp] theorem raise_areas (c : Cause) (d : Device) : (raise c d).areas = d.areas := rfl
@[simp] theorem raise_walks (c : Cause) (d : Device) : (raise c d).walks = d.walks := rfl
@[simp] theorem raise_classifier (c : Cause) (d : Device) : (raise c d).classifier = d.classifier := rfl
@[simp] theorem raise_journal (c : Cause) (d : Device) : (raise c d).journal = d.journal := rfl
@[simp] theorem raise_dma (c : Cause) (d : Device) : (raise c d).dma = d.dma := rfl
@[simp] theorem raise_regs_run (c : Cause) (d : Device) : (raise c d).regs.run = d.regs.run := rfl
@[simp] theorem raise_regs_baseLo (c : Cause) (d : Device) : (raise c d).regs.baseLo = d.regs.baseLo := rfl
@[simp] theorem raise_regs_baseHi (c : Cause) (d : Device) : (raise c d).regs.baseHi = d.regs.baseHi := rfl
@[simp] theorem raise_regs_windowSize (c : Cause) (d : Device) : (raise c d).regs.windowSize = d.regs.windowSize := rfl
@[simp] theorem raise_regs_irqMask (c : Cause) (d : Device) : (raise c d).regs.irqMask = d.regs.irqMask := rfl

@[simp] theorem raise_irqCause (c : Cause) (d : Device) : (raise c d).regs.irqCause = d.regs.irqCause ||| c.mask := rfl

@[simp] theorem Device.advance_now (d : Device) (t : Nat) : (d.advance t).now = max d.now t := rfl

@[simp] theorem Device.setQueue_queue (d : Device) (q : List QueueEntry) : (d.setQueue q).classifier.queue = q := rfl

@[simp] theorem Device.setRecord_probes_order (d : Device) (r : Fin 16) (x : Option Probe) : (d.setRecord r x).probes.order = d.probes.order := rfl
@[simp] theorem Device.setRecord_probes_pointer (d : Device) (r : Fin 16) (x : Option Probe) : (d.setRecord r x).probes.pointer = d.probes.pointer := rfl
@[simp] theorem Device.setContext_launch_sending (d : Device) (c : Fin 8) (x : Context) : (d.setContext c x).launch.sending = d.launch.sending := rfl
@[simp] theorem Device.setContext_launch_waiting (d : Device) (c : Fin 8) (x : Context) : (d.setContext c x).launch.waiting = d.launch.waiting := rfl
@[simp] theorem Device.setContext_launch_stuck (d : Device) (c : Fin 8) (x : Context) : (d.setContext c x).launch.stuck = d.launch.stuck := rfl
@[simp] theorem Device.setContext_launch_issued (d : Device) (c : Fin 8) (x : Context) : (d.setContext c x).launch.issued = d.launch.issued := rfl
@[simp] theorem Device.setDetector_taps_table (d : Device) (i : Fin 4) (x : Detector) : (d.setDetector i x).taps.table = d.taps.table := rfl
@[simp] theorem Device.setDetector_taps_plan (d : Device) (i : Fin 4) (x : Detector) : (d.setDetector i x).taps.plan = d.taps.plan := rfl
@[simp] theorem Device.setDetector_taps_watched (d : Device) (i : Fin 4) (x : Detector) : (d.setDetector i x).taps.watched = d.taps.watched := rfl
@[simp] theorem Device.setDetector_taps_cursor (d : Device) (i : Fin 4) (x : Detector) : (d.setDetector i x).taps.cursor = d.taps.cursor := rfl
@[simp] theorem Device.setDetector_taps_sweepFirst (d : Device) (i : Fin 4) (x : Detector) : (d.setDetector i x).taps.sweepFirst = d.taps.sweepFirst := rfl
@[simp] theorem Device.setDetector_taps_sweepOver (d : Device) (i : Fin 4) (x : Detector) : (d.setDetector i x).taps.sweepOver = d.taps.sweepOver := rfl
@[simp] theorem Device.setDetector_taps_localWatches (d : Device) (i : Fin 4) (x : Detector) : (d.setDetector i x).taps.localWatches = d.taps.localWatches := rfl
@[simp] theorem Device.setDetector_taps_heldWatches (d : Device) (i : Fin 4) (x : Detector) : (d.setDetector i x).taps.heldWatches = d.taps.heldWatches := rfl
@[simp] theorem Device.setPeer_lead_pool (d : Device) (p : Fin 16) (x : Peer) : (d.setPeer p x).lead.pool = d.lead.pool := rfl
@[simp] theorem Device.setPeer_lead_pointer (d : Device) (p : Fin 16) (x : Peer) : (d.setPeer p x).lead.pointer = d.lead.pointer := rfl
@[simp] theorem Device.setPeer_lead_transmit (d : Device) (p : Fin 16) (x : Peer) : (d.setPeer p x).lead.transmit = d.lead.transmit := rfl
@[simp] theorem Device.setQueue_classifier_stalled (d : Device) (q : List QueueEntry) : (d.setQueue q).classifier.stalled = d.classifier.stalled := rfl
@[simp] theorem Device.setQueue_classifier_stale (d : Device) (q : List QueueEntry) : (d.setQueue q).classifier.stale = d.classifier.stale := rfl
@[simp] theorem Device.setQueue_classifier_lateTone (d : Device) (q : List QueueEntry) : (d.setQueue q).classifier.lateTone = d.classifier.lateTone := rfl
@[simp] theorem Device.setQueue_classifier_stray (d : Device) (q : List QueueEntry) : (d.setQueue q).classifier.stray = d.classifier.stray := rfl

/-! ### Reading back an indexed part -/

/-- An element of a vector with one element replaced. -/
theorem vec_set_get {α : Type} {k : Nat} (v : Vector α k) (n m : Fin k) (x : α) :
    (v.set n x)[m] = if m = n then x else v[m] := by
  simp only [Fin.getElem_fin, Vector.getElem_set, Fin.ext_iff, eq_comm]

/-- An element of a mapped vector. -/
@[simp] theorem mapVec_get {α β : Type} {k : Nat} (f : Fin k → α → β) (v : Vector α k) (i : Fin k) :
    (mapVec f v)[i] = f i v[i] := by
  simp [mapVec]

@[simp] theorem Device.setSlot_slots_get (d : Device) (n m : Fin 8) (x : Slot) :
    (d.setSlot n x).slots[m] = if m = n then x else d.slots[m] := vec_set_get _ _ _ _

@[simp] theorem Device.setSched_sched_get (d : Device) (n m : Fin 8) (x : SlotSchedule) :
    (d.setSched n x).sched[m] = if m = n then x else d.sched[m] := vec_set_get _ _ _ _

@[simp] theorem Device.setWindow_windows_get (d : Device) (n m : Fin 4) (x : Window) :
    (d.setWindow n x).windows[m] = if m = n then x else d.windows[m] := vec_set_get _ _ _ _

@[simp] theorem Device.setRecord_records_get (d : Device) (n m : Fin 16) (x : Option Probe) :
    (d.setRecord n x).probes.records[m] = if m = n then x else d.probes.records[m] := vec_set_get _ _ _ _

@[simp] theorem Device.setContext_contexts_get (d : Device) (n m : Fin 8) (x : Context) :
    (d.setContext n x).launch.contexts[m] = if m = n then x else d.launch.contexts[m] := vec_set_get _ _ _ _

@[simp] theorem Device.setTone_tones_get (d : Device) (n m : Fin 48) (x : ToneState) :
    (d.setTone n x).tones[m] = if m = n then x else d.tones[m] := vec_set_get _ _ _ _

@[simp] theorem Device.setDetector_detectors_get (d : Device) (n m : Fin 4) (x : Detector) :
    (d.setDetector n x).taps.detectors[m] = if m = n then x else d.taps.detectors[m] := vec_set_get _ _ _ _

@[simp] theorem Device.setPeer_peers_get (d : Device) (n m : Fin 16) (x : Peer) :
    (d.setPeer n x).lead.peers[m] = if m = n then x else d.lead.peers[m] := vec_set_get _ _ _ _

@[simp] theorem Device.setArea_areas_get (d : Device) (n m : Fin 8) (x : Area) :
    (d.setArea n x).areas[m] = if m = n then x else d.areas[m] := vec_set_get _ _ _ _

@[simp] theorem Device.setWalk_walks_get (d : Device) (n m : Fin 4) (x : Option Walk) :
    (d.setWalk n x).walks[m] = if m = n then x else d.walks[m] := vec_set_get _ _ _ _

end Sys2Proof.Machine
end

