-- ==== Sys2Proof/Laws/Ops.lean ====
section
/-! SUPPORT. For each shared operation one lemma that says once what it can change: the result is the device with only the
named parts replaced. A proof about a command cites these and unfolds no operation. -/

namespace Sys2Proof.Machine

/-! ### Board accesses -/

/-- Issuing an access changes the list of accesses only. -/
theorem issue_frame (k : AccessKind) (a l : Nat) (b : List Byte) (o : Bool) (d : Device) :
    ∃ x, issue k a l b o d = { d with dma := x } := by
  unfold issue
  split
  · dsimp only
    split <;> exact ⟨_, rfl⟩
  · exact ⟨d.dma, rfl⟩

/-- An access inside the window is put in flight with the next tag. -/
theorem issue_inWindow (k : AccessKind) (a l : Nat) (b : List Byte) (o : Bool) (d : Device) (hc : canAccess d = true)
    (hw : inWindow d.iface.bounds a l = true) :
    issue k a l b o d = { d with dma := { d.dma with
      nextTag := d.dma.nextTag + 1, inFlight := d.dma.inFlight ++ [⟨d.dma.nextTag, k, a, l, b, false, o⟩] } } := by
  simp [issue, hc, hw]

/-- An access outside the window is refused with the next tag. -/
theorem issue_refused (k : AccessKind) (a l : Nat) (b : List Byte) (o : Bool) (d : Device) (hc : canAccess d = true)
    (hw : inWindow d.iface.bounds a l = false) :
    issue k a l b o d = { d with dma := { d.dma with
      nextTag := d.dma.nextTag + 1, refused := d.dma.refused ++ [⟨d.dma.nextTag, k, a, l, b, false, o⟩] } } := by
  simp [issue, hc, hw]

/-- A part that may begin no access issues none. -/
theorem issue_stopped (k : AccessKind) (a l : Nat) (b : List Byte) (o : Bool) (d : Device) (hc : canAccess d = false) :
    issue k a l b o d = d := by
  simp [issue, hc]

/-- A write owed leaves the accesses themselves alone. -/
@[simp] theorem Dma.owe_keeps (x : Dma) (o : Bool) (ch : Channel) :
    (x.owe o ch).inFlight = x.inFlight ∧ (x.owe o ch).nextTag = x.nextTag ∧ (x.owe o ch).refused = x.refused :=
  ⟨rfl, rfl, rfl⟩

/-- A channel's write no longer owed leaves the accesses themselves alone. -/
@[simp] theorem Dma.settleOwed_keeps (x : Dma) (ch : Channel) :
    (x.settleOwed ch).inFlight = x.inFlight ∧ (x.settleOwed ch).nextTag = x.nextTag ∧
      (x.settleOwed ch).refused = x.refused := ⟨rfl, rfl, rfl⟩

/-- What is owed is owed. -/
@[simp] theorem Dma.mem_owe (x : Dma) (o : Bool) (ch c : Channel) : c ∈ (x.owe o ch).owed ↔ c = ch ∨ c ∈ x.owed := by
  unfold Dma.owe
  dsimp only
  split
  · rename_i h; exact ⟨.inr, fun e => e.elim (fun e => e ▸ h) id⟩
  · simp [or_comm]

/-- What is settled is owed no more, and nothing else is. -/
@[simp] theorem Dma.mem_settleOwed (x : Dma) (ch c : Channel) : c ∈ (x.settleOwed ch).owed ↔ c ∈ x.owed ∧ c ≠ ch := by
  simp [Dma.settleOwed]

/-- A write of a channel with a write in flight is owed behind it. -/
theorem oweAs_live (o : Bool) (ch : Channel) (d : Device) (hc : canAccess d = true) (hl : live d (ofChannel ch) = true) :
    oweAs o ch d = { d with dma := d.dma.owe o ch } := by
  simp [oweAs, hc, hl]

/-- A write of a channel with none in flight is issued. -/
theorem oweAs_issues (o : Bool) (ch : Channel) (d : Device) (hc : canAccess d = true)
    (hl : live d (ofChannel ch) = false) : oweAs o ch d = issueChannel ch o d := by
  simp [oweAs, hc, hl]

/-- A write owed is issued at the completion, as the start's where the start alone owes it. -/
theorem reissue_owed (ch : Channel) (d : Device) (h : ch ∈ d.dma.owed) :
    reissue ch d = issueChannel ch (decide (ch ∈ d.dma.startOwed)) { d with dma := d.dma.settleOwed ch } := by
  simp [reissue, h]

/-- An abandoned start keeps every access and every write owed that is not its own. -/
theorem dropStartAccesses_keeps (d : Device) :
    ∃ x, dropStartAccesses d = { d with dma := x } ∧ x.nextTag = d.dma.nextTag ∧ x.refused = d.dma.refused ∧
      x.startOwed = [] ∧ (∀ ch, ch ∈ x.owed ↔ ch ∈ d.dma.owed ∧ ch ∉ d.dma.startOwed) ∧
      x.inFlight = d.dma.inFlight.map (fun a => if a.ofStart then { a with discarded := true } else a) :=
  ⟨_, rfl, rfl, rfl, rfl, fun ch => by simp, rfl⟩

/-- The channel is no slot's shadow. -/
def Channel.plain : Channel → Bool
  | .shadow _ => false
  | _ => true

/-- Owing a write changes the accesses, and of a slot no more than what its latest shadow write carried and announced. -/
theorem oweAs_frame (o : Bool) (ch : Channel) (d : Device) :
    ∃ x v, oweAs o ch d = { d with dma := x, slots := v } ∧
      ∀ n : Fin 8, ∃ k b, v[n] = { d.slots[n] with shadowVerdicts := k, announce := b } := by
  unfold oweAs
  split
  · split
    · exact ⟨_, d.slots, rfl, fun n => ⟨d.slots[n].shadowVerdicts, d.slots[n].announce, rfl⟩⟩
    · unfold issueChannel
      dsimp only
      obtain ⟨x, hx⟩ := issue_frame (channelKind ch d) (channelExtent ch d).1 (channelExtent ch d).2.length
        (channelExtent ch d).2 o d
      rw [hx]
      cases ch with
      | shadow n =>
        refine ⟨x, _, rfl, fun m => ?_⟩
        show ∃ k b, (d.slots.set n _)[m] = _
        rw [vec_set_get]
        split
        · rename_i h; subst h; exact ⟨d.slots[m].verdicts, false, rfl⟩
        · exact ⟨d.slots[m].shadowVerdicts, d.slots[m].announce, rfl⟩
      | _ => exact ⟨x, d.slots, rfl, fun n => ⟨d.slots[n].shadowVerdicts, d.slots[n].announce, rfl⟩⟩
  · exact ⟨d.dma, d.slots, rfl, fun n => ⟨d.slots[n].shadowVerdicts, d.slots[n].announce, rfl⟩⟩

/-- Owing a write of a channel that is no shadow changes the accesses only. -/
theorem oweAs_plain (o : Bool) (ch : Channel) (d : Device) (h : ch.plain = true) :
    ∃ x, oweAs o ch d = { d with dma := x } := by
  unfold oweAs
  split
  · split
    · exact ⟨_, rfl⟩
    · unfold issueChannel
      dsimp only
      obtain ⟨x, hx⟩ := issue_frame (channelKind ch d) (channelExtent ch d).1 (channelExtent ch d).2.length
        (channelExtent ch d).2 o d
      rw [hx]
      cases ch <;> first | exact ⟨x, rfl⟩ | simp [Channel.plain] at h
  · exact ⟨d.dma, rfl⟩

/-- Owing a shadow write changes the accesses and what that slot's latest write carried and announced. -/
theorem owe_shadow_frame (n : Fin 8) (d : Device) :
    ∃ x k b, owe (.shadow n) d =
      { d with dma := x, slots := d.slots.set n { d.slots[n] with shadowVerdicts := k, announce := b } } := by
  have self : d.slots.set n { d.slots[n] with
      shadowVerdicts := d.slots[n].shadowVerdicts, announce := d.slots[n].announce } = d.slots := by
    show d.slots.set n d.slots[n] = d.slots
    simp
  unfold owe oweAs
  split
  · split
    · exact ⟨_, d.slots[n].shadowVerdicts, d.slots[n].announce, by rw [self]⟩
    · unfold issueChannel
      dsimp only
      obtain ⟨x, hx⟩ := issue_frame (channelKind (.shadow n) d) (channelExtent (.shadow n) d).1
        (channelExtent (.shadow n) d).2.length (channelExtent (.shadow n) d).2 false d
      rw [hx]
      exact ⟨x, d.slots[n].verdicts, false, rfl⟩
  · exact ⟨d.dma, d.slots[n].shadowVerdicts, d.slots[n].announce, by rw [self]⟩

/-! ### Journal requests -/

/-- A dropped request changes the journal, the accesses and the causes. -/
theorem journalOverflow_frame (d : Device) :
    ∃ j x c, journalOverflow d = { d with journal := j, dma := x, regs := { d.regs with irqCause := c } } ∧
      j.requests = d.journal.requests := by
  unfold journalOverflow owe
  obtain ⟨x, hx⟩ := oweAs_plain false .produced
    { d with journal := { d.journal with overflow := d.journal.overflow + 1#32 } } rfl
  rw [hx]
  dsimp only
  split
  · exact ⟨_, x, d.regs.irqCause, rfl, rfl⟩
  · exact ⟨_, x, _, rfl, rfl⟩

/-- Serving the request list changes the journal, the accesses and the causes, and lengthens no list. -/
theorem serveJournalSteps_frame (n : Nat) (d : Device) :
    ∃ j x c, serveJournalSteps n d = { d with journal := j, dma := x, regs := { d.regs with irqCause := c } } ∧
      j.requests.length ≤ d.journal.requests.length := by
  induction n generalizing d with
  | zero => exact ⟨d.journal, d.dma, d.regs.irqCause, rfl, Nat.le_refl _⟩
  | succ n ih =>
    unfold serveJournalSteps
    split
    · rename_i r e rest hr he
      split
      · exact ⟨d.journal, d.dma, d.regs.irqCause, rfl, Nat.le_refl _⟩
      · split
        · unfold writeJournal issueWrite
          obtain ⟨x, hx⟩ := issue_frame .journalWrite
            (r.base + d.journal.produced.toNat % r.size * Config.journalEntryBytes)
            (journalBytes d.journal.produced e).length (journalBytes d.journal.produced e) false
            { d with journal := { d.journal with requests := rest } }
          rw [hx]
          exact ⟨_, x, d.regs.irqCause, rfl, by simp [he]⟩
        · obtain ⟨j, x, c, h1, h2⟩ := journalOverflow_frame { d with journal := { d.journal with requests := rest } }
          obtain ⟨j', x', c', h3, h4⟩ := ih (journalOverflow { d with journal := { d.journal with requests := rest } })
          rw [h3, h1]
          refine ⟨j', x', c', rfl, ?_⟩
          rw [h1] at h4
          dsimp only at h4
          rw [h2] at h4
          dsimp only at h4
          simp only [he, List.length_cons]
          omega
    · exact ⟨d.journal, d.dma, d.regs.irqCause, rfl, Nat.le_refl _⟩

theorem serveJournal_frame (d : Device) :
    ∃ j x c, serveJournal d = { d with journal := j, dma := x, regs := { d.regs with irqCause := c } } ∧
      j.requests.length ≤ d.journal.requests.length := by
  unfold serveJournal
  split
  · exact serveJournalSteps_frame _ d
  · exact ⟨d.journal, d.dma, d.regs.irqCause, rfl, Nat.le_refl _⟩

/-- A journal request changes the journal, the accesses and the causes. -/
theorem journalRequest_frame (e : JournalEntry) (k : Option CoalesceKey) (d : Device) :
    ∃ j x c, journalRequest e k d = { d with journal := j, dma := x, regs := { d.regs with irqCause := c } } := by
  have enq : ∀ d : Device, ∃ j x c,
      enqueueJournal e d = { d with journal := j, dma := x, regs := { d.regs with irqCause := c } } := by
    intro d
    unfold enqueueJournal
    split
    · obtain ⟨j, x, c, h, _⟩ := journalOverflow_frame d; exact ⟨j, x, c, h⟩
    · obtain ⟨j, x, c, h, _⟩ := serveJournal_frame { d with
        journal := { d.journal with requests := d.journal.requests ++ [{ e with stamp := d.rounds.number }] } }
      exact ⟨j, x, c, h⟩
  unfold journalRequest
  split
  · split
    · exact enq d
    · split
      · exact ⟨d.journal, d.dma, d.regs.irqCause, rfl⟩
      · obtain ⟨j, x, c, h⟩ := enq { d with journal := { d.journal with memory := d.journal.memory ++ [_] } }
        exact ⟨j, x, c, h⟩
  · exact ⟨d.journal, d.dma, d.regs.irqCause, rfl⟩

/-! ### The launch bus -/

/-- Putting a command on the bus changes what is sent and what waits. -/
theorem sendCommand_frame (c : BusCommand) (d : Device) :
    ∃ s w, sendCommand c d = { d with launch := { d.launch with sending := s, waiting := w } } := by
  unfold sendCommand
  split <;> exact ⟨_, _, rfl⟩

/-- The end of a step puts what the step issued on the bus: it changes what is sent and what waits, and leaves nothing
issued. -/
theorem sendIssued_frame (d : Device) :
    ∃ s w, sendIssued d = { d with launch := { d.launch with sending := s, waiting := w, issued := [] } } := by
  have all : ∀ (xs : List BusCommand) (d : Device), ∃ s w,
      xs.foldl (fun d c => sendCommand c d) d = { d with launch := { d.launch with sending := s, waiting := w } } := by
    intro xs
    induction xs with
    | nil => intro d; exact ⟨d.launch.sending, d.launch.waiting, rfl⟩
    | cons x xs ih =>
      intro d
      obtain ⟨s, w, h⟩ := sendCommand_frame x d
      obtain ⟨s', w', h'⟩ := ih (sendCommand x d)
      rw [List.foldl_cons, h', h]
      exact ⟨s', w', rfl⟩
  unfold sendIssued
  obtain ⟨s, w, h⟩ := all d.launch.issued { d with launch := { d.launch with issued := [] } }
  exact ⟨s, w, h⟩

/-- A step that issued no command sends none. -/
theorem sendIssued_nil (d : Device) (h : d.launch.issued = []) : sendIssued d = d := by
  have e : ({ d with launch := { d.launch with issued := [] } } : Device) = d := by rw [← h]
  unfold sendIssued
  rw [h, e]
  rfl

/-- Issuing STOP changes the launch controller, not its stuck list. -/
theorem issueStop_frame (c : Fin 8) (d : Device) :
    ∃ l, issueStop c d = { d with launch := l } ∧ l.stuck = d.launch.stuck := ⟨_, rfl, rfl⟩

/-- Requesting STOPs changes the launch controller, not its stuck list. -/
theorem requestStops_frame (cs : List (Fin 8)) (d : Device) :
    ∃ l, requestStops cs d = { d with launch := l } ∧ l.stuck = d.launch.stuck := by
  have one : ∀ (c : Fin 8) (d : Device), ∃ l, requestStop c d = { d with launch := l } ∧ l.stuck = d.launch.stuck := by
    intro c d
    unfold requestStop
    split
    · exact issueStop_frame c d
    · exact ⟨d.launch, rfl, rfl⟩
  unfold requestStops
  generalize List.finRange 8 = xs
  induction xs generalizing d with
  | nil => exact ⟨d.launch, rfl, rfl⟩
  | cons x xs ih =>
    simp only [List.foldl_cons]
    split
    · obtain ⟨l, h1, h2⟩ := one x d
      obtain ⟨l', h3, h4⟩ := ih (requestStop x d)
      rw [h3, h1]
      rw [h1] at h4
      exact ⟨l', rfl, h4.trans h2⟩
    · exact ih d

/-! ### Probes -/

/-- A void changes the probe table, the circuit status map, the launch contexts and the tones. -/
theorem voidProbe_frame (r : Fin 16) (d : Device) :
    ∃ p c l t, voidProbe r d = { d with probes := p, sched := c, launch := l, tones := t } ∧
      l.stuck = d.launch.stuck := by
  have tone : ∀ (r : Fin 16) (p : Probe) (d : Device), ∃ t, voidTone r p d = { d with tones := t } := by
    intro r p d
    unfold voidTone releaseTone endGrace
    split
    · exact ⟨_, rfl⟩
    · split
      · split
        · exact ⟨_, rfl⟩
        · exact ⟨d.tones, rfl⟩
      · exact ⟨d.tones, rfl⟩
  have owner : ∀ (c : Fin 8) (r : Fin 16) (d : Device),
      ∃ l, releaseOwner c r d = { d with launch := l } ∧ l.stuck = d.launch.stuck := by
    intro c r d
    unfold releaseOwner
    split
    · exact ⟨_, rfl, rfl⟩
    · exact ⟨d.launch, rfl, rfl⟩
  have queue : ∀ (n : Fin 8) (c : Nat) (d : Device), ∃ x, requeue n c d = { d with sched := x } := by
    intro n c d
    unfold requeue
    dsimp only
    split
    · exact ⟨_, rfl⟩
    · exact ⟨d.sched, rfl⟩
  unfold voidProbe
  split
  · exact ⟨d.probes, d.sched, d.launch, d.tones, rfl, rfl⟩
  · rename_i p _
    split
    · exact ⟨d.probes, d.sched, d.launch, d.tones, rfl, rfl⟩
    · obtain ⟨t, h1⟩ := tone r p d
      obtain ⟨l, h2, h3⟩ := owner p.ctx r (voidTone r p d)
      obtain ⟨c, h4⟩ := queue p.slot p.circuit (releaseOwner p.ctx r (voidTone r p d))
      rw [h4, h2, h1]
      rw [h1] at h3
      exact ⟨_, c, l, t, rfl, h3⟩

/-- Voiding probes changes the probe table, the circuit status map, the launch controller and the tones. -/
theorem voidProbes_frame (sel : Probe → Bool) (d : Device) :
    ∃ p c l t, voidProbes sel d = { d with probes := p, sched := c, launch := l, tones := t } ∧
      l.stuck = d.launch.stuck := by
  have all : ∀ (xs : List (Fin 16)) (d : Device), ∃ p c l t,
      xs.foldl (voidIf sel) d = { d with probes := p, sched := c, launch := l, tones := t } ∧
      l.stuck = d.launch.stuck := by
    intro xs
    induction xs with
    | nil => intro d; exact ⟨d.probes, d.sched, d.launch, d.tones, rfl, rfl⟩
    | cons x xs ih =>
      intro d
      simp only [List.foldl_cons]
      have one : ∃ p c l t, voidIf sel d x = { d with probes := p, sched := c, launch := l, tones := t } ∧
          l.stuck = d.launch.stuck := by
        unfold voidIf
        split
        · split
          · exact voidProbe_frame x d
          · exact ⟨d.probes, d.sched, d.launch, d.tones, rfl, rfl⟩
        · exact ⟨d.probes, d.sched, d.launch, d.tones, rfl, rfl⟩
      obtain ⟨p, c, l, t, h1, h2⟩ := one
      obtain ⟨p', c', l', t', h3, h4⟩ := ih (voidIf sel d x)
      rw [h3, h1]
      rw [h1] at h4
      exact ⟨p', c', l', t', rfl, h4.trans h2⟩
  unfold voidProbes
  obtain ⟨p, c, l, t, h1, h2⟩ := all (List.finRange 16) d
  obtain ⟨l', h3, h4⟩ := requestStops_frame (soundingContexts sel d) ((List.finRange 16).foldl (voidIf sel) d)
  rw [h3, h1]
  rw [h1] at h4
  exact ⟨p, c, l', t, rfl, h4.trans h2⟩

/-- An evaluated probe changes the probe table, the launch contexts and the accesses. -/
theorem evaluateRecord_frame (r : Fin 16) (p : Probe) (d : Device) :
    ∃ q l x, evaluateRecord r p d = { d with probes := q, launch := l, dma := x } ∧ l.stuck = d.launch.stuck := by
  have owner : ∃ l, releaseOwner p.ctx r d = { d with launch := l } ∧ l.stuck = d.launch.stuck := by
    unfold releaseOwner
    split
    · exact ⟨_, rfl, rfl⟩
    · exact ⟨d.launch, rfl, rfl⟩
  obtain ⟨l, h1, h2⟩ := owner
  unfold evaluateRecord
  rw [h1]
  dsimp only
  split
  · exact ⟨_, l, d.dma, rfl, h2⟩
  · unfold issueVerdict issueWrite
    obtain ⟨x, hx⟩ := issue_frame (.verdictWrite p.slot (evaluate p).generation p.circuit (some r) (evaluate p).code
        (evaluate p).margin)
      ((Device.setRecord { d with launch := l } r (some { p with state := .evaluating })).slots[p.slot].desc.verdictBase +
        p.circuit * Config.verdictBytes)
      (verdictBytes (evaluate p)).length (verdictBytes (evaluate p)) false
      (Device.setRecord { d with launch := l } r (some { p with state := .evaluating }))
    rw [hx]
    exact ⟨_, l, x, rfl, h2⟩

/-- A slot's entry to DRAINING changes its state and reason, its ready stage and probes, and the accesses. -/
theorem drainSlot_frame (n : Fin 8) (reason : Reason) (d : Device) :
    ∃ y p c l t x, drainSlot n reason d =
        { d with slots := d.slots.set n y, probes := p, sched := c, launch := l, tones := t, dma := x } ∧
      l.stuck = d.launch.stuck ∧
      ∃ st re k b, y = { d.slots[n] with state := st, reason := re, shadowVerdicts := k, announce := b } := by
  have stay : d = { d with slots := d.slots.set n d.slots[n] } := by simp
  unfold drainSlot
  dsimp only
  split
  · split
    · obtain ⟨x, k, b, h⟩ := owe_shadow_frame n (d.setSlot n { d.slots[n] with reason := reason })
      rw [h]
      refine ⟨{ d.slots[n] with reason := reason, shadowVerdicts := k, announce := b }, d.probes, d.sched, d.launch, d.tones, x, ?_, rfl,
        d.slots[n].state, reason, k, b, rfl⟩
      simp [Device.setSlot]
    · exact ⟨d.slots[n], d.probes, d.sched, d.launch, d.tones, d.dma, stay, rfl, d.slots[n].state, d.slots[n].reason,
        d.slots[n].shadowVerdicts, d.slots[n].announce, rfl⟩
  · split
    · obtain ⟨x, k, b, h⟩ := owe_shadow_frame n (d.setSlot n { d.slots[n] with state := .draining, reason := reason })
      obtain ⟨p, c, l, t, h1, h2⟩ := voidProbes_frame (fun p => p.slot == n)
        (discardStage n (owe (.shadow n) (d.setSlot n { d.slots[n] with state := .draining, reason := reason })))
      rw [h1, h]
      rw [h] at h2
      refine ⟨{ d.slots[n] with state := .draining, reason := reason, shadowVerdicts := k, announce := b }, p, c, l, t, x, ?_, h2,
        .draining, reason, k, b, rfl⟩
      simp [Device.setSlot, discardStage, Device.setSched]
    · exact ⟨d.slots[n], d.probes, d.sched, d.launch, d.tones, d.dma, stay, rfl, d.slots[n].state, d.slots[n].reason,
        d.slots[n].shadowVerdicts, d.slots[n].announce, rfl⟩

/-! ### Rounds -/

/-- R144 and the law of R154: a round that is not outside a probe's listening rounds lies between its first and its last. -/
theorem outsideWindow_between {p : Probe} {s f l : Round} (hf : p.listenFrom = some f) (hl : p.lastListen = some l)
    (h : outsideWindow p s = false) : (s - f).toNat ≤ (l - f).toNat := by
  rw [outsideWindow, hf, hl, Bool.or_eq_false_iff] at h
  obtain ⟨h1, h2⟩ := h
  simp only [earlierThan, laterThan, Bool.and_eq_false_imp, Bool.not_eq_false', bne_iff_ne, decide_eq_false_iff_not,
    Bool.and_eq_true, decide_eq_true_eq] at h1 h2
  by_cases e : s = f
  · subst e; simp
  · have := h1 e
    bv_omega

/-! ### The LTB -/

/-- What a fill puts is what the next lookup of its key answers. -/
theorem Area.lookup_fill (a : Area) (l : Location) (ans : Answer) : (a.fill l ans).lookup l = some ans := by
  have way : ∀ w, (a.fill l ans).way l w = if w = (a.fillWay l).1 then some ⟨l, ans⟩ else a.way l w := by
    intro w
    simp only [Area.fill, Area.way, Sparse.get_put]
    by_cases h : w = (a.fillWay l).1 <;> simp [h]
  have tag : hasTag l (some ⟨l, ans⟩) = true := by simp [hasTag]
  unfold Area.lookup
  rw [way 0, way 1]
  unfold Area.fillWay
  by_cases h0 : hasTag l (a.way l 0) = true
  · simp [h0, tag]
  · by_cases h1 : hasTag l (a.way l 1) = true
    · simp [h0, h1, tag]
    · by_cases h2 : (a.way l 0).isNone = true
      · simp [h0, h1, h2, tag]
      · by_cases h3 : (a.way l 1).isNone = true
        · simp [h0, h1, h2, h3, tag]
        · by_cases h4 : a.togglesB l = true
          · simp [h0, h1, h2, h3, h4, tag]
          · simp [h0, h1, h2, h3, h4, tag]

end Sys2Proof.Machine
end

