-- ==== Sys2Proof/Laws/Frames.lean ====
section
/-! SUPPORT. What each shared operation leaves alone, as one rewriting lemma per operation (a conjunction of equations, which
`simp` takes apart), so that a frame is proved by `simp`. -/

namespace Sys2Proof.Machine

/-- A part that every step of a fold keeps is kept by the fold. -/
theorem foldl_keeps {β γ : Type} (g : Device → γ) (f : Device → β → Device) (h : ∀ d b, g (f d b) = g d)
    (xs : List β) (d : Device) : g (xs.foldl f d) = g d := by
  induction xs generalizing d with
  | nil => rfl
  | cons x xs ih => rw [List.foldl_cons, ih, h]

/-- The channels that carry no number are plain. -/
@[simp] theorem Channel.plain_others : Channel.markCounters.plain = true ∧ Channel.linkCounters.plain = true ∧
    Channel.sightingCounters.plain = true ∧ Channel.acknowledgment.plain = true ∧ Channel.produced.plain = true :=
  ⟨rfl, rfl, rfl, rfl, rfl⟩

@[simp] theorem issue_keeps (k : AccessKind) (a l : Nat) (b : List Byte) (o : Bool) (d : Device) :
    (issue k a l b o d).now = d.now ∧ (issue k a l b o d).fuses = d.fuses ∧ (issue k a l b o d).regs = d.regs ∧
      (issue k a l b o d).iface = d.iface ∧ (issue k a l b o d).identity = d.identity ∧
      (issue k a l b o d).slots = d.slots ∧ (issue k a l b o d).sched = d.sched ∧
      (issue k a l b o d).windows = d.windows ∧ (issue k a l b o d).rounds = d.rounds ∧
      (issue k a l b o d).probes = d.probes ∧ (issue k a l b o d).launch = d.launch ∧
      (issue k a l b o d).tones = d.tones ∧ (issue k a l b o d).taps = d.taps ∧ (issue k a l b o d).lead = d.lead ∧
      (issue k a l b o d).follower = d.follower ∧ (issue k a l b o d).framer = d.framer ∧
      (issue k a l b o d).areas = d.areas ∧ (issue k a l b o d).walks = d.walks ∧
      (issue k a l b o d).classifier = d.classifier ∧ (issue k a l b o d).journal = d.journal := by
  obtain ⟨x, h⟩ := issue_frame k a l b o d
  simp [h]

@[simp] theorem issueRead_keeps (k : AccessKind) (a l : Nat) (d : Device) :
    (issueRead k a l d).now = d.now ∧ (issueRead k a l d).fuses = d.fuses ∧ (issueRead k a l d).regs = d.regs ∧
      (issueRead k a l d).iface = d.iface ∧ (issueRead k a l d).identity = d.identity ∧
      (issueRead k a l d).slots = d.slots ∧ (issueRead k a l d).sched = d.sched ∧
      (issueRead k a l d).windows = d.windows ∧ (issueRead k a l d).rounds = d.rounds ∧
      (issueRead k a l d).probes = d.probes ∧ (issueRead k a l d).launch = d.launch ∧
      (issueRead k a l d).tones = d.tones ∧ (issueRead k a l d).taps = d.taps ∧ (issueRead k a l d).lead = d.lead ∧
      (issueRead k a l d).follower = d.follower ∧ (issueRead k a l d).framer = d.framer ∧
      (issueRead k a l d).areas = d.areas ∧ (issueRead k a l d).walks = d.walks ∧
      (issueRead k a l d).classifier = d.classifier ∧ (issueRead k a l d).journal = d.journal := by
  simp [issueRead]

@[simp] theorem issueWrite_keeps (k : AccessKind) (a : Nat) (b : List Byte) (d : Device) :
    (issueWrite k a b d).now = d.now ∧ (issueWrite k a b d).fuses = d.fuses ∧ (issueWrite k a b d).regs = d.regs ∧
      (issueWrite k a b d).iface = d.iface ∧ (issueWrite k a b d).identity = d.identity ∧
      (issueWrite k a b d).slots = d.slots ∧ (issueWrite k a b d).sched = d.sched ∧
      (issueWrite k a b d).windows = d.windows ∧ (issueWrite k a b d).rounds = d.rounds ∧
      (issueWrite k a b d).probes = d.probes ∧ (issueWrite k a b d).launch = d.launch ∧
      (issueWrite k a b d).tones = d.tones ∧ (issueWrite k a b d).taps = d.taps ∧
      (issueWrite k a b d).lead = d.lead ∧ (issueWrite k a b d).follower = d.follower ∧
      (issueWrite k a b d).framer = d.framer ∧ (issueWrite k a b d).areas = d.areas ∧
      (issueWrite k a b d).walks = d.walks ∧ (issueWrite k a b d).classifier = d.classifier ∧
      (issueWrite k a b d).journal = d.journal := by
  simp [issueWrite]

@[simp] theorem issueVerdict_keeps (n : Fin 8) (c : Nat) (r : Option (Fin 16)) (v : Verdict) (d : Device) :
    (issueVerdict n c r v d).now = d.now ∧ (issueVerdict n c r v d).fuses = d.fuses ∧
      (issueVerdict n c r v d).regs = d.regs ∧ (issueVerdict n c r v d).iface = d.iface ∧
      (issueVerdict n c r v d).identity = d.identity ∧ (issueVerdict n c r v d).slots = d.slots ∧
      (issueVerdict n c r v d).sched = d.sched ∧ (issueVerdict n c r v d).windows = d.windows ∧
      (issueVerdict n c r v d).rounds = d.rounds ∧ (issueVerdict n c r v d).probes = d.probes ∧
      (issueVerdict n c r v d).launch = d.launch ∧ (issueVerdict n c r v d).tones = d.tones ∧
      (issueVerdict n c r v d).taps = d.taps ∧ (issueVerdict n c r v d).lead = d.lead ∧
      (issueVerdict n c r v d).follower = d.follower ∧ (issueVerdict n c r v d).framer = d.framer ∧
      (issueVerdict n c r v d).areas = d.areas ∧ (issueVerdict n c r v d).walks = d.walks ∧
      (issueVerdict n c r v d).classifier = d.classifier ∧ (issueVerdict n c r v d).journal = d.journal := by
  simp [issueVerdict]

@[simp] theorem oweAs_keeps (o : Bool) (ch : Channel) (d : Device) :
    (oweAs o ch d).now = d.now ∧ (oweAs o ch d).fuses = d.fuses ∧ (oweAs o ch d).regs = d.regs ∧
      (oweAs o ch d).iface = d.iface ∧ (oweAs o ch d).identity = d.identity ∧ (oweAs o ch d).sched = d.sched ∧
      (oweAs o ch d).windows = d.windows ∧ (oweAs o ch d).rounds = d.rounds ∧ (oweAs o ch d).probes = d.probes ∧
      (oweAs o ch d).launch = d.launch ∧ (oweAs o ch d).tones = d.tones ∧ (oweAs o ch d).taps = d.taps ∧
      (oweAs o ch d).lead = d.lead ∧ (oweAs o ch d).follower = d.follower ∧ (oweAs o ch d).framer = d.framer ∧
      (oweAs o ch d).areas = d.areas ∧ (oweAs o ch d).walks = d.walks ∧ (oweAs o ch d).classifier = d.classifier ∧
      (oweAs o ch d).journal = d.journal := by
  obtain ⟨x, v, h, _⟩ := oweAs_frame o ch d
  simp [h]

@[simp] theorem oweAs_slots (o : Bool) (ch : Channel) (d : Device) (h : ch.plain = true) :
    (oweAs o ch d).slots = d.slots := by
  obtain ⟨x, h⟩ := oweAs_plain o ch d h
  simp [h]

@[simp] theorem owe_keeps (ch : Channel) (d : Device) :
    (owe ch d).now = d.now ∧ (owe ch d).fuses = d.fuses ∧ (owe ch d).regs = d.regs ∧ (owe ch d).iface = d.iface ∧
      (owe ch d).identity = d.identity ∧ (owe ch d).sched = d.sched ∧ (owe ch d).windows = d.windows ∧
      (owe ch d).rounds = d.rounds ∧ (owe ch d).probes = d.probes ∧ (owe ch d).launch = d.launch ∧
      (owe ch d).tones = d.tones ∧ (owe ch d).taps = d.taps ∧ (owe ch d).lead = d.lead ∧
      (owe ch d).follower = d.follower ∧ (owe ch d).framer = d.framer ∧ (owe ch d).areas = d.areas ∧
      (owe ch d).walks = d.walks ∧ (owe ch d).classifier = d.classifier ∧ (owe ch d).journal = d.journal := by
  simp [owe]

@[simp] theorem owe_window_slots (w : Fin 4) (d : Device) : (owe (.window w) d).slots = d.slots :=
  oweAs_slots false (.window w) d rfl

@[simp] theorem owe_peer_slots (p : Fin 16) (d : Device) : (owe (.peer p) d).slots = d.slots :=
  oweAs_slots false (.peer p) d rfl

@[simp] theorem oweAs_peer_slots (o : Bool) (p : Fin 16) (d : Device) : (oweAs o (.peer p) d).slots = d.slots :=
  oweAs_slots o (.peer p) d rfl

@[simp] theorem owe_slots (ch : Channel) (d : Device) (h : ch.plain = true) : (owe ch d).slots = d.slots :=
  oweAs_slots false ch d h

@[simp] theorem reissue_keeps (ch : Channel) (d : Device) :
    (reissue ch d).now = d.now ∧ (reissue ch d).fuses = d.fuses ∧ (reissue ch d).regs = d.regs ∧
      (reissue ch d).iface = d.iface ∧ (reissue ch d).identity = d.identity ∧ (reissue ch d).sched = d.sched ∧
      (reissue ch d).windows = d.windows ∧ (reissue ch d).rounds = d.rounds ∧ (reissue ch d).probes = d.probes ∧
      (reissue ch d).launch = d.launch ∧ (reissue ch d).tones = d.tones ∧ (reissue ch d).taps = d.taps ∧
      (reissue ch d).lead = d.lead ∧ (reissue ch d).follower = d.follower ∧ (reissue ch d).framer = d.framer ∧
      (reissue ch d).areas = d.areas ∧ (reissue ch d).walks = d.walks ∧ (reissue ch d).classifier = d.classifier ∧
      (reissue ch d).journal = d.journal := by
  unfold reissue issueChannel noteChannel
  cases ch <;> (repeat' split) <;> simp

@[simp] theorem journalRequest_keeps (e : JournalEntry) (k : Option CoalesceKey) (d : Device) :
    (journalRequest e k d).now = d.now ∧ (journalRequest e k d).fuses = d.fuses ∧
      (journalRequest e k d).iface = d.iface ∧ (journalRequest e k d).identity = d.identity ∧
      (journalRequest e k d).slots = d.slots ∧ (journalRequest e k d).sched = d.sched ∧
      (journalRequest e k d).windows = d.windows ∧ (journalRequest e k d).rounds = d.rounds ∧
      (journalRequest e k d).probes = d.probes ∧ (journalRequest e k d).launch = d.launch ∧
      (journalRequest e k d).tones = d.tones ∧ (journalRequest e k d).taps = d.taps ∧
      (journalRequest e k d).lead = d.lead ∧ (journalRequest e k d).follower = d.follower ∧
      (journalRequest e k d).framer = d.framer ∧ (journalRequest e k d).areas = d.areas ∧
      (journalRequest e k d).walks = d.walks ∧ (journalRequest e k d).classifier = d.classifier := by
  obtain ⟨j, x, c, h⟩ := journalRequest_frame e k d
  simp [h]

@[simp] theorem journalRequest_registers (e : JournalEntry) (k : Option CoalesceKey) (d : Device) :
    (journalRequest e k d).regs.run = d.regs.run ∧ (journalRequest e k d).regs.irqMask = d.regs.irqMask := by
  obtain ⟨j, x, c, h⟩ := journalRequest_frame e k d
  simp [h]

@[simp] theorem serveJournal_keeps (d : Device) :
    (serveJournal d).now = d.now ∧ (serveJournal d).fuses = d.fuses ∧ (serveJournal d).iface = d.iface ∧
      (serveJournal d).identity = d.identity ∧ (serveJournal d).slots = d.slots ∧ (serveJournal d).sched = d.sched ∧
      (serveJournal d).windows = d.windows ∧ (serveJournal d).rounds = d.rounds ∧
      (serveJournal d).probes = d.probes ∧ (serveJournal d).launch = d.launch ∧ (serveJournal d).tones = d.tones ∧
      (serveJournal d).taps = d.taps ∧ (serveJournal d).lead = d.lead ∧ (serveJournal d).follower = d.follower ∧
      (serveJournal d).framer = d.framer ∧ (serveJournal d).areas = d.areas ∧ (serveJournal d).walks = d.walks ∧
      (serveJournal d).classifier = d.classifier := by
  obtain ⟨j, x, c, h, _⟩ := serveJournal_frame d
  simp [h]

@[simp] theorem sendCommand_keeps (c : BusCommand) (d : Device) :
    (sendCommand c d).now = d.now ∧ (sendCommand c d).fuses = d.fuses ∧ (sendCommand c d).regs = d.regs ∧
      (sendCommand c d).iface = d.iface ∧ (sendCommand c d).identity = d.identity ∧
      (sendCommand c d).slots = d.slots ∧ (sendCommand c d).sched = d.sched ∧ (sendCommand c d).windows = d.windows ∧
      (sendCommand c d).rounds = d.rounds ∧ (sendCommand c d).probes = d.probes ∧ (sendCommand c d).tones = d.tones ∧
      (sendCommand c d).taps = d.taps ∧ (sendCommand c d).lead = d.lead ∧ (sendCommand c d).follower = d.follower ∧
      (sendCommand c d).framer = d.framer ∧ (sendCommand c d).areas = d.areas ∧ (sendCommand c d).walks = d.walks ∧
      (sendCommand c d).classifier = d.classifier ∧ (sendCommand c d).journal = d.journal ∧
      (sendCommand c d).dma = d.dma := by
  obtain ⟨s, w, h⟩ := sendCommand_frame c d
  simp [h]

@[simp] theorem issueCommand_keeps (c : BusCommand) (d : Device) :
    (issueCommand c d).now = d.now ∧ (issueCommand c d).fuses = d.fuses ∧ (issueCommand c d).regs = d.regs ∧
      (issueCommand c d).iface = d.iface ∧ (issueCommand c d).identity = d.identity ∧
      (issueCommand c d).slots = d.slots ∧ (issueCommand c d).sched = d.sched ∧
      (issueCommand c d).windows = d.windows ∧ (issueCommand c d).rounds = d.rounds ∧
      (issueCommand c d).probes = d.probes ∧ (issueCommand c d).tones = d.tones ∧ (issueCommand c d).taps = d.taps ∧
      (issueCommand c d).lead = d.lead ∧ (issueCommand c d).follower = d.follower ∧
      (issueCommand c d).framer = d.framer ∧ (issueCommand c d).areas = d.areas ∧
      (issueCommand c d).walks = d.walks ∧ (issueCommand c d).classifier = d.classifier ∧
      (issueCommand c d).journal = d.journal ∧ (issueCommand c d).dma = d.dma := by
  simp [issueCommand]

@[simp] theorem sendIssued_keeps (d : Device) :
    (sendIssued d).now = d.now ∧ (sendIssued d).fuses = d.fuses ∧ (sendIssued d).regs = d.regs ∧
      (sendIssued d).iface = d.iface ∧ (sendIssued d).identity = d.identity ∧ (sendIssued d).slots = d.slots ∧
      (sendIssued d).sched = d.sched ∧ (sendIssued d).windows = d.windows ∧ (sendIssued d).rounds = d.rounds ∧
      (sendIssued d).probes = d.probes ∧ (sendIssued d).tones = d.tones ∧ (sendIssued d).taps = d.taps ∧
      (sendIssued d).lead = d.lead ∧ (sendIssued d).follower = d.follower ∧ (sendIssued d).framer = d.framer ∧
      (sendIssued d).areas = d.areas ∧ (sendIssued d).walks = d.walks ∧ (sendIssued d).classifier = d.classifier ∧
      (sendIssued d).journal = d.journal ∧ (sendIssued d).dma = d.dma := by
  obtain ⟨s, w, h⟩ := sendIssued_frame d
  simp [h]

@[simp] theorem issueStop_keeps (c : Fin 8) (d : Device) :
    (issueStop c d).now = d.now ∧ (issueStop c d).fuses = d.fuses ∧ (issueStop c d).regs = d.regs ∧
      (issueStop c d).iface = d.iface ∧ (issueStop c d).identity = d.identity ∧ (issueStop c d).slots = d.slots ∧
      (issueStop c d).sched = d.sched ∧ (issueStop c d).windows = d.windows ∧ (issueStop c d).rounds = d.rounds ∧
      (issueStop c d).probes = d.probes ∧ (issueStop c d).tones = d.tones ∧ (issueStop c d).taps = d.taps ∧
      (issueStop c d).lead = d.lead ∧ (issueStop c d).follower = d.follower ∧ (issueStop c d).framer = d.framer ∧
      (issueStop c d).areas = d.areas ∧ (issueStop c d).walks = d.walks ∧ (issueStop c d).classifier = d.classifier ∧
      (issueStop c d).journal = d.journal ∧ (issueStop c d).dma = d.dma := by
  obtain ⟨l, h, _⟩ := issueStop_frame c d
  simp [h]

@[simp] theorem requestStop_keeps (c : Fin 8) (d : Device) :
    (requestStop c d).now = d.now ∧ (requestStop c d).fuses = d.fuses ∧ (requestStop c d).regs = d.regs ∧
      (requestStop c d).iface = d.iface ∧ (requestStop c d).identity = d.identity ∧
      (requestStop c d).slots = d.slots ∧ (requestStop c d).sched = d.sched ∧ (requestStop c d).windows = d.windows ∧
      (requestStop c d).rounds = d.rounds ∧ (requestStop c d).probes = d.probes ∧ (requestStop c d).tones = d.tones ∧
      (requestStop c d).taps = d.taps ∧ (requestStop c d).lead = d.lead ∧ (requestStop c d).follower = d.follower ∧
      (requestStop c d).framer = d.framer ∧ (requestStop c d).areas = d.areas ∧ (requestStop c d).walks = d.walks ∧
      (requestStop c d).classifier = d.classifier ∧ (requestStop c d).journal = d.journal ∧
      (requestStop c d).dma = d.dma := by
  unfold requestStop
  split <;> simp

@[simp] theorem requestStops_keeps (cs : List (Fin 8)) (d : Device) :
    (requestStops cs d).now = d.now ∧ (requestStops cs d).fuses = d.fuses ∧ (requestStops cs d).regs = d.regs ∧
      (requestStops cs d).iface = d.iface ∧ (requestStops cs d).identity = d.identity ∧
      (requestStops cs d).slots = d.slots ∧ (requestStops cs d).sched = d.sched ∧
      (requestStops cs d).windows = d.windows ∧ (requestStops cs d).rounds = d.rounds ∧
      (requestStops cs d).probes = d.probes ∧ (requestStops cs d).tones = d.tones ∧
      (requestStops cs d).taps = d.taps ∧ (requestStops cs d).lead = d.lead ∧
      (requestStops cs d).follower = d.follower ∧ (requestStops cs d).framer = d.framer ∧
      (requestStops cs d).areas = d.areas ∧ (requestStops cs d).walks = d.walks ∧
      (requestStops cs d).classifier = d.classifier ∧ (requestStops cs d).journal = d.journal ∧
      (requestStops cs d).dma = d.dma := by
  obtain ⟨l, h, _⟩ := requestStops_frame cs d
  simp [h]

@[simp] theorem releaseOwner_keeps (c : Fin 8) (r : Fin 16) (d : Device) :
    (releaseOwner c r d).now = d.now ∧ (releaseOwner c r d).fuses = d.fuses ∧ (releaseOwner c r d).regs = d.regs ∧
      (releaseOwner c r d).iface = d.iface ∧ (releaseOwner c r d).identity = d.identity ∧
      (releaseOwner c r d).slots = d.slots ∧ (releaseOwner c r d).sched = d.sched ∧
      (releaseOwner c r d).windows = d.windows ∧ (releaseOwner c r d).rounds = d.rounds ∧
      (releaseOwner c r d).probes = d.probes ∧ (releaseOwner c r d).tones = d.tones ∧
      (releaseOwner c r d).taps = d.taps ∧ (releaseOwner c r d).lead = d.lead ∧
      (releaseOwner c r d).follower = d.follower ∧ (releaseOwner c r d).framer = d.framer ∧
      (releaseOwner c r d).areas = d.areas ∧ (releaseOwner c r d).walks = d.walks ∧
      (releaseOwner c r d).classifier = d.classifier ∧ (releaseOwner c r d).journal = d.journal ∧
      (releaseOwner c r d).dma = d.dma := by
  unfold releaseOwner
  split <;> simp

@[simp] theorem idleContext_keeps (c : Fin 8) (d : Device) :
    (idleContext c d).now = d.now ∧ (idleContext c d).fuses = d.fuses ∧ (idleContext c d).regs = d.regs ∧
      (idleContext c d).iface = d.iface ∧ (idleContext c d).identity = d.identity ∧
      (idleContext c d).slots = d.slots ∧ (idleContext c d).sched = d.sched ∧ (idleContext c d).windows = d.windows ∧
      (idleContext c d).rounds = d.rounds ∧ (idleContext c d).probes = d.probes ∧ (idleContext c d).tones = d.tones ∧
      (idleContext c d).taps = d.taps ∧ (idleContext c d).lead = d.lead ∧ (idleContext c d).follower = d.follower ∧
      (idleContext c d).framer = d.framer ∧ (idleContext c d).areas = d.areas ∧ (idleContext c d).walks = d.walks ∧
      (idleContext c d).classifier = d.classifier ∧ (idleContext c d).journal = d.journal ∧
      (idleContext c d).dma = d.dma := by
  simp [idleContext]

@[simp] theorem releaseTone_keeps (t : Fin 48) (h : Option (Fin 16)) (st : HolderStatus) (l : Option Round) (c : Bool) (d : Device) :
    (releaseTone t h st l c d).now = d.now ∧ (releaseTone t h st l c d).fuses = d.fuses ∧
      (releaseTone t h st l c d).regs = d.regs ∧ (releaseTone t h st l c d).iface = d.iface ∧
      (releaseTone t h st l c d).identity = d.identity ∧ (releaseTone t h st l c d).slots = d.slots ∧
      (releaseTone t h st l c d).sched = d.sched ∧ (releaseTone t h st l c d).windows = d.windows ∧
      (releaseTone t h st l c d).rounds = d.rounds ∧ (releaseTone t h st l c d).probes = d.probes ∧
      (releaseTone t h st l c d).launch = d.launch ∧ (releaseTone t h st l c d).taps = d.taps ∧
      (releaseTone t h st l c d).lead = d.lead ∧ (releaseTone t h st l c d).follower = d.follower ∧
      (releaseTone t h st l c d).framer = d.framer ∧ (releaseTone t h st l c d).areas = d.areas ∧
      (releaseTone t h st l c d).walks = d.walks ∧ (releaseTone t h st l c d).classifier = d.classifier ∧
      (releaseTone t h st l c d).journal = d.journal ∧ (releaseTone t h st l c d).dma = d.dma := by
  simp [releaseTone]

@[simp] theorem confirmStop_keeps (t : Fin 48) (d : Device) :
    (confirmStop t d).now = d.now ∧ (confirmStop t d).fuses = d.fuses ∧ (confirmStop t d).regs = d.regs ∧
      (confirmStop t d).iface = d.iface ∧ (confirmStop t d).identity = d.identity ∧
      (confirmStop t d).slots = d.slots ∧ (confirmStop t d).sched = d.sched ∧ (confirmStop t d).windows = d.windows ∧
      (confirmStop t d).rounds = d.rounds ∧ (confirmStop t d).probes = d.probes ∧
      (confirmStop t d).launch = d.launch ∧ (confirmStop t d).taps = d.taps ∧ (confirmStop t d).lead = d.lead ∧
      (confirmStop t d).follower = d.follower ∧ (confirmStop t d).framer = d.framer ∧
      (confirmStop t d).areas = d.areas ∧ (confirmStop t d).walks = d.walks ∧
      (confirmStop t d).classifier = d.classifier ∧ (confirmStop t d).journal = d.journal ∧
      (confirmStop t d).dma = d.dma := by
  unfold confirmStop
  split <;> simp

@[simp] theorem endGrace_keeps (t : Fin 48) (r : Fin 16) (st : HolderStatus) (d : Device) :
    (endGrace t r st d).now = d.now ∧ (endGrace t r st d).fuses = d.fuses ∧ (endGrace t r st d).regs = d.regs ∧
      (endGrace t r st d).iface = d.iface ∧ (endGrace t r st d).identity = d.identity ∧
      (endGrace t r st d).slots = d.slots ∧ (endGrace t r st d).sched = d.sched ∧
      (endGrace t r st d).windows = d.windows ∧ (endGrace t r st d).rounds = d.rounds ∧
      (endGrace t r st d).probes = d.probes ∧ (endGrace t r st d).launch = d.launch ∧
      (endGrace t r st d).taps = d.taps ∧ (endGrace t r st d).lead = d.lead ∧
      (endGrace t r st d).follower = d.follower ∧ (endGrace t r st d).framer = d.framer ∧
      (endGrace t r st d).areas = d.areas ∧ (endGrace t r st d).walks = d.walks ∧
      (endGrace t r st d).classifier = d.classifier ∧ (endGrace t r st d).journal = d.journal ∧
      (endGrace t r st d).dma = d.dma := by
  unfold endGrace
  (repeat' split) <;> simp

@[simp] theorem withdraw_keeps (c : Fin 8) (d : Device) :
    (withdraw c d).now = d.now ∧ (withdraw c d).fuses = d.fuses ∧ (withdraw c d).regs = d.regs ∧
      (withdraw c d).iface = d.iface ∧ (withdraw c d).identity = d.identity ∧ (withdraw c d).slots = d.slots ∧
      (withdraw c d).sched = d.sched ∧ (withdraw c d).windows = d.windows ∧ (withdraw c d).rounds = d.rounds ∧
      (withdraw c d).probes = d.probes ∧ (withdraw c d).tones = d.tones ∧ (withdraw c d).taps = d.taps ∧
      (withdraw c d).lead = d.lead ∧ (withdraw c d).follower = d.follower ∧ (withdraw c d).framer = d.framer ∧
      (withdraw c d).areas = d.areas ∧ (withdraw c d).walks = d.walks ∧ (withdraw c d).classifier = d.classifier ∧
      (withdraw c d).journal = d.journal ∧ (withdraw c d).dma = d.dma ∧
      (withdraw c d).launch.contexts = d.launch.contexts ∧ (withdraw c d).launch.stuck = d.launch.stuck := by
  simp [withdraw]

@[simp] theorem stopConfirmed_keeps (c : Fin 8) (d : Device) :
    (stopConfirmed c d).now = d.now ∧ (stopConfirmed c d).fuses = d.fuses ∧ (stopConfirmed c d).regs = d.regs ∧
      (stopConfirmed c d).iface = d.iface ∧ (stopConfirmed c d).identity = d.identity ∧
      (stopConfirmed c d).slots = d.slots ∧ (stopConfirmed c d).sched = d.sched ∧
      (stopConfirmed c d).windows = d.windows ∧ (stopConfirmed c d).rounds = d.rounds ∧
      (stopConfirmed c d).probes = d.probes ∧ (stopConfirmed c d).taps = d.taps ∧ (stopConfirmed c d).lead = d.lead ∧
      (stopConfirmed c d).follower = d.follower ∧ (stopConfirmed c d).framer = d.framer ∧
      (stopConfirmed c d).areas = d.areas ∧ (stopConfirmed c d).walks = d.walks ∧
      (stopConfirmed c d).classifier = d.classifier ∧ (stopConfirmed c d).journal = d.journal ∧
      (stopConfirmed c d).dma = d.dma := by
  simp [stopConfirmed]

@[simp] theorem freeRecord_keeps (r : Fin 16) (d : Device) :
    (freeRecord r d).now = d.now ∧ (freeRecord r d).fuses = d.fuses ∧ (freeRecord r d).regs = d.regs ∧
      (freeRecord r d).iface = d.iface ∧ (freeRecord r d).identity = d.identity ∧ (freeRecord r d).slots = d.slots ∧
      (freeRecord r d).sched = d.sched ∧ (freeRecord r d).windows = d.windows ∧ (freeRecord r d).rounds = d.rounds ∧
      (freeRecord r d).launch = d.launch ∧ (freeRecord r d).tones = d.tones ∧ (freeRecord r d).taps = d.taps ∧
      (freeRecord r d).lead = d.lead ∧ (freeRecord r d).follower = d.follower ∧ (freeRecord r d).framer = d.framer ∧
      (freeRecord r d).areas = d.areas ∧ (freeRecord r d).walks = d.walks ∧
      (freeRecord r d).classifier = d.classifier ∧ (freeRecord r d).journal = d.journal ∧
      (freeRecord r d).dma = d.dma := by
  simp [freeRecord]

@[simp] theorem setCircuit_keeps (n : Fin 8) (c : Nat) (e : CircuitEntry) (d : Device) :
    (setCircuit d n c e).now = d.now ∧ (setCircuit d n c e).fuses = d.fuses ∧ (setCircuit d n c e).regs = d.regs ∧
      (setCircuit d n c e).iface = d.iface ∧ (setCircuit d n c e).identity = d.identity ∧
      (setCircuit d n c e).slots = d.slots ∧ (setCircuit d n c e).windows = d.windows ∧
      (setCircuit d n c e).rounds = d.rounds ∧ (setCircuit d n c e).probes = d.probes ∧
      (setCircuit d n c e).launch = d.launch ∧ (setCircuit d n c e).tones = d.tones ∧
      (setCircuit d n c e).taps = d.taps ∧ (setCircuit d n c e).lead = d.lead ∧
      (setCircuit d n c e).follower = d.follower ∧ (setCircuit d n c e).framer = d.framer ∧
      (setCircuit d n c e).areas = d.areas ∧ (setCircuit d n c e).walks = d.walks ∧
      (setCircuit d n c e).classifier = d.classifier ∧ (setCircuit d n c e).journal = d.journal ∧
      (setCircuit d n c e).dma = d.dma := by
  simp [setCircuit]

@[simp] theorem setStatus_keeps (n : Fin 8) (c : Nat) (st : CircuitStatus) (d : Device) :
    (setStatus n c st d).now = d.now ∧ (setStatus n c st d).fuses = d.fuses ∧ (setStatus n c st d).regs = d.regs ∧
      (setStatus n c st d).iface = d.iface ∧ (setStatus n c st d).identity = d.identity ∧
      (setStatus n c st d).slots = d.slots ∧ (setStatus n c st d).windows = d.windows ∧
      (setStatus n c st d).rounds = d.rounds ∧ (setStatus n c st d).probes = d.probes ∧
      (setStatus n c st d).launch = d.launch ∧ (setStatus n c st d).tones = d.tones ∧
      (setStatus n c st d).taps = d.taps ∧ (setStatus n c st d).lead = d.lead ∧
      (setStatus n c st d).follower = d.follower ∧ (setStatus n c st d).framer = d.framer ∧
      (setStatus n c st d).areas = d.areas ∧ (setStatus n c st d).walks = d.walks ∧
      (setStatus n c st d).classifier = d.classifier ∧ (setStatus n c st d).journal = d.journal ∧
      (setStatus n c st d).dma = d.dma := by
  simp [setStatus]

@[simp] theorem voidProbe_keeps (r : Fin 16) (d : Device) :
    (voidProbe r d).now = d.now ∧ (voidProbe r d).fuses = d.fuses ∧ (voidProbe r d).regs = d.regs ∧
      (voidProbe r d).iface = d.iface ∧ (voidProbe r d).identity = d.identity ∧ (voidProbe r d).slots = d.slots ∧
      (voidProbe r d).windows = d.windows ∧ (voidProbe r d).rounds = d.rounds ∧ (voidProbe r d).taps = d.taps ∧
      (voidProbe r d).lead = d.lead ∧ (voidProbe r d).follower = d.follower ∧ (voidProbe r d).framer = d.framer ∧
      (voidProbe r d).areas = d.areas ∧ (voidProbe r d).walks = d.walks ∧ (voidProbe r d).classifier = d.classifier ∧
      (voidProbe r d).journal = d.journal ∧ (voidProbe r d).dma = d.dma := by
  obtain ⟨p, c, l, t, h, _⟩ := voidProbe_frame r d
  simp [h]

@[simp] theorem voidProbes_keeps (sel : Probe → Bool) (d : Device) :
    (voidProbes sel d).now = d.now ∧ (voidProbes sel d).fuses = d.fuses ∧ (voidProbes sel d).regs = d.regs ∧
      (voidProbes sel d).iface = d.iface ∧ (voidProbes sel d).identity = d.identity ∧
      (voidProbes sel d).slots = d.slots ∧ (voidProbes sel d).windows = d.windows ∧
      (voidProbes sel d).rounds = d.rounds ∧ (voidProbes sel d).taps = d.taps ∧ (voidProbes sel d).lead = d.lead ∧
      (voidProbes sel d).follower = d.follower ∧ (voidProbes sel d).framer = d.framer ∧
      (voidProbes sel d).areas = d.areas ∧ (voidProbes sel d).walks = d.walks ∧
      (voidProbes sel d).classifier = d.classifier ∧ (voidProbes sel d).journal = d.journal ∧
      (voidProbes sel d).dma = d.dma := by
  obtain ⟨p, c, l, t, h, _⟩ := voidProbes_frame sel d
  simp [h]

@[simp] theorem evaluateRecord_keeps (r : Fin 16) (p : Probe) (d : Device) :
    (evaluateRecord r p d).now = d.now ∧ (evaluateRecord r p d).fuses = d.fuses ∧
      (evaluateRecord r p d).regs = d.regs ∧ (evaluateRecord r p d).iface = d.iface ∧
      (evaluateRecord r p d).identity = d.identity ∧ (evaluateRecord r p d).slots = d.slots ∧
      (evaluateRecord r p d).sched = d.sched ∧ (evaluateRecord r p d).windows = d.windows ∧
      (evaluateRecord r p d).rounds = d.rounds ∧ (evaluateRecord r p d).tones = d.tones ∧
      (evaluateRecord r p d).taps = d.taps ∧ (evaluateRecord r p d).lead = d.lead ∧
      (evaluateRecord r p d).follower = d.follower ∧ (evaluateRecord r p d).framer = d.framer ∧
      (evaluateRecord r p d).areas = d.areas ∧ (evaluateRecord r p d).walks = d.walks ∧
      (evaluateRecord r p d).classifier = d.classifier ∧ (evaluateRecord r p d).journal = d.journal := by
  obtain ⟨q, l, x, h, _⟩ := evaluateRecord_frame r p d
  simp [h]

@[simp] theorem launchFault_keeps (r : Fin 16) (p : Probe) (c : LaunchCause) (f : Bool) (d : Device) :
    (launchFault r p c f d).now = d.now ∧ (launchFault r p c f d).fuses = d.fuses ∧
      (launchFault r p c f d).iface = d.iface ∧ (launchFault r p c f d).identity = d.identity ∧
      (launchFault r p c f d).slots = d.slots ∧ (launchFault r p c f d).sched = d.sched ∧
      (launchFault r p c f d).windows = d.windows ∧ (launchFault r p c f d).rounds = d.rounds ∧
      (launchFault r p c f d).taps = d.taps ∧ (launchFault r p c f d).lead = d.lead ∧
      (launchFault r p c f d).follower = d.follower ∧ (launchFault r p c f d).framer = d.framer ∧
      (launchFault r p c f d).areas = d.areas ∧ (launchFault r p c f d).walks = d.walks ∧
      (launchFault r p c f d).classifier = d.classifier := by
  simp [launchFault]

@[simp] theorem completeEarly_keeps (r : Fin 16) (p : Probe) (d : Device) :
    (completeEarly r p d).now = d.now ∧ (completeEarly r p d).fuses = d.fuses ∧ (completeEarly r p d).regs = d.regs ∧
      (completeEarly r p d).iface = d.iface ∧ (completeEarly r p d).identity = d.identity ∧
      (completeEarly r p d).slots = d.slots ∧ (completeEarly r p d).sched = d.sched ∧
      (completeEarly r p d).windows = d.windows ∧ (completeEarly r p d).rounds = d.rounds ∧
      (completeEarly r p d).taps = d.taps ∧ (completeEarly r p d).lead = d.lead ∧
      (completeEarly r p d).follower = d.follower ∧ (completeEarly r p d).framer = d.framer ∧
      (completeEarly r p d).areas = d.areas ∧ (completeEarly r p d).walks = d.walks ∧
      (completeEarly r p d).classifier = d.classifier ∧ (completeEarly r p d).journal = d.journal := by
  unfold completeEarly
  split <;> simp

@[simp] theorem moveProbe_keeps (r : Fin 16) (d : Device) :
    (moveProbe d r).now = d.now ∧ (moveProbe d r).fuses = d.fuses ∧ (moveProbe d r).regs = d.regs ∧
      (moveProbe d r).iface = d.iface ∧ (moveProbe d r).identity = d.identity ∧ (moveProbe d r).slots = d.slots ∧
      (moveProbe d r).sched = d.sched ∧ (moveProbe d r).windows = d.windows ∧ (moveProbe d r).rounds = d.rounds ∧
      (moveProbe d r).taps = d.taps ∧ (moveProbe d r).lead = d.lead ∧ (moveProbe d r).follower = d.follower ∧
      (moveProbe d r).framer = d.framer ∧ (moveProbe d r).areas = d.areas ∧ (moveProbe d r).walks = d.walks ∧
      (moveProbe d r).classifier = d.classifier ∧ (moveProbe d r).journal = d.journal := by
  unfold moveProbe
  dsimp only
  (repeat' split) <;> simp

@[simp] theorem moveProbes_keeps (d : Device) :
    (moveProbes d).now = d.now ∧ (moveProbes d).fuses = d.fuses ∧ (moveProbes d).regs = d.regs ∧
      (moveProbes d).iface = d.iface ∧ (moveProbes d).identity = d.identity ∧ (moveProbes d).slots = d.slots ∧
      (moveProbes d).sched = d.sched ∧ (moveProbes d).windows = d.windows ∧ (moveProbes d).rounds = d.rounds ∧
      (moveProbes d).taps = d.taps ∧ (moveProbes d).lead = d.lead ∧ (moveProbes d).follower = d.follower ∧
      (moveProbes d).framer = d.framer ∧ (moveProbes d).areas = d.areas ∧ (moveProbes d).walks = d.walks ∧
      (moveProbes d).classifier = d.classifier ∧ (moveProbes d).journal = d.journal := by
  unfold moveProbes
  simp only [requestStops_keeps]
  refine ⟨?_, ?_, ?_, ?_, ?_, ?_, ?_, ?_, ?_, ?_, ?_, ?_, ?_, ?_, ?_, ?_, ?_⟩ <;> exact foldl_keeps _ _ (by simp) _ _

@[simp] theorem discardStage_keeps (n : Fin 8) (d : Device) :
    (discardStage n d).now = d.now ∧ (discardStage n d).fuses = d.fuses ∧ (discardStage n d).regs = d.regs ∧
      (discardStage n d).iface = d.iface ∧ (discardStage n d).identity = d.identity ∧
      (discardStage n d).slots = d.slots ∧ (discardStage n d).windows = d.windows ∧
      (discardStage n d).rounds = d.rounds ∧ (discardStage n d).probes = d.probes ∧
      (discardStage n d).launch = d.launch ∧ (discardStage n d).tones = d.tones ∧ (discardStage n d).taps = d.taps ∧
      (discardStage n d).lead = d.lead ∧ (discardStage n d).follower = d.follower ∧
      (discardStage n d).framer = d.framer ∧ (discardStage n d).areas = d.areas ∧
      (discardStage n d).walks = d.walks ∧ (discardStage n d).classifier = d.classifier ∧
      (discardStage n d).journal = d.journal ∧ (discardStage n d).dma = d.dma := by
  simp [discardStage]

@[simp] theorem drainSlot_keeps (n : Fin 8) (r : Reason) (d : Device) :
    (drainSlot n r d).now = d.now ∧ (drainSlot n r d).fuses = d.fuses ∧ (drainSlot n r d).regs = d.regs ∧
      (drainSlot n r d).iface = d.iface ∧ (drainSlot n r d).identity = d.identity ∧
      (drainSlot n r d).windows = d.windows ∧ (drainSlot n r d).rounds = d.rounds ∧ (drainSlot n r d).taps = d.taps ∧
      (drainSlot n r d).lead = d.lead ∧ (drainSlot n r d).follower = d.follower ∧
      (drainSlot n r d).framer = d.framer ∧ (drainSlot n r d).areas = d.areas ∧ (drainSlot n r d).walks = d.walks ∧
      (drainSlot n r d).classifier = d.classifier ∧ (drainSlot n r d).journal = d.journal := by
  obtain ⟨y, p, c, l, t, x, h, _⟩ := drainSlot_frame n r d
  simp [h]

/-- The probe records after an evaluation: the record is freed when its verdict is withheld, else it stays EVALUATING. -/
theorem evaluateRecord_records (r q : Fin 16) (p : Probe) (d : Device) :
    (evaluateRecord r p d).probes.records[q] =
      if q = r then (if verdictWithheld p.slot d = true then none else some { p with state := .evaluating })
      else d.probes.records[q] := by
  have hv : verdictWithheld p.slot ((releaseOwner p.ctx r d).setRecord r (some { p with state := .evaluating })) =
      verdictWithheld p.slot d := by
    simp [verdictWithheld, canAccess]
  unfold evaluateRecord
  dsimp only
  rw [hv]
  split
  · simp [freeRecord, -Fin.getElem_fin]
    split <;> rfl
  · simp [-Fin.getElem_fin]

/-- The contexts after an evaluation: the probe owns its context no more, and no state or timer changes. -/
theorem evaluateRecord_contexts (r : Fin 16) (p : Probe) (d : Device) :
    (evaluateRecord r p d).launch.contexts[p.ctx].owner ≠ some r ∧
    ∀ x : Fin 8, (evaluateRecord r p d).launch.contexts[x].timer = d.launch.contexts[x].timer ∧
      (evaluateRecord r p d).launch.contexts[x].state = d.launch.contexts[x].state := by
  have h : (evaluateRecord r p d).launch = (releaseOwner p.ctx r d).launch := by
    unfold evaluateRecord
    dsimp only
    split <;> simp [freeRecord]
  rw [h]
  unfold releaseOwner
  split
  · simp [-Fin.getElem_fin]
    intro x
    by_cases h : x = p.ctx <;> simp [h, -Fin.getElem_fin]
  · simp_all [-Fin.getElem_fin]

end Sys2Proof.Machine
end

