-- ==== Sys2Proof/Laws/BlockFrames.lean ====
section
/-! SUPPORT. What the blocks' reactions leave alone, in the form of Laws/Frames.lean: windows, round timer, detectors, link
controller, classifier, walks, and what a step settles at its end. -/

namespace Sys2Proof.Machine

@[simp] theorem takeWork_keeps (i : Fin 4) (d : Device) :
    (takeWork d i).now = d.now ∧ (takeWork d i).fuses = d.fuses ∧ (takeWork d i).regs = d.regs ∧
      (takeWork d i).iface = d.iface ∧ (takeWork d i).identity = d.identity ∧ (takeWork d i).slots = d.slots ∧
      (takeWork d i).sched = d.sched ∧ (takeWork d i).windows = d.windows ∧ (takeWork d i).rounds = d.rounds ∧
      (takeWork d i).probes = d.probes ∧ (takeWork d i).launch = d.launch ∧ (takeWork d i).tones = d.tones ∧
      (takeWork d i).lead = d.lead ∧ (takeWork d i).follower = d.follower ∧ (takeWork d i).framer = d.framer ∧
      (takeWork d i).areas = d.areas ∧ (takeWork d i).walks = d.walks ∧ (takeWork d i).classifier = d.classifier ∧
      (takeWork d i).journal = d.journal ∧ (takeWork d i).dma = d.dma := by
  unfold takeWork beginLook
  (repeat' split) <;> simp

@[simp] theorem takeAllWork_keeps (d : Device) :
    (takeAllWork d).now = d.now ∧ (takeAllWork d).fuses = d.fuses ∧ (takeAllWork d).regs = d.regs ∧
      (takeAllWork d).iface = d.iface ∧ (takeAllWork d).identity = d.identity ∧ (takeAllWork d).slots = d.slots ∧
      (takeAllWork d).sched = d.sched ∧ (takeAllWork d).windows = d.windows ∧ (takeAllWork d).rounds = d.rounds ∧
      (takeAllWork d).probes = d.probes ∧ (takeAllWork d).launch = d.launch ∧ (takeAllWork d).tones = d.tones ∧
      (takeAllWork d).lead = d.lead ∧ (takeAllWork d).follower = d.follower ∧ (takeAllWork d).framer = d.framer ∧
      (takeAllWork d).areas = d.areas ∧ (takeAllWork d).walks = d.walks ∧ (takeAllWork d).classifier = d.classifier ∧
      (takeAllWork d).journal = d.journal ∧ (takeAllWork d).dma = d.dma := by
  unfold takeAllWork
  refine ⟨?_, ?_, ?_, ?_, ?_, ?_, ?_, ?_, ?_, ?_, ?_, ?_, ?_, ?_, ?_, ?_, ?_, ?_, ?_, ?_⟩ <;> exact (foldl_keeps _ _ (by simp) _ _).trans rfl

@[simp] theorem planWatch_keeps (w : Watch) (d : Device) :
    (planWatch d w).now = d.now ∧ (planWatch d w).fuses = d.fuses ∧ (planWatch d w).regs = d.regs ∧
      (planWatch d w).iface = d.iface ∧ (planWatch d w).identity = d.identity ∧ (planWatch d w).slots = d.slots ∧
      (planWatch d w).sched = d.sched ∧ (planWatch d w).windows = d.windows ∧ (planWatch d w).rounds = d.rounds ∧
      (planWatch d w).probes = d.probes ∧ (planWatch d w).launch = d.launch ∧ (planWatch d w).tones = d.tones ∧
      (planWatch d w).lead = d.lead ∧ (planWatch d w).follower = d.follower ∧ (planWatch d w).framer = d.framer ∧
      (planWatch d w).areas = d.areas ∧ (planWatch d w).walks = d.walks ∧ (planWatch d w).classifier = d.classifier ∧
      (planWatch d w).journal = d.journal ∧ (planWatch d w).dma = d.dma := by
  simp [planWatch]

@[simp] theorem dropPlan_keeps (d : Device) :
    (dropPlan d).now = d.now ∧ (dropPlan d).fuses = d.fuses ∧ (dropPlan d).regs = d.regs ∧
      (dropPlan d).iface = d.iface ∧ (dropPlan d).identity = d.identity ∧ (dropPlan d).slots = d.slots ∧
      (dropPlan d).sched = d.sched ∧ (dropPlan d).windows = d.windows ∧ (dropPlan d).rounds = d.rounds ∧
      (dropPlan d).probes = d.probes ∧ (dropPlan d).launch = d.launch ∧ (dropPlan d).tones = d.tones ∧
      (dropPlan d).lead = d.lead ∧ (dropPlan d).follower = d.follower ∧ (dropPlan d).framer = d.framer ∧
      (dropPlan d).areas = d.areas ∧ (dropPlan d).walks = d.walks ∧ (dropPlan d).classifier = d.classifier ∧
      (dropPlan d).journal = d.journal ∧ (dropPlan d).dma = d.dma := by
  simp [dropPlan]

@[simp] theorem abandonLooks_keeps (d : Device) :
    (abandonLooks d).now = d.now ∧ (abandonLooks d).fuses = d.fuses ∧ (abandonLooks d).regs = d.regs ∧
      (abandonLooks d).iface = d.iface ∧ (abandonLooks d).identity = d.identity ∧ (abandonLooks d).slots = d.slots ∧
      (abandonLooks d).sched = d.sched ∧ (abandonLooks d).windows = d.windows ∧ (abandonLooks d).rounds = d.rounds ∧
      (abandonLooks d).probes = d.probes ∧ (abandonLooks d).launch = d.launch ∧ (abandonLooks d).tones = d.tones ∧
      (abandonLooks d).lead = d.lead ∧ (abandonLooks d).follower = d.follower ∧ (abandonLooks d).framer = d.framer ∧
      (abandonLooks d).areas = d.areas ∧ (abandonLooks d).walks = d.walks ∧
      (abandonLooks d).classifier = d.classifier ∧ (abandonLooks d).journal = d.journal ∧
      (abandonLooks d).dma = d.dma := by
  simp [abandonLooks]

@[simp] theorem stopDetectors_keeps (d : Device) :
    (stopDetectors d).now = d.now ∧ (stopDetectors d).fuses = d.fuses ∧ (stopDetectors d).regs = d.regs ∧
      (stopDetectors d).iface = d.iface ∧ (stopDetectors d).identity = d.identity ∧
      (stopDetectors d).slots = d.slots ∧ (stopDetectors d).sched = d.sched ∧ (stopDetectors d).windows = d.windows ∧
      (stopDetectors d).rounds = d.rounds ∧ (stopDetectors d).probes = d.probes ∧
      (stopDetectors d).launch = d.launch ∧ (stopDetectors d).tones = d.tones ∧ (stopDetectors d).lead = d.lead ∧
      (stopDetectors d).follower = d.follower ∧ (stopDetectors d).framer = d.framer ∧
      (stopDetectors d).areas = d.areas ∧ (stopDetectors d).walks = d.walks ∧
      (stopDetectors d).classifier = d.classifier ∧ (stopDetectors d).journal = d.journal ∧
      (stopDetectors d).dma = d.dma := by
  simp [stopDetectors]

@[simp] theorem pushQueue_keeps (xs : List Sighting) (d : Device) :
    (pushQueue xs d).now = d.now ∧ (pushQueue xs d).fuses = d.fuses ∧ (pushQueue xs d).regs = d.regs ∧
      (pushQueue xs d).iface = d.iface ∧ (pushQueue xs d).identity = d.identity ∧ (pushQueue xs d).slots = d.slots ∧
      (pushQueue xs d).sched = d.sched ∧ (pushQueue xs d).windows = d.windows ∧ (pushQueue xs d).rounds = d.rounds ∧
      (pushQueue xs d).probes = d.probes ∧ (pushQueue xs d).launch = d.launch ∧ (pushQueue xs d).tones = d.tones ∧
      (pushQueue xs d).taps = d.taps ∧ (pushQueue xs d).lead = d.lead ∧ (pushQueue xs d).follower = d.follower ∧
      (pushQueue xs d).framer = d.framer ∧ (pushQueue xs d).areas = d.areas ∧ (pushQueue xs d).walks = d.walks ∧
      (pushQueue xs d).journal = d.journal ∧ (pushQueue xs d).dma = d.dma := by
  simp [pushQueue]

@[simp] theorem serveDetector_keeps (i : Fin 4) (d : Device) :
    (serveDetector d i).now = d.now ∧ (serveDetector d i).fuses = d.fuses ∧ (serveDetector d i).regs = d.regs ∧
      (serveDetector d i).iface = d.iface ∧ (serveDetector d i).identity = d.identity ∧
      (serveDetector d i).slots = d.slots ∧ (serveDetector d i).sched = d.sched ∧
      (serveDetector d i).windows = d.windows ∧ (serveDetector d i).rounds = d.rounds ∧
      (serveDetector d i).probes = d.probes ∧ (serveDetector d i).launch = d.launch ∧
      (serveDetector d i).tones = d.tones ∧ (serveDetector d i).lead = d.lead ∧
      (serveDetector d i).follower = d.follower ∧ (serveDetector d i).framer = d.framer ∧
      (serveDetector d i).areas = d.areas ∧ (serveDetector d i).walks = d.walks ∧
      (serveDetector d i).journal = d.journal ∧ (serveDetector d i).dma = d.dma := by
  unfold serveDetector
  dsimp only
  (repeat' split) <;> simp

@[simp] theorem serveInTurn_keeps (i : Fin 4) (d : Device) :
    (serveInTurn d i).now = d.now ∧ (serveInTurn d i).fuses = d.fuses ∧ (serveInTurn d i).regs = d.regs ∧
      (serveInTurn d i).iface = d.iface ∧ (serveInTurn d i).identity = d.identity ∧
      (serveInTurn d i).slots = d.slots ∧ (serveInTurn d i).sched = d.sched ∧ (serveInTurn d i).windows = d.windows ∧
      (serveInTurn d i).rounds = d.rounds ∧ (serveInTurn d i).probes = d.probes ∧
      (serveInTurn d i).launch = d.launch ∧ (serveInTurn d i).tones = d.tones ∧ (serveInTurn d i).lead = d.lead ∧
      (serveInTurn d i).follower = d.follower ∧ (serveInTurn d i).framer = d.framer ∧
      (serveInTurn d i).areas = d.areas ∧ (serveInTurn d i).walks = d.walks ∧ (serveInTurn d i).journal = d.journal ∧
      (serveInTurn d i).dma = d.dma := by
  unfold serveInTurn
  (repeat' split) <;> simp

@[simp] theorem serveHolding_keeps (d : Device) :
    (serveHolding d).now = d.now ∧ (serveHolding d).fuses = d.fuses ∧ (serveHolding d).regs = d.regs ∧
      (serveHolding d).iface = d.iface ∧ (serveHolding d).identity = d.identity ∧ (serveHolding d).slots = d.slots ∧
      (serveHolding d).sched = d.sched ∧ (serveHolding d).windows = d.windows ∧ (serveHolding d).rounds = d.rounds ∧
      (serveHolding d).probes = d.probes ∧ (serveHolding d).launch = d.launch ∧ (serveHolding d).tones = d.tones ∧
      (serveHolding d).lead = d.lead ∧ (serveHolding d).follower = d.follower ∧ (serveHolding d).framer = d.framer ∧
      (serveHolding d).areas = d.areas ∧ (serveHolding d).walks = d.walks ∧ (serveHolding d).journal = d.journal ∧
      (serveHolding d).dma = d.dma := by
  unfold serveHolding
  refine ⟨?_, ?_, ?_, ?_, ?_, ?_, ?_, ?_, ?_, ?_, ?_, ?_, ?_, ?_, ?_, ?_, ?_, ?_, ?_⟩ <;> exact (foldl_keeps _ _ (by simp) _ _).trans rfl

@[simp] theorem offerLocal_keeps (i : Fin 4) (xs : List Sighting) (d : Device) :
    (offerLocal i xs d).now = d.now ∧ (offerLocal i xs d).fuses = d.fuses ∧ (offerLocal i xs d).regs = d.regs ∧
      (offerLocal i xs d).iface = d.iface ∧ (offerLocal i xs d).identity = d.identity ∧
      (offerLocal i xs d).slots = d.slots ∧ (offerLocal i xs d).sched = d.sched ∧
      (offerLocal i xs d).windows = d.windows ∧ (offerLocal i xs d).rounds = d.rounds ∧
      (offerLocal i xs d).probes = d.probes ∧ (offerLocal i xs d).launch = d.launch ∧
      (offerLocal i xs d).tones = d.tones ∧ (offerLocal i xs d).lead = d.lead ∧
      (offerLocal i xs d).follower = d.follower ∧ (offerLocal i xs d).framer = d.framer ∧
      (offerLocal i xs d).areas = d.areas ∧ (offerLocal i xs d).walks = d.walks ∧
      (offerLocal i xs d).journal = d.journal ∧ (offerLocal i xs d).dma = d.dma := by
  unfold offerLocal
  (repeat' split) <;> simp

@[simp] theorem holdSighting_keeps (x : Sighting) (d : Device) :
    (holdSighting d x).now = d.now ∧ (holdSighting d x).fuses = d.fuses ∧ (holdSighting d x).regs = d.regs ∧
      (holdSighting d x).iface = d.iface ∧ (holdSighting d x).identity = d.identity ∧
      (holdSighting d x).slots = d.slots ∧ (holdSighting d x).sched = d.sched ∧
      (holdSighting d x).windows = d.windows ∧ (holdSighting d x).rounds = d.rounds ∧
      (holdSighting d x).probes = d.probes ∧ (holdSighting d x).launch = d.launch ∧
      (holdSighting d x).tones = d.tones ∧ (holdSighting d x).taps = d.taps ∧ (holdSighting d x).lead = d.lead ∧
      (holdSighting d x).framer = d.framer ∧ (holdSighting d x).areas = d.areas ∧
      (holdSighting d x).walks = d.walks ∧ (holdSighting d x).classifier = d.classifier ∧
      (holdSighting d x).journal = d.journal ∧ (holdSighting d x).dma = d.dma := by
  unfold holdSighting
  (repeat' split) <;> simp

@[simp] theorem holdAll_keeps (i : Fin 4) (xs : List Sighting) (d : Device) :
    (holdAll i xs d).now = d.now ∧ (holdAll i xs d).fuses = d.fuses ∧ (holdAll i xs d).regs = d.regs ∧
      (holdAll i xs d).iface = d.iface ∧ (holdAll i xs d).identity = d.identity ∧ (holdAll i xs d).slots = d.slots ∧
      (holdAll i xs d).sched = d.sched ∧ (holdAll i xs d).windows = d.windows ∧ (holdAll i xs d).rounds = d.rounds ∧
      (holdAll i xs d).probes = d.probes ∧ (holdAll i xs d).launch = d.launch ∧ (holdAll i xs d).tones = d.tones ∧
      (holdAll i xs d).lead = d.lead ∧ (holdAll i xs d).framer = d.framer ∧ (holdAll i xs d).areas = d.areas ∧
      (holdAll i xs d).walks = d.walks ∧ (holdAll i xs d).classifier = d.classifier ∧
      (holdAll i xs d).journal = d.journal := by
  unfold holdAll
  dsimp only
  split <;> simp
  all_goals refine ⟨?_, ?_, ?_, ?_, ?_, ?_, ?_, ?_, ?_, ?_, ?_, ?_, ?_, ?_, ?_, ?_, ?_, ?_⟩ <;> exact foldl_keeps _ _ (by simp) _ _

@[simp] theorem endLook_keeps (i : Fin 4) (l : Look) (found : List FoundTone) (d : Device) :
    (endLook i l found d).fuses = d.fuses ∧ (endLook i l found d).regs = d.regs ∧
      (endLook i l found d).iface = d.iface ∧ (endLook i l found d).identity = d.identity ∧
      (endLook i l found d).slots = d.slots ∧ (endLook i l found d).sched = d.sched ∧
      (endLook i l found d).windows = d.windows ∧ (endLook i l found d).rounds = d.rounds ∧
      (endLook i l found d).probes = d.probes ∧ (endLook i l found d).launch = d.launch ∧
      (endLook i l found d).tones = d.tones ∧ (endLook i l found d).lead = d.lead ∧
      (endLook i l found d).framer = d.framer ∧ (endLook i l found d).areas = d.areas ∧
      (endLook i l found d).walks = d.walks ∧ (endLook i l found d).journal = d.journal := by
  unfold endLook
  dsimp only
  (repeat' split) <;> simp

@[simp] theorem updateWindow_keeps (w : Fin 4) (x : Window) (d : Device) :
    (updateWindow w x d).now = d.now ∧ (updateWindow w x d).fuses = d.fuses ∧ (updateWindow w x d).regs = d.regs ∧
      (updateWindow w x d).iface = d.iface ∧ (updateWindow w x d).identity = d.identity ∧
      (updateWindow w x d).slots = d.slots ∧ (updateWindow w x d).sched = d.sched ∧
      (updateWindow w x d).rounds = d.rounds ∧ (updateWindow w x d).probes = d.probes ∧
      (updateWindow w x d).launch = d.launch ∧ (updateWindow w x d).tones = d.tones ∧
      (updateWindow w x d).taps = d.taps ∧ (updateWindow w x d).lead = d.lead ∧
      (updateWindow w x d).follower = d.follower ∧ (updateWindow w x d).framer = d.framer ∧
      (updateWindow w x d).areas = d.areas ∧ (updateWindow w x d).walks = d.walks ∧
      (updateWindow w x d).classifier = d.classifier ∧ (updateWindow w x d).journal = d.journal := by
  unfold updateWindow
  (repeat' split) <;> simp

@[simp] theorem moveSlot_keeps (n : Fin 8) (st : SlotState) (d : Device) :
    (moveSlot n st d).now = d.now ∧ (moveSlot n st d).fuses = d.fuses ∧ (moveSlot n st d).regs = d.regs ∧
      (moveSlot n st d).iface = d.iface ∧ (moveSlot n st d).identity = d.identity ∧
      (moveSlot n st d).sched = d.sched ∧ (moveSlot n st d).windows = d.windows ∧
      (moveSlot n st d).rounds = d.rounds ∧ (moveSlot n st d).probes = d.probes ∧
      (moveSlot n st d).launch = d.launch ∧ (moveSlot n st d).tones = d.tones ∧ (moveSlot n st d).taps = d.taps ∧
      (moveSlot n st d).lead = d.lead ∧ (moveSlot n st d).follower = d.follower ∧
      (moveSlot n st d).framer = d.framer ∧ (moveSlot n st d).areas = d.areas ∧ (moveSlot n st d).walks = d.walks ∧
      (moveSlot n st d).classifier = d.classifier ∧ (moveSlot n st d).journal = d.journal := by
  simp [moveSlot]

@[simp] theorem suspendBound_keeps (ws : List (Fin 4)) (d : Device) :
    (suspendBound ws d).now = d.now ∧ (suspendBound ws d).fuses = d.fuses ∧ (suspendBound ws d).regs = d.regs ∧
      (suspendBound ws d).iface = d.iface ∧ (suspendBound ws d).identity = d.identity ∧
      (suspendBound ws d).windows = d.windows ∧ (suspendBound ws d).rounds = d.rounds ∧
      (suspendBound ws d).taps = d.taps ∧ (suspendBound ws d).lead = d.lead ∧
      (suspendBound ws d).follower = d.follower ∧ (suspendBound ws d).framer = d.framer ∧
      (suspendBound ws d).areas = d.areas ∧ (suspendBound ws d).walks = d.walks ∧
      (suspendBound ws d).classifier = d.classifier ∧ (suspendBound ws d).journal = d.journal := by
  unfold suspendBound
  dsimp only
  simp only [voidProbes_keeps]
  refine ⟨?_, ?_, ?_, ?_, ?_, ?_, ?_, ?_, ?_, ?_, ?_, ?_, ?_, ?_, ?_⟩ <;> exact foldl_keeps _ _ (by simp) _ _

@[simp] theorem resumeBound_keeps (ws : List (Fin 4)) (d : Device) :
    (resumeBound ws d).now = d.now ∧ (resumeBound ws d).fuses = d.fuses ∧ (resumeBound ws d).regs = d.regs ∧
      (resumeBound ws d).iface = d.iface ∧ (resumeBound ws d).identity = d.identity ∧
      (resumeBound ws d).sched = d.sched ∧ (resumeBound ws d).windows = d.windows ∧
      (resumeBound ws d).rounds = d.rounds ∧ (resumeBound ws d).probes = d.probes ∧
      (resumeBound ws d).launch = d.launch ∧ (resumeBound ws d).tones = d.tones ∧ (resumeBound ws d).taps = d.taps ∧
      (resumeBound ws d).lead = d.lead ∧ (resumeBound ws d).follower = d.follower ∧
      (resumeBound ws d).framer = d.framer ∧ (resumeBound ws d).areas = d.areas ∧
      (resumeBound ws d).walks = d.walks ∧ (resumeBound ws d).classifier = d.classifier ∧
      (resumeBound ws d).journal = d.journal := by
  unfold resumeBound
  refine ⟨?_, ?_, ?_, ?_, ?_, ?_, ?_, ?_, ?_, ?_, ?_, ?_, ?_, ?_, ?_, ?_, ?_, ?_, ?_⟩ <;> exact (foldl_keeps _ _ (by simp) _ _).trans rfl

@[simp] theorem settleWindows_keeps (d : Device) :
    (settleWindows d).now = d.now ∧ (settleWindows d).fuses = d.fuses ∧ (settleWindows d).regs = d.regs ∧
      (settleWindows d).iface = d.iface ∧ (settleWindows d).identity = d.identity ∧
      (settleWindows d).sched = d.sched ∧ (settleWindows d).rounds = d.rounds ∧ (settleWindows d).probes = d.probes ∧
      (settleWindows d).launch = d.launch ∧ (settleWindows d).tones = d.tones ∧ (settleWindows d).taps = d.taps ∧
      (settleWindows d).lead = d.lead ∧ (settleWindows d).follower = d.follower ∧
      (settleWindows d).framer = d.framer ∧ (settleWindows d).areas = d.areas ∧ (settleWindows d).walks = d.walks ∧
      (settleWindows d).classifier = d.classifier ∧ (settleWindows d).journal = d.journal := by
  unfold settleWindows
  simp only [resumeBound_keeps]
  refine ⟨?_, ?_, ?_, ?_, ?_, ?_, ?_, ?_, ?_, ?_, ?_, ?_, ?_, ?_, ?_, ?_, ?_, ?_⟩ <;> exact foldl_keeps _ _ (by simp) _ _

@[simp] theorem applyWants_keeps (area : List Byte) (d : Device) :
    (applyWants area d).now = d.now ∧ (applyWants area d).fuses = d.fuses ∧ (applyWants area d).regs = d.regs ∧
      (applyWants area d).iface = d.iface ∧ (applyWants area d).identity = d.identity ∧
      (applyWants area d).rounds = d.rounds ∧ (applyWants area d).taps = d.taps ∧ (applyWants area d).lead = d.lead ∧
      (applyWants area d).follower = d.follower ∧ (applyWants area d).framer = d.framer ∧
      (applyWants area d).areas = d.areas ∧ (applyWants area d).walks = d.walks ∧
      (applyWants area d).classifier = d.classifier ∧ (applyWants area d).journal = d.journal := by
  unfold applyWants
  simp only [suspendBound_keeps]
  refine ⟨?_, ?_, ?_, ?_, ?_, ?_, ?_, ?_, ?_, ?_, ?_, ?_, ?_, ?_⟩ <;> exact foldl_keeps _ _ (by simp) _ _

@[simp] theorem freeTones_keeps (d : Device) :
    (freeTones d).now = d.now ∧ (freeTones d).fuses = d.fuses ∧ (freeTones d).regs = d.regs ∧
      (freeTones d).iface = d.iface ∧ (freeTones d).identity = d.identity ∧ (freeTones d).slots = d.slots ∧
      (freeTones d).sched = d.sched ∧ (freeTones d).windows = d.windows ∧ (freeTones d).rounds = d.rounds ∧
      (freeTones d).probes = d.probes ∧ (freeTones d).launch = d.launch ∧ (freeTones d).taps = d.taps ∧
      (freeTones d).lead = d.lead ∧ (freeTones d).follower = d.follower ∧ (freeTones d).framer = d.framer ∧
      (freeTones d).areas = d.areas ∧ (freeTones d).walks = d.walks ∧ (freeTones d).classifier = d.classifier ∧
      (freeTones d).journal = d.journal ∧ (freeTones d).dma = d.dma := by
  simp [freeTones]

@[simp] theorem commonRoundStart_keeps (d : Device) :
    (commonRoundStart d).now = d.now ∧ (commonRoundStart d).fuses = d.fuses ∧ (commonRoundStart d).regs = d.regs ∧
      (commonRoundStart d).iface = d.iface ∧ (commonRoundStart d).identity = d.identity ∧
      (commonRoundStart d).sched = d.sched ∧ (commonRoundStart d).rounds = d.rounds ∧
      (commonRoundStart d).probes = d.probes ∧ (commonRoundStart d).launch = d.launch ∧
      (commonRoundStart d).taps = d.taps ∧ (commonRoundStart d).lead = d.lead ∧
      (commonRoundStart d).follower = d.follower ∧ (commonRoundStart d).framer = d.framer ∧
      (commonRoundStart d).areas = d.areas ∧ (commonRoundStart d).walks = d.walks ∧
      (commonRoundStart d).classifier = d.classifier := by
  simp [commonRoundStart]

@[simp] theorem applyTaps_keeps (t : Vector RawTap 32) (d : Device) :
    (applyTaps t d).now = d.now ∧ (applyTaps t d).fuses = d.fuses ∧ (applyTaps t d).regs = d.regs ∧
      (applyTaps t d).iface = d.iface ∧ (applyTaps t d).identity = d.identity ∧ (applyTaps t d).slots = d.slots ∧
      (applyTaps t d).sched = d.sched ∧ (applyTaps t d).windows = d.windows ∧ (applyTaps t d).rounds = d.rounds ∧
      (applyTaps t d).probes = d.probes ∧ (applyTaps t d).launch = d.launch ∧ (applyTaps t d).tones = d.tones ∧
      (applyTaps t d).lead = d.lead ∧ (applyTaps t d).follower = d.follower ∧ (applyTaps t d).framer = d.framer ∧
      (applyTaps t d).areas = d.areas ∧ (applyTaps t d).walks = d.walks ∧ (applyTaps t d).classifier = d.classifier ∧
      (applyTaps t d).journal = d.journal ∧ (applyTaps t d).dma = d.dma := by
  simp [applyTaps]

@[simp] theorem owePeerIfChanged_keeps (b : Vector Peer 16) (p : Fin 16) (d : Device) :
    (owePeerIfChanged b d p).now = d.now ∧ (owePeerIfChanged b d p).fuses = d.fuses ∧
      (owePeerIfChanged b d p).regs = d.regs ∧ (owePeerIfChanged b d p).iface = d.iface ∧
      (owePeerIfChanged b d p).identity = d.identity ∧ (owePeerIfChanged b d p).slots = d.slots ∧
      (owePeerIfChanged b d p).sched = d.sched ∧ (owePeerIfChanged b d p).windows = d.windows ∧
      (owePeerIfChanged b d p).rounds = d.rounds ∧ (owePeerIfChanged b d p).probes = d.probes ∧
      (owePeerIfChanged b d p).launch = d.launch ∧ (owePeerIfChanged b d p).tones = d.tones ∧
      (owePeerIfChanged b d p).taps = d.taps ∧ (owePeerIfChanged b d p).lead = d.lead ∧
      (owePeerIfChanged b d p).follower = d.follower ∧ (owePeerIfChanged b d p).framer = d.framer ∧
      (owePeerIfChanged b d p).areas = d.areas ∧ (owePeerIfChanged b d p).walks = d.walks ∧
      (owePeerIfChanged b d p).classifier = d.classifier ∧ (owePeerIfChanged b d p).journal = d.journal := by
  unfold owePeerIfChanged
  (repeat' split) <;> simp

@[simp] theorem owePeers_keeps (b : Vector Peer 16) (d : Device) :
    (owePeers b d).now = d.now ∧ (owePeers b d).fuses = d.fuses ∧ (owePeers b d).regs = d.regs ∧
      (owePeers b d).iface = d.iface ∧ (owePeers b d).identity = d.identity ∧ (owePeers b d).slots = d.slots ∧
      (owePeers b d).sched = d.sched ∧ (owePeers b d).windows = d.windows ∧ (owePeers b d).rounds = d.rounds ∧
      (owePeers b d).probes = d.probes ∧ (owePeers b d).launch = d.launch ∧ (owePeers b d).tones = d.tones ∧
      (owePeers b d).taps = d.taps ∧ (owePeers b d).lead = d.lead ∧ (owePeers b d).follower = d.follower ∧
      (owePeers b d).framer = d.framer ∧ (owePeers b d).areas = d.areas ∧ (owePeers b d).walks = d.walks ∧
      (owePeers b d).classifier = d.classifier ∧ (owePeers b d).journal = d.journal := by
  unfold owePeers
  split
  · refine ⟨?_, ?_, ?_, ?_, ?_, ?_, ?_, ?_, ?_, ?_, ?_, ?_, ?_, ?_, ?_, ?_, ?_, ?_, ?_, ?_⟩ <;> exact foldl_keeps _ _ (by simp) _ _
  · simp

@[simp] theorem applyPeers_keeps (t : Vector RawPeer 16) (d : Device) :
    (applyPeers t d).now = d.now ∧ (applyPeers t d).fuses = d.fuses ∧ (applyPeers t d).regs = d.regs ∧
      (applyPeers t d).iface = d.iface ∧ (applyPeers t d).identity = d.identity ∧ (applyPeers t d).slots = d.slots ∧
      (applyPeers t d).sched = d.sched ∧ (applyPeers t d).windows = d.windows ∧ (applyPeers t d).rounds = d.rounds ∧
      (applyPeers t d).probes = d.probes ∧ (applyPeers t d).launch = d.launch ∧ (applyPeers t d).tones = d.tones ∧
      (applyPeers t d).taps = d.taps ∧ (applyPeers t d).follower = d.follower ∧ (applyPeers t d).framer = d.framer ∧
      (applyPeers t d).areas = d.areas ∧ (applyPeers t d).walks = d.walks ∧
      (applyPeers t d).classifier = d.classifier ∧ (applyPeers t d).journal = d.journal := by
  simp [applyPeers]

@[simp] theorem applyStaged_keeps (d : Device) :
    (applyStaged d).now = d.now ∧ (applyStaged d).fuses = d.fuses ∧ (applyStaged d).regs = d.regs ∧
      (applyStaged d).iface = d.iface ∧ (applyStaged d).identity = d.identity ∧ (applyStaged d).slots = d.slots ∧
      (applyStaged d).sched = d.sched ∧ (applyStaged d).windows = d.windows ∧ (applyStaged d).probes = d.probes ∧
      (applyStaged d).launch = d.launch ∧ (applyStaged d).tones = d.tones ∧ (applyStaged d).follower = d.follower ∧
      (applyStaged d).framer = d.framer ∧ (applyStaged d).areas = d.areas ∧ (applyStaged d).walks = d.walks ∧
      (applyStaged d).classifier = d.classifier ∧ (applyStaged d).journal = d.journal := by
  unfold applyStaged
  (repeat' split) <;> simp

@[simp] theorem reportSilent_keeps (b : Vector Peer 16) (p : Fin 16) (d : Device) :
    (reportSilent b d p).now = d.now ∧ (reportSilent b d p).fuses = d.fuses ∧ (reportSilent b d p).iface = d.iface ∧
      (reportSilent b d p).identity = d.identity ∧ (reportSilent b d p).slots = d.slots ∧
      (reportSilent b d p).sched = d.sched ∧ (reportSilent b d p).windows = d.windows ∧
      (reportSilent b d p).rounds = d.rounds ∧ (reportSilent b d p).probes = d.probes ∧
      (reportSilent b d p).launch = d.launch ∧ (reportSilent b d p).tones = d.tones ∧
      (reportSilent b d p).taps = d.taps ∧ (reportSilent b d p).lead = d.lead ∧
      (reportSilent b d p).follower = d.follower ∧ (reportSilent b d p).framer = d.framer ∧
      (reportSilent b d p).areas = d.areas ∧ (reportSilent b d p).walks = d.walks ∧
      (reportSilent b d p).classifier = d.classifier := by
  unfold reportSilent
  (repeat' split) <;> simp

@[simp] theorem countSilence_keeps (d : Device) :
    (countSilence d).now = d.now ∧ (countSilence d).fuses = d.fuses ∧ (countSilence d).iface = d.iface ∧
      (countSilence d).identity = d.identity ∧ (countSilence d).slots = d.slots ∧ (countSilence d).sched = d.sched ∧
      (countSilence d).windows = d.windows ∧ (countSilence d).rounds = d.rounds ∧
      (countSilence d).probes = d.probes ∧ (countSilence d).launch = d.launch ∧ (countSilence d).tones = d.tones ∧
      (countSilence d).taps = d.taps ∧ (countSilence d).follower = d.follower ∧ (countSilence d).framer = d.framer ∧
      (countSilence d).areas = d.areas ∧ (countSilence d).walks = d.walks ∧
      (countSilence d).classifier = d.classifier := by
  unfold countSilence
  refine ⟨?_, ?_, ?_, ?_, ?_, ?_, ?_, ?_, ?_, ?_, ?_, ?_, ?_, ?_, ?_, ?_, ?_⟩ <;> exact (foldl_keeps _ _ (by simp) _ _).trans rfl

@[simp] theorem placeMark_keeps (d : Device) :
    (placeMark d).now = d.now ∧ (placeMark d).fuses = d.fuses ∧ (placeMark d).regs = d.regs ∧
      (placeMark d).iface = d.iface ∧ (placeMark d).identity = d.identity ∧ (placeMark d).slots = d.slots ∧
      (placeMark d).sched = d.sched ∧ (placeMark d).windows = d.windows ∧ (placeMark d).rounds = d.rounds ∧
      (placeMark d).probes = d.probes ∧ (placeMark d).launch = d.launch ∧ (placeMark d).tones = d.tones ∧
      (placeMark d).taps = d.taps ∧ (placeMark d).follower = d.follower ∧ (placeMark d).framer = d.framer ∧
      (placeMark d).areas = d.areas ∧ (placeMark d).walks = d.walks ∧ (placeMark d).classifier = d.classifier ∧
      (placeMark d).journal = d.journal ∧ (placeMark d).dma = d.dma := by
  simp [placeMark]

@[simp] theorem linkRoundStart_keeps (d : Device) :
    (linkRoundStart d).now = d.now ∧ (linkRoundStart d).fuses = d.fuses ∧ (linkRoundStart d).iface = d.iface ∧
      (linkRoundStart d).identity = d.identity ∧ (linkRoundStart d).slots = d.slots ∧
      (linkRoundStart d).sched = d.sched ∧ (linkRoundStart d).windows = d.windows ∧
      (linkRoundStart d).rounds = d.rounds ∧ (linkRoundStart d).probes = d.probes ∧
      (linkRoundStart d).launch = d.launch ∧ (linkRoundStart d).tones = d.tones ∧ (linkRoundStart d).taps = d.taps ∧
      (linkRoundStart d).follower = d.follower ∧ (linkRoundStart d).framer = d.framer ∧
      (linkRoundStart d).areas = d.areas ∧ (linkRoundStart d).walks = d.walks ∧
      (linkRoundStart d).classifier = d.classifier := by
  simp [linkRoundStart]

@[simp] theorem scheduleRound_keeps (d : Device) :
    (scheduleRound d).now = d.now ∧ (scheduleRound d).fuses = d.fuses ∧ (scheduleRound d).regs = d.regs ∧
      (scheduleRound d).iface = d.iface ∧ (scheduleRound d).identity = d.identity ∧
      (scheduleRound d).slots = d.slots ∧ (scheduleRound d).sched = d.sched ∧ (scheduleRound d).windows = d.windows ∧
      (scheduleRound d).probes = d.probes ∧ (scheduleRound d).launch = d.launch ∧ (scheduleRound d).tones = d.tones ∧
      (scheduleRound d).taps = d.taps ∧ (scheduleRound d).lead = d.lead ∧ (scheduleRound d).follower = d.follower ∧
      (scheduleRound d).framer = d.framer ∧ (scheduleRound d).areas = d.areas ∧ (scheduleRound d).walks = d.walks ∧
      (scheduleRound d).classifier = d.classifier ∧ (scheduleRound d).journal = d.journal ∧
      (scheduleRound d).dma = d.dma := by
  simp [scheduleRound]

@[simp] theorem leadRoundStart_keeps (d : Device) :
    (leadRoundStart d).now = d.now ∧ (leadRoundStart d).fuses = d.fuses ∧ (leadRoundStart d).iface = d.iface ∧
      (leadRoundStart d).identity = d.identity ∧ (leadRoundStart d).sched = d.sched ∧
      (leadRoundStart d).follower = d.follower ∧ (leadRoundStart d).framer = d.framer ∧
      (leadRoundStart d).areas = d.areas ∧ (leadRoundStart d).walks = d.walks ∧
      (leadRoundStart d).classifier = d.classifier := by
  simp [leadRoundStart]

@[simp] theorem countHeader_keeps (h : HeaderCount) (d : Device) :
    (countHeader h d).now = d.now ∧ (countHeader h d).fuses = d.fuses ∧ (countHeader h d).regs = d.regs ∧
      (countHeader h d).iface = d.iface ∧ (countHeader h d).identity = d.identity ∧
      (countHeader h d).slots = d.slots ∧ (countHeader h d).sched = d.sched ∧ (countHeader h d).windows = d.windows ∧
      (countHeader h d).rounds = d.rounds ∧ (countHeader h d).probes = d.probes ∧
      (countHeader h d).launch = d.launch ∧ (countHeader h d).tones = d.tones ∧ (countHeader h d).taps = d.taps ∧
      (countHeader h d).lead = d.lead ∧ (countHeader h d).follower = d.follower ∧
      (countHeader h d).framer = d.framer ∧ (countHeader h d).areas = d.areas ∧ (countHeader h d).walks = d.walks ∧
      (countHeader h d).journal = d.journal := by
  simp [countHeader]

@[simp] theorem countSlot_keeps (k : SlotCount) (n : Fin 8) (g : Half) (d : Device) :
    (countSlot k n g d).now = d.now ∧ (countSlot k n g d).fuses = d.fuses ∧ (countSlot k n g d).regs = d.regs ∧
      (countSlot k n g d).iface = d.iface ∧ (countSlot k n g d).identity = d.identity ∧
      (countSlot k n g d).sched = d.sched ∧ (countSlot k n g d).windows = d.windows ∧
      (countSlot k n g d).rounds = d.rounds ∧ (countSlot k n g d).probes = d.probes ∧
      (countSlot k n g d).launch = d.launch ∧ (countSlot k n g d).tones = d.tones ∧
      (countSlot k n g d).taps = d.taps ∧ (countSlot k n g d).lead = d.lead ∧
      (countSlot k n g d).follower = d.follower ∧ (countSlot k n g d).framer = d.framer ∧
      (countSlot k n g d).areas = d.areas ∧ (countSlot k n g d).walks = d.walks ∧
      (countSlot k n g d).classifier = d.classifier ∧ (countSlot k n g d).journal = d.journal ∧
      (countSlot k n g d).dma = d.dma := by
  unfold countSlot
  (repeat' split) <;> simp

@[simp] theorem takeStray_keeps (x : Sighting) (d : Device) :
    (takeStray x d).now = d.now ∧ (takeStray x d).fuses = d.fuses ∧ (takeStray x d).iface = d.iface ∧
      (takeStray x d).identity = d.identity ∧ (takeStray x d).slots = d.slots ∧ (takeStray x d).sched = d.sched ∧
      (takeStray x d).windows = d.windows ∧ (takeStray x d).rounds = d.rounds ∧ (takeStray x d).probes = d.probes ∧
      (takeStray x d).launch = d.launch ∧ (takeStray x d).tones = d.tones ∧ (takeStray x d).taps = d.taps ∧
      (takeStray x d).lead = d.lead ∧ (takeStray x d).follower = d.follower ∧ (takeStray x d).framer = d.framer ∧
      (takeStray x d).areas = d.areas ∧ (takeStray x d).walks = d.walks := by
  simp [takeStray]

@[simp] theorem takeCross_keeps (r : Fin 16) (p : Probe) (o : Nat) (x : Sighting) (d : Device) :
    (takeCross r p o x d).now = d.now ∧ (takeCross r p o x d).fuses = d.fuses ∧
      (takeCross r p o x d).iface = d.iface ∧ (takeCross r p o x d).identity = d.identity ∧
      (takeCross r p o x d).slots = d.slots ∧ (takeCross r p o x d).sched = d.sched ∧
      (takeCross r p o x d).windows = d.windows ∧ (takeCross r p o x d).rounds = d.rounds ∧
      (takeCross r p o x d).launch = d.launch ∧ (takeCross r p o x d).tones = d.tones ∧
      (takeCross r p o x d).taps = d.taps ∧ (takeCross r p o x d).lead = d.lead ∧
      (takeCross r p o x d).follower = d.follower ∧ (takeCross r p o x d).framer = d.framer ∧
      (takeCross r p o x d).areas = d.areas ∧ (takeCross r p o x d).walks = d.walks ∧
      (takeCross r p o x d).classifier = d.classifier := by
  unfold takeCross
  (repeat' split) <;> simp

@[simp] theorem takeMisroute_keeps (r : Fin 16) (p : Probe) (x : Sighting) (d : Device) :
    (takeMisroute r p x d).now = d.now ∧ (takeMisroute r p x d).fuses = d.fuses ∧
      (takeMisroute r p x d).iface = d.iface ∧ (takeMisroute r p x d).identity = d.identity ∧
      (takeMisroute r p x d).slots = d.slots ∧ (takeMisroute r p x d).sched = d.sched ∧
      (takeMisroute r p x d).windows = d.windows ∧ (takeMisroute r p x d).rounds = d.rounds ∧
      (takeMisroute r p x d).launch = d.launch ∧ (takeMisroute r p x d).tones = d.tones ∧
      (takeMisroute r p x d).taps = d.taps ∧ (takeMisroute r p x d).lead = d.lead ∧
      (takeMisroute r p x d).follower = d.follower ∧ (takeMisroute r p x d).framer = d.framer ∧
      (takeMisroute r p x d).areas = d.areas ∧ (takeMisroute r p x d).walks = d.walks ∧
      (takeMisroute r p x d).classifier = d.classifier := by
  unfold takeMisroute
  (repeat' split) <;> simp

@[simp] theorem takeUnclassified_keeps (p : Probe) (x : Sighting) (d : Device) :
    (takeUnclassified p x d).now = d.now ∧ (takeUnclassified p x d).fuses = d.fuses ∧
      (takeUnclassified p x d).regs = d.regs ∧ (takeUnclassified p x d).iface = d.iface ∧
      (takeUnclassified p x d).identity = d.identity ∧ (takeUnclassified p x d).sched = d.sched ∧
      (takeUnclassified p x d).windows = d.windows ∧ (takeUnclassified p x d).rounds = d.rounds ∧
      (takeUnclassified p x d).probes = d.probes ∧ (takeUnclassified p x d).launch = d.launch ∧
      (takeUnclassified p x d).tones = d.tones ∧ (takeUnclassified p x d).taps = d.taps ∧
      (takeUnclassified p x d).lead = d.lead ∧ (takeUnclassified p x d).follower = d.follower ∧
      (takeUnclassified p x d).framer = d.framer ∧ (takeUnclassified p x d).areas = d.areas ∧
      (takeUnclassified p x d).walks = d.walks ∧ (takeUnclassified p x d).classifier = d.classifier ∧
      (takeUnclassified p x d).journal = d.journal ∧ (takeUnclassified p x d).dma = d.dma := by
  unfold takeUnclassified
  (repeat' split) <;> simp

@[simp] theorem offerLook_keeps (r : Fin 16) (p : Probe) (h : Nat) (hop : Hop) (x : Sighting) (d : Device) :
    (offerLook r p h hop x d).now = d.now ∧ (offerLook r p h hop x d).fuses = d.fuses ∧
      (offerLook r p h hop x d).iface = d.iface ∧ (offerLook r p h hop x d).identity = d.identity ∧
      (offerLook r p h hop x d).slots = d.slots ∧ (offerLook r p h hop x d).sched = d.sched ∧
      (offerLook r p h hop x d).windows = d.windows ∧ (offerLook r p h hop x d).rounds = d.rounds ∧
      (offerLook r p h hop x d).taps = d.taps ∧ (offerLook r p h hop x d).lead = d.lead ∧
      (offerLook r p h hop x d).follower = d.follower ∧ (offerLook r p h hop x d).framer = d.framer ∧
      (offerLook r p h hop x d).areas = d.areas ∧ (offerLook r p h hop x d).walks = d.walks ∧
      (offerLook r p h hop x d).classifier = d.classifier := by
  unfold offerLook
  dsimp only
  (repeat' split) <;> simp

@[simp] theorem applyAnswer_keeps (r : Fin 16) (p : Probe) (x : Sighting) (a : Answer) (d : Device) :
    (applyAnswer r p x a d).now = d.now ∧ (applyAnswer r p x a d).fuses = d.fuses ∧
      (applyAnswer r p x a d).iface = d.iface ∧ (applyAnswer r p x a d).identity = d.identity ∧
      (applyAnswer r p x a d).sched = d.sched ∧ (applyAnswer r p x a d).windows = d.windows ∧
      (applyAnswer r p x a d).rounds = d.rounds ∧ (applyAnswer r p x a d).taps = d.taps ∧
      (applyAnswer r p x a d).lead = d.lead ∧ (applyAnswer r p x a d).follower = d.follower ∧
      (applyAnswer r p x a d).framer = d.framer ∧ (applyAnswer r p x a d).areas = d.areas ∧
      (applyAnswer r p x a d).walks = d.walks ∧ (applyAnswer r p x a d).classifier = d.classifier := by
  unfold applyAnswer
  (repeat' split) <;> simp

@[simp] theorem applyBypass_keeps (r : Fin 16) (p : Probe) (x : Sighting) (d : Device) :
    (applyBypass r p x d).now = d.now ∧ (applyBypass r p x d).fuses = d.fuses ∧
      (applyBypass r p x d).iface = d.iface ∧ (applyBypass r p x d).identity = d.identity ∧
      (applyBypass r p x d).sched = d.sched ∧ (applyBypass r p x d).windows = d.windows ∧
      (applyBypass r p x d).rounds = d.rounds ∧ (applyBypass r p x d).taps = d.taps ∧
      (applyBypass r p x d).lead = d.lead ∧ (applyBypass r p x d).follower = d.follower ∧
      (applyBypass r p x d).framer = d.framer ∧ (applyBypass r p x d).areas = d.areas ∧
      (applyBypass r p x d).walks = d.walks ∧ (applyBypass r p x d).classifier = d.classifier := by
  unfold applyBypass
  (repeat' split) <;> simp

@[simp] theorem applyChecked_keeps (x : Sighting) (o : Checked) (d : Device) :
    (applyChecked x o d).now = d.now ∧ (applyChecked x o d).fuses = d.fuses ∧ (applyChecked x o d).iface = d.iface ∧
      (applyChecked x o d).identity = d.identity ∧ (applyChecked x o d).sched = d.sched ∧
      (applyChecked x o d).windows = d.windows ∧ (applyChecked x o d).rounds = d.rounds ∧
      (applyChecked x o d).probes = d.probes ∧ (applyChecked x o d).launch = d.launch ∧
      (applyChecked x o d).tones = d.tones ∧ (applyChecked x o d).taps = d.taps ∧
      (applyChecked x o d).lead = d.lead ∧ (applyChecked x o d).follower = d.follower ∧
      (applyChecked x o d).framer = d.framer ∧ (applyChecked x o d).areas = d.areas ∧
      (applyChecked x o d).walks = d.walks := by
  unfold applyChecked
  (repeat' split) <;> simp

@[simp] theorem depart_keeps (i : Nat) (d : Device) :
    (depart i d).now = d.now ∧ (depart i d).fuses = d.fuses ∧ (depart i d).regs = d.regs ∧
      (depart i d).iface = d.iface ∧ (depart i d).identity = d.identity ∧ (depart i d).slots = d.slots ∧
      (depart i d).sched = d.sched ∧ (depart i d).windows = d.windows ∧ (depart i d).rounds = d.rounds ∧
      (depart i d).probes = d.probes ∧ (depart i d).launch = d.launch ∧ (depart i d).tones = d.tones ∧
      (depart i d).lead = d.lead ∧ (depart i d).follower = d.follower ∧ (depart i d).framer = d.framer ∧
      (depart i d).areas = d.areas ∧ (depart i d).walks = d.walks ∧ (depart i d).journal = d.journal ∧
      (depart i d).dma = d.dma := by
  unfold depart
  dsimp only
  (repeat' split) <;> simp

@[simp] theorem setEntry_keeps (i : Nat) (e : QueueEntry) (d : Device) :
    (setEntry i e d).now = d.now ∧ (setEntry i e d).fuses = d.fuses ∧ (setEntry i e d).regs = d.regs ∧
      (setEntry i e d).iface = d.iface ∧ (setEntry i e d).identity = d.identity ∧ (setEntry i e d).slots = d.slots ∧
      (setEntry i e d).sched = d.sched ∧ (setEntry i e d).windows = d.windows ∧ (setEntry i e d).rounds = d.rounds ∧
      (setEntry i e d).probes = d.probes ∧ (setEntry i e d).launch = d.launch ∧ (setEntry i e d).tones = d.tones ∧
      (setEntry i e d).taps = d.taps ∧ (setEntry i e d).lead = d.lead ∧ (setEntry i e d).follower = d.follower ∧
      (setEntry i e d).framer = d.framer ∧ (setEntry i e d).areas = d.areas ∧ (setEntry i e d).walks = d.walks ∧
      (setEntry i e d).journal = d.journal ∧ (setEntry i e d).dma = d.dma := by
  simp [setEntry]

@[simp] theorem startWalk_keeps (w : Fin 4) (a : Fin 8) (k : Location) (d : Device) :
    (startWalk w a k d).now = d.now ∧ (startWalk w a k d).fuses = d.fuses ∧ (startWalk w a k d).regs = d.regs ∧
      (startWalk w a k d).iface = d.iface ∧ (startWalk w a k d).identity = d.identity ∧
      (startWalk w a k d).slots = d.slots ∧ (startWalk w a k d).sched = d.sched ∧
      (startWalk w a k d).windows = d.windows ∧ (startWalk w a k d).rounds = d.rounds ∧
      (startWalk w a k d).probes = d.probes ∧ (startWalk w a k d).launch = d.launch ∧
      (startWalk w a k d).tones = d.tones ∧ (startWalk w a k d).taps = d.taps ∧ (startWalk w a k d).lead = d.lead ∧
      (startWalk w a k d).follower = d.follower ∧ (startWalk w a k d).framer = d.framer ∧
      (startWalk w a k d).areas = d.areas ∧ (startWalk w a k d).classifier = d.classifier ∧
      (startWalk w a k d).journal = d.journal := by
  simp [startWalk]

@[simp] theorem missEntry_keeps (i : Nat) (e : QueueEntry) (a : Fin 8) (d : Device) :
    (missEntry i e a d).now = d.now ∧ (missEntry i e a d).fuses = d.fuses ∧ (missEntry i e a d).regs = d.regs ∧
      (missEntry i e a d).iface = d.iface ∧ (missEntry i e a d).identity = d.identity ∧
      (missEntry i e a d).slots = d.slots ∧ (missEntry i e a d).sched = d.sched ∧
      (missEntry i e a d).windows = d.windows ∧ (missEntry i e a d).rounds = d.rounds ∧
      (missEntry i e a d).probes = d.probes ∧ (missEntry i e a d).launch = d.launch ∧
      (missEntry i e a d).tones = d.tones ∧ (missEntry i e a d).taps = d.taps ∧ (missEntry i e a d).lead = d.lead ∧
      (missEntry i e a d).follower = d.follower ∧ (missEntry i e a d).framer = d.framer ∧
      (missEntry i e a d).areas = d.areas ∧ (missEntry i e a d).journal = d.journal := by
  unfold missEntry
  (repeat' split) <;> simp

@[simp] theorem translateEntry_keeps (i : Nat) (e : QueueEntry) (r : Fin 16) (p : Probe) (d : Device) :
    (translateEntry i e r p d).now = d.now ∧ (translateEntry i e r p d).fuses = d.fuses ∧
      (translateEntry i e r p d).iface = d.iface ∧ (translateEntry i e r p d).identity = d.identity ∧
      (translateEntry i e r p d).sched = d.sched ∧ (translateEntry i e r p d).windows = d.windows ∧
      (translateEntry i e r p d).rounds = d.rounds ∧ (translateEntry i e r p d).lead = d.lead ∧
      (translateEntry i e r p d).follower = d.follower ∧ (translateEntry i e r p d).framer = d.framer ∧
      (translateEntry i e r p d).areas = d.areas := by
  unfold translateEntry
  (repeat' split) <;> simp

@[simp] theorem presentEntry_keeps (i : Nat) (d : Device) :
    (presentEntry i d).now = d.now ∧ (presentEntry i d).fuses = d.fuses ∧ (presentEntry i d).iface = d.iface ∧
      (presentEntry i d).identity = d.identity ∧ (presentEntry i d).sched = d.sched ∧
      (presentEntry i d).windows = d.windows ∧ (presentEntry i d).rounds = d.rounds ∧
      (presentEntry i d).lead = d.lead ∧ (presentEntry i d).follower = d.follower ∧
      (presentEntry i d).framer = d.framer ∧ (presentEntry i d).areas = d.areas := by
  unfold presentEntry
  (repeat' split) <;> simp

@[simp] theorem classifyNext_keeps (d : Device) :
    (classifyNext d).now = d.now ∧ (classifyNext d).fuses = d.fuses ∧ (classifyNext d).iface = d.iface ∧
      (classifyNext d).identity = d.identity ∧ (classifyNext d).sched = d.sched ∧
      (classifyNext d).windows = d.windows ∧ (classifyNext d).rounds = d.rounds ∧ (classifyNext d).lead = d.lead ∧
      (classifyNext d).follower = d.follower ∧ (classifyNext d).framer = d.framer ∧ (classifyNext d).areas = d.areas := by
  unfold classifyNext
  (repeat' split) <;> simp

@[simp] theorem unstall_keeps (d : Device) :
    (unstall d).now = d.now ∧ (unstall d).fuses = d.fuses ∧ (unstall d).iface = d.iface ∧
      (unstall d).identity = d.identity ∧ (unstall d).sched = d.sched ∧ (unstall d).windows = d.windows ∧
      (unstall d).rounds = d.rounds ∧ (unstall d).lead = d.lead ∧ (unstall d).follower = d.follower ∧
      (unstall d).framer = d.framer ∧ (unstall d).areas = d.areas := by
  unfold unstall
  (repeat' split) <;> simp

@[simp] theorem applyHandedBack_keeps (x : Sighting) (m : Memo) (a : Option Answer) (d : Device) :
    (applyHandedBack x m a d).now = d.now ∧ (applyHandedBack x m a d).fuses = d.fuses ∧
      (applyHandedBack x m a d).iface = d.iface ∧ (applyHandedBack x m a d).identity = d.identity ∧
      (applyHandedBack x m a d).sched = d.sched ∧ (applyHandedBack x m a d).windows = d.windows ∧
      (applyHandedBack x m a d).rounds = d.rounds ∧ (applyHandedBack x m a d).taps = d.taps ∧
      (applyHandedBack x m a d).lead = d.lead ∧ (applyHandedBack x m a d).follower = d.follower ∧
      (applyHandedBack x m a d).framer = d.framer ∧ (applyHandedBack x m a d).areas = d.areas ∧
      (applyHandedBack x m a d).walks = d.walks := by
  unfold applyHandedBack
  (repeat' split) <;> simp

@[simp] theorem handBack_keeps (w : Fin 4) (a : Option Answer) (n : Nat) (d : Device) :
    (handBack w a n d).now = d.now ∧ (handBack w a n d).fuses = d.fuses ∧ (handBack w a n d).iface = d.iface ∧
      (handBack w a n d).identity = d.identity ∧ (handBack w a n d).sched = d.sched ∧
      (handBack w a n d).windows = d.windows ∧ (handBack w a n d).rounds = d.rounds ∧
      (handBack w a n d).lead = d.lead ∧ (handBack w a n d).follower = d.follower ∧
      (handBack w a n d).framer = d.framer ∧ (handBack w a n d).areas = d.areas ∧ (handBack w a n d).walks = d.walks := by
  induction n generalizing d with
  | zero => simp [handBack]
  | succ n ih =>
    unfold handBack
    (repeat' split) <;> simp [ih]

@[simp] theorem releaseWalk_keeps (w : Fin 4) (a : Option Answer) (d : Device) :
    (releaseWalk w a d).now = d.now ∧ (releaseWalk w a d).fuses = d.fuses ∧ (releaseWalk w a d).iface = d.iface ∧
      (releaseWalk w a d).identity = d.identity ∧ (releaseWalk w a d).sched = d.sched ∧
      (releaseWalk w a d).windows = d.windows ∧ (releaseWalk w a d).rounds = d.rounds ∧
      (releaseWalk w a d).lead = d.lead ∧ (releaseWalk w a d).follower = d.follower ∧
      (releaseWalk w a d).framer = d.framer ∧ (releaseWalk w a d).areas = d.areas := by
  simp [releaseWalk]

@[simp] theorem startShadow_keeps (n : Fin 8) (d : Device) :
    (startShadow d n).now = d.now ∧ (startShadow d n).fuses = d.fuses ∧ (startShadow d n).regs = d.regs ∧
      (startShadow d n).iface = d.iface ∧ (startShadow d n).identity = d.identity ∧
      (startShadow d n).slots = d.slots ∧ (startShadow d n).sched = d.sched ∧ (startShadow d n).windows = d.windows ∧
      (startShadow d n).rounds = d.rounds ∧ (startShadow d n).probes = d.probes ∧
      (startShadow d n).launch = d.launch ∧ (startShadow d n).tones = d.tones ∧ (startShadow d n).taps = d.taps ∧
      (startShadow d n).lead = d.lead ∧ (startShadow d n).follower = d.follower ∧
      (startShadow d n).framer = d.framer ∧ (startShadow d n).areas = d.areas ∧ (startShadow d n).walks = d.walks ∧
      (startShadow d n).classifier = d.classifier ∧ (startShadow d n).journal = d.journal := by
  simp [startShadow]

@[simp] theorem stopRounds_keeps (d : Device) :
    (stopRounds d).now = d.now ∧ (stopRounds d).fuses = d.fuses ∧ (stopRounds d).regs = d.regs ∧
      (stopRounds d).iface = d.iface ∧ (stopRounds d).identity = d.identity ∧ (stopRounds d).slots = d.slots ∧
      (stopRounds d).sched = d.sched ∧ (stopRounds d).windows = d.windows ∧ (stopRounds d).probes = d.probes ∧
      (stopRounds d).launch = d.launch ∧ (stopRounds d).tones = d.tones ∧ (stopRounds d).taps = d.taps ∧
      (stopRounds d).lead = d.lead ∧ (stopRounds d).follower = d.follower ∧ (stopRounds d).framer = d.framer ∧
      (stopRounds d).areas = d.areas ∧ (stopRounds d).walks = d.walks ∧ (stopRounds d).classifier = d.classifier ∧
      (stopRounds d).journal = d.journal ∧ (stopRounds d).dma = d.dma := by
  simp [stopRounds]

@[simp] theorem stopLink_keeps (d : Device) :
    (stopLink d).now = d.now ∧ (stopLink d).fuses = d.fuses ∧ (stopLink d).regs = d.regs ∧
      (stopLink d).iface = d.iface ∧ (stopLink d).identity = d.identity ∧ (stopLink d).slots = d.slots ∧
      (stopLink d).sched = d.sched ∧ (stopLink d).windows = d.windows ∧ (stopLink d).rounds = d.rounds ∧
      (stopLink d).probes = d.probes ∧ (stopLink d).launch = d.launch ∧ (stopLink d).tones = d.tones ∧
      (stopLink d).taps = d.taps ∧ (stopLink d).framer = d.framer ∧ (stopLink d).areas = d.areas ∧
      (stopLink d).walks = d.walks ∧ (stopLink d).classifier = d.classifier ∧ (stopLink d).journal = d.journal := by
  simp [stopLink]

@[simp] theorem haltBlocks_keeps (d : Device) :
    (haltBlocks d).now = d.now ∧ (haltBlocks d).fuses = d.fuses ∧ (haltBlocks d).regs = d.regs ∧
      (haltBlocks d).iface = d.iface ∧ (haltBlocks d).identity = d.identity ∧ (haltBlocks d).slots = d.slots ∧
      (haltBlocks d).windows = d.windows ∧ (haltBlocks d).framer = d.framer ∧ (haltBlocks d).areas = d.areas ∧
      (haltBlocks d).walks = d.walks ∧ (haltBlocks d).journal = d.journal := by
  simp [haltBlocks, emptyQueue]

@[simp] theorem fetchPlace_keeps (n : Fin 8) (p : Fin 2) (d : Device) :
    (fetchPlace n d p).now = d.now ∧ (fetchPlace n d p).fuses = d.fuses ∧ (fetchPlace n d p).regs = d.regs ∧
      (fetchPlace n d p).iface = d.iface ∧ (fetchPlace n d p).identity = d.identity ∧
      (fetchPlace n d p).slots = d.slots ∧ (fetchPlace n d p).windows = d.windows ∧
      (fetchPlace n d p).rounds = d.rounds ∧ (fetchPlace n d p).probes = d.probes ∧
      (fetchPlace n d p).launch = d.launch ∧ (fetchPlace n d p).tones = d.tones ∧ (fetchPlace n d p).taps = d.taps ∧
      (fetchPlace n d p).lead = d.lead ∧ (fetchPlace n d p).follower = d.follower ∧
      (fetchPlace n d p).framer = d.framer ∧ (fetchPlace n d p).areas = d.areas ∧
      (fetchPlace n d p).walks = d.walks ∧ (fetchPlace n d p).classifier = d.classifier ∧
      (fetchPlace n d p).journal = d.journal := by
  unfold fetchPlace Device.setPlace
  (repeat' split) <;> simp

@[simp] theorem fetchAll_keeps (d : Device) :
    (fetchAll d).now = d.now ∧ (fetchAll d).fuses = d.fuses ∧ (fetchAll d).regs = d.regs ∧
      (fetchAll d).iface = d.iface ∧ (fetchAll d).identity = d.identity ∧ (fetchAll d).slots = d.slots ∧
      (fetchAll d).windows = d.windows ∧ (fetchAll d).rounds = d.rounds ∧ (fetchAll d).probes = d.probes ∧
      (fetchAll d).launch = d.launch ∧ (fetchAll d).tones = d.tones ∧ (fetchAll d).taps = d.taps ∧
      (fetchAll d).lead = d.lead ∧ (fetchAll d).follower = d.follower ∧ (fetchAll d).framer = d.framer ∧
      (fetchAll d).areas = d.areas ∧ (fetchAll d).walks = d.walks ∧ (fetchAll d).classifier = d.classifier ∧
      (fetchAll d).journal = d.journal := by
  unfold fetchAll
  refine ⟨?_, ?_, ?_, ?_, ?_, ?_, ?_, ?_, ?_, ?_, ?_, ?_, ?_, ?_, ?_, ?_, ?_, ?_, ?_⟩ <;> exact (foldl_keeps _ _ (by simp) _ _).trans rfl

@[simp] theorem admitProbe_keeps (x : Candidate) (res : Resources) (d : Device) :
    (admitProbe d x res).now = d.now ∧ (admitProbe d x res).fuses = d.fuses ∧ (admitProbe d x res).regs = d.regs ∧
      (admitProbe d x res).iface = d.iface ∧ (admitProbe d x res).identity = d.identity ∧
      (admitProbe d x res).slots = d.slots ∧ (admitProbe d x res).windows = d.windows ∧
      (admitProbe d x res).rounds = d.rounds ∧ (admitProbe d x res).taps = d.taps ∧
      (admitProbe d x res).lead = d.lead ∧ (admitProbe d x res).follower = d.follower ∧
      (admitProbe d x res).framer = d.framer ∧ (admitProbe d x res).areas = d.areas ∧
      (admitProbe d x res).walks = d.walks ∧ (admitProbe d x res).classifier = d.classifier ∧
      (admitProbe d x res).journal = d.journal := by
  simp [admitProbe]

@[simp] theorem admitSteps_keeps (n : Nat) (d : Device) :
    (admitSteps n d).now = d.now ∧ (admitSteps n d).fuses = d.fuses ∧ (admitSteps n d).regs = d.regs ∧
      (admitSteps n d).iface = d.iface ∧ (admitSteps n d).identity = d.identity ∧ (admitSteps n d).slots = d.slots ∧
      (admitSteps n d).windows = d.windows ∧ (admitSteps n d).rounds = d.rounds ∧ (admitSteps n d).taps = d.taps ∧
      (admitSteps n d).lead = d.lead ∧ (admitSteps n d).follower = d.follower ∧ (admitSteps n d).framer = d.framer ∧
      (admitSteps n d).areas = d.areas ∧ (admitSteps n d).walks = d.walks ∧
      (admitSteps n d).classifier = d.classifier ∧ (admitSteps n d).journal = d.journal := by
  induction n generalizing d with
  | zero => simp [admitSteps]
  | succ n ih =>
    unfold admitSteps admitOne
    (repeat' split) <;> simp_all
    rename_i h
    split at h <;> simp_all
    subst h
    simp

@[simp] theorem admitAll_keeps (d : Device) :
    (admitAll d).now = d.now ∧ (admitAll d).fuses = d.fuses ∧ (admitAll d).regs = d.regs ∧
      (admitAll d).iface = d.iface ∧ (admitAll d).identity = d.identity ∧ (admitAll d).slots = d.slots ∧
      (admitAll d).windows = d.windows ∧ (admitAll d).rounds = d.rounds ∧ (admitAll d).taps = d.taps ∧
      (admitAll d).lead = d.lead ∧ (admitAll d).follower = d.follower ∧ (admitAll d).framer = d.framer ∧
      (admitAll d).areas = d.areas ∧ (admitAll d).walks = d.walks ∧ (admitAll d).classifier = d.classifier ∧
      (admitAll d).journal = d.journal := by
  simp [admitAll]

@[simp] theorem closeFrom_keeps (n : Fin 8) (f : Nat) (d : Device) :
    (closeFrom n f d).now = d.now ∧ (closeFrom n f d).fuses = d.fuses ∧ (closeFrom n f d).regs = d.regs ∧
      (closeFrom n f d).iface = d.iface ∧ (closeFrom n f d).identity = d.identity ∧
      (closeFrom n f d).sched = d.sched ∧ (closeFrom n f d).windows = d.windows ∧
      (closeFrom n f d).rounds = d.rounds ∧ (closeFrom n f d).probes = d.probes ∧
      (closeFrom n f d).launch = d.launch ∧ (closeFrom n f d).tones = d.tones ∧ (closeFrom n f d).taps = d.taps ∧
      (closeFrom n f d).lead = d.lead ∧ (closeFrom n f d).follower = d.follower ∧
      (closeFrom n f d).framer = d.framer ∧ (closeFrom n f d).areas = d.areas ∧ (closeFrom n f d).walks = d.walks ∧
      (closeFrom n f d).classifier = d.classifier ∧ (closeFrom n f d).journal = d.journal := by
  unfold closeFrom writeNotRun writeSummary
  (repeat' split) <;> simp

@[simp] theorem closeIfDrained_keeps (n : Fin 8) (d : Device) :
    (closeIfDrained d n).now = d.now ∧ (closeIfDrained d n).fuses = d.fuses ∧ (closeIfDrained d n).regs = d.regs ∧
      (closeIfDrained d n).iface = d.iface ∧ (closeIfDrained d n).identity = d.identity ∧
      (closeIfDrained d n).sched = d.sched ∧ (closeIfDrained d n).windows = d.windows ∧
      (closeIfDrained d n).rounds = d.rounds ∧ (closeIfDrained d n).probes = d.probes ∧
      (closeIfDrained d n).launch = d.launch ∧ (closeIfDrained d n).tones = d.tones ∧
      (closeIfDrained d n).taps = d.taps ∧ (closeIfDrained d n).lead = d.lead ∧
      (closeIfDrained d n).follower = d.follower ∧ (closeIfDrained d n).framer = d.framer ∧
      (closeIfDrained d n).areas = d.areas ∧ (closeIfDrained d n).walks = d.walks ∧
      (closeIfDrained d n).classifier = d.classifier ∧ (closeIfDrained d n).journal = d.journal := by
  unfold closeIfDrained
  (repeat' split) <;> simp

@[simp] theorem closeDrained_keeps (d : Device) :
    (closeDrained d).now = d.now ∧ (closeDrained d).fuses = d.fuses ∧ (closeDrained d).regs = d.regs ∧
      (closeDrained d).iface = d.iface ∧ (closeDrained d).identity = d.identity ∧ (closeDrained d).sched = d.sched ∧
      (closeDrained d).windows = d.windows ∧ (closeDrained d).rounds = d.rounds ∧
      (closeDrained d).probes = d.probes ∧ (closeDrained d).launch = d.launch ∧ (closeDrained d).tones = d.tones ∧
      (closeDrained d).taps = d.taps ∧ (closeDrained d).lead = d.lead ∧ (closeDrained d).follower = d.follower ∧
      (closeDrained d).framer = d.framer ∧ (closeDrained d).areas = d.areas ∧ (closeDrained d).walks = d.walks ∧
      (closeDrained d).classifier = d.classifier ∧ (closeDrained d).journal = d.journal := by
  unfold closeDrained
  refine ⟨?_, ?_, ?_, ?_, ?_, ?_, ?_, ?_, ?_, ?_, ?_, ?_, ?_, ?_, ?_, ?_, ?_, ?_, ?_⟩ <;> exact (foldl_keeps _ _ (by simp) _ _).trans rfl

@[simp] theorem settleOnce_keeps (d : Device) :
    (settleOnce d).now = d.now ∧ (settleOnce d).fuses = d.fuses ∧ (settleOnce d).regs = d.regs ∧
      (settleOnce d).iface = d.iface ∧ (settleOnce d).identity = d.identity ∧ (settleOnce d).windows = d.windows ∧
      (settleOnce d).rounds = d.rounds ∧ (settleOnce d).taps = d.taps ∧ (settleOnce d).lead = d.lead ∧
      (settleOnce d).follower = d.follower ∧ (settleOnce d).framer = d.framer ∧ (settleOnce d).areas = d.areas ∧
      (settleOnce d).walks = d.walks ∧ (settleOnce d).classifier = d.classifier ∧ (settleOnce d).journal = d.journal := by
  simp [settleOnce]

end Sys2Proof.Machine
end

