-- ==== Sys2Proof/Laws/Bus.lean ====
section
/-! SUPPORT. What each operation of the launch bus does with the commands a context has outstanding (R66): one lemma per
operation, from which the law that each context has at most one command queued or awaiting its reply follows. -/

namespace Sys2Proof.Machine

/-- A command as a list: of itself where it serves the context, else of none. -/
def serves (c : Fin 8) (b : BusCommand) : List BusCommand := if b.context? = some c then [b] else []

theorem filter_cons_serves (c : Fin 8) (b : BusCommand) (bs : List BusCommand) :
    (b :: bs).filter (fun b => b.context? == some c) = serves c b ++ bs.filter (fun b => b.context? == some c) := by
  by_cases h : b.context? = some c <;> simp [serves, h]

@[simp] theorem BusCommand.orphan_context? (b : BusCommand) : b.orphan.context? = none := by cases b <;> rfl

/-- A command that leaves a context serves it no more. -/
@[simp] theorem BusCommand.leave_context?_ne (c : Fin 8) (b : BusCommand) : (b.leave c).context? ≠ some c := by
  unfold BusCommand.leave
  split <;> simp_all

/-- Of the commands that leave one context those of another stay as they are. -/
theorem BusCommand.leave_of_context? {b : BusCommand} {c x : Fin 8} (h : b.context? = some x) (hx : x ≠ c) :
    b.leave c = b := by simp [BusCommand.leave, h, hx]

theorem leave_serves_other {c x : Fin 8} (b : BusCommand) (hx : x ≠ c) : serves x (b.leave c) = serves x b := by
  by_cases h : b.context? = some x
  · rw [BusCommand.leave_of_context? h hx]
  · have : (b.leave c).context? ≠ some x := by
      unfold BusCommand.leave
      split <;> simp_all
    simp [serves, h, this]

theorem othersThan_filter_self (c : Fin 8) (bs : List BusCommand) :
    (othersThan c bs).filter (fun b => b.context? == some c) = [] := by
  simp [othersThan, List.filter_filter]

theorem othersThan_filter_other {c x : Fin 8} (bs : List BusCommand) (hx : x ≠ c) :
    (othersThan c bs).filter (fun b => b.context? == some x) = bs.filter (fun b => b.context? == some x) := by
  rw [othersThan, List.filter_filter]
  congr 1
  funext b
  by_cases h : b.context? = some x <;> simp [h, hx]

/-- After the withdrawal a context has no command outstanding. -/
@[simp] theorem withdraw_outstanding_self (c : Fin 8) (d : Device) : outstanding (withdraw c d) c = [] := by
  simp only [outstanding, withdraw, List.filter_append, othersThan_filter_self, List.append_nil]
  cases d.launch.sending <;> simp

/-- The withdrawal of one context's command leaves those of every other context. -/
theorem withdraw_outstanding_other {c x : Fin 8} (d : Device) (hx : x ≠ c) :
    outstanding (withdraw c d) x = outstanding d x := by
  simp only [outstanding, withdraw, List.filter_append, othersThan_filter_other _ hx]
  cases d.launch.sending <;> simp [filter_cons_serves, leave_serves_other _ hx]

/-- The withdrawal ends a context's command: what it does, in full. -/
theorem withdraw_ends (c : Fin 8) (d : Device) : commandEnded d (withdraw c d) c := by
  refine ⟨fun b h => ?_, fun h => ?_, rfl, rfl⟩ <;> simp [withdraw, h, BusCommand.leave]

/-- So does an ACK_OFF or NACK the context takes. -/
theorem stopConfirmed_ends (c : Fin 8) (d : Device) : commandEnded d (stopConfirmed c d) c := by
  have h : (stopConfirmed c d).launch = (idleContext c (withdraw c d)).launch := by simp [stopConfirmed]
  have e := withdraw_ends c d
  unfold commandEnded at e ⊢
  rw [h]
  exact e

/-- A command issued joins those its context has outstanding. -/
theorem issueCommand_outstanding (b : BusCommand) (d : Device) (c : Fin 8) :
    (outstanding (issueCommand b d) c).Perm (serves c b ++ outstanding d c) := by
  have hp : ∀ bs : List BusCommand, (insertCommand b bs).Perm (b :: bs) := by
    intro bs
    induction bs with
    | nil => rfl
    | cons y ys ih =>
      simp only [insertCommand]
      split
      · rfl
      · exact (ih.cons y).trans (.swap b y ys)
  simp only [outstanding, issueCommand]
  rw [← filter_cons_serves]
  exact List.Perm.filter _ (((hp d.launch.issued).append_left _).trans List.perm_middle)

/-- A command put on the bus joins those its context has outstanding. -/
theorem sendCommand_outstanding (b : BusCommand) (d : Device) (c : Fin 8) :
    (outstanding (sendCommand b d) c).Perm (serves c b ++ outstanding d c) := by
  rw [outstanding, outstanding, ← filter_cons_serves]
  refine List.Perm.filter _ ?_
  unfold sendCommand
  split
  · next h => simp [h]
  · next y h =>
    simp only [h, Option.toList_some, List.cons_append, List.append_assoc]
    exact (List.perm_middle.cons y).trans (.swap b y _)

/-- The end of a step moves the commands issued in it to the bus: what each context has outstanding stays. -/
theorem sendIssued_outstanding (d : Device) (c : Fin 8) : (outstanding (sendIssued d) c).Perm (outstanding d c) := by
  have hf : ∀ (bs : List BusCommand) (e : Device), (outstanding (bs.foldl (fun d b => sendCommand b d) e) c).Perm
      (bs.filter (fun b => b.context? == some c) ++ outstanding e c) := by
    intro bs
    induction bs with
    | nil => intro e; rfl
    | cons b bs ih =>
      intro e
      refine (ih _).trans (((sendCommand_outstanding b e c).append_left _).trans ?_)
      rw [filter_cons_serves, ← List.append_assoc]
      exact List.Perm.append_right _ List.perm_append_comm
  refine (hf _ _).trans ?_
  simp only [outstanding, List.filter_append, List.append_nil]
  exact List.perm_append_comm

/-- Whether a context awaits the reply of a command is decided by the context. -/
theorem awaitsReply_congr {d e : Device} {x : Fin 8} (h : e.launch.contexts[x] = d.launch.contexts[x]) (b : BusCommand) :
    awaitsReply e x b = awaitsReply d x b := by simp only [awaitsReply, h]

/-- What the law of R66 says of one context depends on what it has outstanding, up to order, and on the context. -/
theorem busLaw_at {d e : Device} {c : Fin 8} (h : busLaw d) (hp : (outstanding e c).Perm (outstanding d c))
    (hc : e.launch.contexts[c] = d.launch.contexts[c]) :
    (outstanding e c).length + e.launch.contexts[c].timer.toList.length ≤ 1 ∧
    (∀ b ∈ outstanding e c, awaitsReply e c b = true) ∧
    (e.launch.contexts[c].timer.isSome → e.launch.contexts[c].state = .arming ∨ e.launch.contexts[c].state = .stopping) := by
  obtain ⟨h1, h2, h3⟩ := h c
  rw [hp.length_eq, hc]
  exact ⟨h1, fun b hb => awaitsReply_congr hc b ▸ h2 b (hp.mem_iff.1 hb), h3⟩

/-- The law of R66 depends on what each context has outstanding, up to order, and on the contexts. -/
theorem busLaw_of_perm {d e : Device} (h : busLaw d) (hp : ∀ c, (outstanding e c).Perm (outstanding d c))
    (hc : e.launch.contexts = d.launch.contexts) : busLaw e := fun c => busLaw_at h (hp c) (by rw [hc])

/-- The end of a step keeps the law of R66. -/
theorem sendIssued_busLaw {d : Device} (h : busLaw d) : busLaw (sendIssued d) := by
  obtain ⟨s, w, hs⟩ := sendIssued_frame d
  exact busLaw_of_perm h (sendIssued_outstanding d) (by rw [hs])

/-- A context with no command outstanding may take any state without a running timer. -/
theorem setContext_busLaw {d : Device} {c : Fin 8} {x : Context} (h : busLaw d) (ho : outstanding d c = [])
    (ht : x.timer = none) : busLaw (d.setContext c x) := by
  intro y
  have hc := Device.setContext_contexts_get d c y x
  by_cases hy : y = c
  · subst hy
    have ho' : outstanding (d.setContext y x) y = [] := ho
    rw [if_pos rfl] at hc
    rw [ho', hc, ht]
    simp
  · exact busLaw_at h (.refl _) (by rw [hc, if_neg hy])

/-- The withdrawal of a context's command keeps the law of R66. -/
theorem withdraw_busLaw {d : Device} (c : Fin 8) (h : busLaw d) : busLaw (withdraw c d) := by
  intro x
  obtain ⟨h1, h2, h3⟩ := h x
  by_cases hx : x = c
  · subst hx
    refine ⟨?_, by simp, by simpa using h3⟩
    simp only [withdraw_outstanding_self, withdraw_keeps]
    cases d.launch.contexts[x].timer <;> simp
  · rw [withdraw_outstanding_other d hx]
    exact ⟨by simpa using h1, fun b hb => by simpa [awaitsReply] using h2 b hb, by simpa using h3⟩

/-- ACK_OFF or NACK taken by a context keeps the law of R66. -/
theorem stopConfirmed_busLaw {d : Device} (c : Fin 8) (h : busLaw d) : busLaw (stopConfirmed c d) := by
  have hi : busLaw (idleContext c (withdraw c d)) :=
    setContext_busLaw (withdraw_busLaw c h) (withdraw_outstanding_self c d) rfl
  have hl : (stopConfirmed c d).launch = (idleContext c (withdraw c d)).launch := by simp [stopConfirmed]
  exact busLaw_of_perm hi (fun x => by simp [outstanding, hl]) (by rw [hl])

/-- STOP issued for a context with no command outstanding keeps the law of R66. -/
theorem issueStop_busLaw {d : Device} {c : Fin 8} (h : busLaw d) (ho : outstanding d c = []) : busLaw (issueStop c d) := by
  intro x
  have hp : (outstanding (issueStop c d) x).Perm
      (serves x (.stop d.launch.contexts[c].point (some c)) ++ outstanding d x) := issueCommand_outstanding _ _ x
  have hc : (issueStop c d).launch.contexts[x] = if x = c then
      { d.launch.contexts[c] with state := .stopping, timer := none } else d.launch.contexts[x] :=
    Device.setContext_contexts_get d c x _
  by_cases hx : x = c
  · subst hx
    rw [ho, List.append_nil] at hp
    rw [if_pos rfl] at hc
    have hl : outstanding (issueStop x d) x = [.stop d.launch.contexts[x].point (some x)] :=
      List.perm_singleton.1 (by simpa only [serves, BusCommand.context?, if_pos] using hp)
    rw [hl, hc]
    simp only [List.mem_singleton, forall_eq, awaitsReply, hc]
    simp
  · exact busLaw_at h (by simpa [serves, BusCommand.context?, Ne.symm hx] using hp) (by rw [hc, if_neg hx])

/-- The context that has its reply timer running has no command on the bus. -/
theorem outstanding_of_timer {d : Device} {c : Fin 8} (h : busLaw d) (ht : d.launch.contexts[c].timer.isSome) :
    outstanding d c = [] := by
  obtain ⟨t, ht⟩ := Option.isSome_iff_exists.1 ht
  have h1 := (h c).1
  rw [ht] at h1
  exact List.eq_nil_of_length_eq_zero (by simpa using h1)

/-- A context that is IDLE or ON has no command on the bus. -/
theorem outstanding_of_state {d : Device} {c : Fin 8} (h : busLaw d)
    (hs : d.launch.contexts[c].state = .idle ∨ d.launch.contexts[c].state = .on) : outstanding d c = [] := by
  refine List.eq_nil_iff_forall_not_mem.2 fun b hb => ?_
  have := (h c).2.1 b hb
  unfold awaitsReply at this
  split at this <;> rcases hs with hs | hs <;> simp_all

/-- ACK_ON taken by a context keeps the law of R66. -/
theorem contextOn_busLaw {d : Device} (c : Fin 8) (h : busLaw d) : busLaw (contextOn c d) := by
  unfold contextOn
  split
  · split
    · have hx := setContext_busLaw (x := { d.launch.contexts[c] with state := .on, timer := none }) (withdraw_busLaw c h)
        (withdraw_outstanding_self c d) rfl
      unfold withOwner
      split
      · exact hx
      · split <;> exact hx
    · exact issueStop_busLaw (withdraw_busLaw c h) (withdraw_outstanding_self c d)
  · exact h

/-- Starting a reply timer changes no command on the bus. -/
theorem startReplyTimer_bus (b : BusCommand) (d : Device) :
    (startReplyTimer b d).launch.sending = d.launch.sending ∧ (startReplyTimer b d).launch.waiting = d.launch.waiting ∧
      (startReplyTimer b d).launch.issued = d.launch.issued := by
  unfold startReplyTimer
  (repeat' split) <;> simp

/-- A context set to run its timer if it is in a state, read at a context. -/
theorem setTimer_contexts (d : Device) (y x : Fin 8) (st : ContextState) (t : Nat) :
    (if d.launch.contexts[y].state = st then d.setContext y { d.launch.contexts[y] with timer := some t }
      else d).launch.contexts[x] =
    if (y == x && d.launch.contexts[x].state == st) = true then { d.launch.contexts[x] with timer := some t }
      else d.launch.contexts[x] := by
  have hc := Device.setContext_contexts_get d y x { d.launch.contexts[y] with timer := some t }
  by_cases hy : x = y
  · subst hy
    rw [if_pos rfl] at hc
    by_cases hs : d.launch.contexts[x].state = st
    · rw [if_pos hs, hc, if_pos (by simpa using hs)]
    · rw [if_neg hs, if_neg (by simpa using hs)]
  · rw [if_neg hy] at hc
    have hn : ¬ (y == x && d.launch.contexts[x].state == st) = true := by
      rw [beq_eq_false_iff_ne.2 (Ne.symm hy)]
      exact Bool.false_ne_true
    rw [if_neg hn]
    split
    · exact hc
    · rfl

/-- A command that a context awaits the reply of starts that context's timer, and no other. -/
theorem startReplyTimer_contexts (b : BusCommand) (d : Device) (x : Fin 8) :
    (startReplyTimer b d).launch.contexts[x] = if awaitsReply d x b = true then
      { d.launch.contexts[x] with timer := some (d.now + Config.replyTime) } else d.launch.contexts[x] := by
  rcases b with ⟨p, t, k, _ | y⟩ | ⟨p, _ | y⟩ | _
  · rfl
  · exact setTimer_contexts d y x .arming _
  · rfl
  · exact setTimer_contexts d y x .stopping _
  · rfl

/-- A command sent leaves the bus, and the others stay in their order. -/
theorem commandDone_outstanding {b : BusCommand} {d : Device} (h : d.launch.sending = some b) (c : Fin 8) :
    outstanding d c = serves c b ++ outstanding (commandDone d) c := by
  obtain ⟨-, h2, h3⟩ := startReplyTimer_bus b d
  unfold commandDone
  simp only [h]
  split <;> next hw =>
    rw [h2] at hw
    rw [outstanding, outstanding, ← filter_cons_serves]
    simp [h, h2, h3, hw]

/-- COMMAND_SENT keeps the law of R66: the command goes, and the timer of the context that awaits its reply runs. -/
theorem commandDone_busLaw {d : Device} (h : busLaw d) : busLaw (commandDone d) := by
  rcases hs : d.launch.sending with _ | b
  · rw [show commandDone d = d by simp [commandDone, hs]]
    exact h
  · intro x
    have ho := commandDone_outstanding hs x
    have hl : (commandDone d).launch.contexts = (startReplyTimer b d).launch.contexts := by
      unfold commandDone
      simp only [hs]
      split <;> rfl
    have hc : (commandDone d).launch.contexts[x] = (startReplyTimer b d).launch.contexts[x] := by rw [hl]
    rw [startReplyTimer_contexts] at hc
    by_cases hb : b.context? = some x
    · have hx : b ∈ outstanding d x := by simp [ho, serves, hb]
      have ha := (h x).2.1 b hx
      have h1 := (h x).1
      have hn : outstanding (commandDone d) x = [] := by
        rw [ho] at h1
        simp only [serves, hb, if_pos, List.length_append, List.length_singleton] at h1
        exact List.eq_nil_of_length_eq_zero (by omega)
      rw [if_pos ha] at hc
      rw [hn, hc]
      refine ⟨by simp, by simp, fun _ => ?_⟩
      unfold awaitsReply at ha
      split at ha <;> simp_all
    · have hf : awaitsReply d x b = false := by
        rcases b with ⟨p, t, k, _ | y⟩ | ⟨p, _ | y⟩ | _ <;> simp_all [awaitsReply, BusCommand.context?]
      rw [if_neg (by simp [hf])] at hc
      exact busLaw_at h (by rw [ho]; simp [serves, hb]) hc

end Sys2Proof.Machine
end

