-- ==== Sys2Proof/Laws/Writes.lean ====
section
/-! SUPPORT. What is written and stopped: for each reaction that owes a write, issues a verdict record or issues STOPs, one lemma
that says so, over three relations between the device before and after it: `Adds` (accesses of other purposes only), `SameBus`
(nothing on the launch bus) and those of `Safety` (`writeDue` and its kin, `evaluated`, `stopsIssued`). -/

namespace Sys2Proof.Machine

/-- A reaction keeps the accesses and the writes owed, and adds accesses of other purposes only. -/
structure Adds (q : AccessKind → Bool) (d e : Device) : Prop where
  iface : e.iface = d.iface
  inFlight : ∃ xs, e.dma.inFlight = d.dma.inFlight ++ xs ∧ ∀ a ∈ xs, q a.kind = false
  refused : ∃ xs, e.dma.refused = d.dma.refused ++ xs ∧ ∀ a ∈ xs, q a.kind = false
  owed : ∀ ch, ch ∈ d.dma.owed → ch ∈ e.dma.owed

theorem Adds.of_eq {q : AccessKind → Bool} {d e : Device} (hi : e.iface = d.iface) (h : e.dma = d.dma) : Adds q d e :=
  ⟨hi, ⟨[], by simp [h], by simp⟩, ⟨[], by simp [h], by simp⟩, fun _ m => by rw [h]; exact m⟩

theorem Adds.refl (q : AccessKind → Bool) (d : Device) : Adds q d d := .of_eq rfl rfl

theorem Adds.trans {q : AccessKind → Bool} {d e f : Device} (h1 : Adds q d e) (h2 : Adds q e f) : Adds q d f := by
  obtain ⟨x1, e1, k1⟩ := h1.inFlight
  obtain ⟨x2, e2, k2⟩ := h2.inFlight
  obtain ⟨y1, e3, k3⟩ := h1.refused
  obtain ⟨y2, e4, k4⟩ := h2.refused
  refine ⟨h2.iface.trans h1.iface, ⟨x1 ++ x2, by simp [e2, e1], ?_⟩, ⟨y1 ++ y2, by simp [e4, e3], ?_⟩,
    fun ch m => h2.owed ch (h1.owed ch m)⟩
  · intro a ha; rcases List.mem_append.1 ha with h | h; exacts [k1 a h, k2 a h]
  · intro a ha; rcases List.mem_append.1 ha with h | h; exacts [k3 a h, k4 a h]

/-- Only the bounds and the accesses before a reaction count. -/
theorem Adds.start {q : AccessKind → Bool} {c d e : Device} (h : Adds q d e) (hi : d.iface = c.iface)
    (hd : d.dma = c.dma) : Adds q c e := (Adds.of_eq hi hd).trans h

theorem Adds.canAccess {q : AccessKind → Bool} {d e : Device} (h : Adds q d e) : canAccess e = canAccess d := by
  unfold Machine.canAccess; rw [h.iface]

theorem Adds.live_eq {q : AccessKind → Bool} {d e : Device} (h : Adds q d e) : live e q = live d q := by
  obtain ⟨x1, e1, k1⟩ := h.inFlight
  obtain ⟨y1, e3, k3⟩ := h.refused
  have a1 : (x1.any fun a => !a.discarded && q a.kind) = false := by
    rw [List.any_eq_false]; intro a ha; simp [k1 a ha]
  have a2 : (y1.any fun a => !a.discarded && q a.kind) = false := by
    rw [List.any_eq_false]; intro a ha; simp [k3 a ha]
  simp [live, e1, e3, List.any_append, a1, a2]

theorem Adds.boardAddr {q : AccessKind → Bool} {d e : Device} (h : Adds q d e) (o : Nat) :
    boardAddr e o = boardAddr d o := by
  unfold Machine.boardAddr; rw [h.iface]

theorem Adds.foldl {β : Type} {q : AccessKind → Bool} (f : Device → β → Device) (h : ∀ d b, Adds q d (f d b))
    (xs : List β) (d : Device) : Adds q d (xs.foldl f d) := by
  induction xs generalizing d with
  | nil => exact .refl q d
  | cons x xs ih => exact (h d x).trans (ih (f d x))

theorem issue_adds {q : AccessKind → Bool} (k : AccessKind) (a l : Nat) (b : List Byte) (o : Bool) (d : Device)
    (h : q k = false) : Adds q d (issue k a l b o d) := by
  unfold issue
  split
  · dsimp only
    split
    · exact ⟨rfl, ⟨[_], rfl, by simp [h]⟩, ⟨[], by simp, by simp⟩, fun _ m => m⟩
    · exact ⟨rfl, ⟨[], by simp, by simp⟩, ⟨[_], rfl, by simp [h]⟩, fun _ m => m⟩
  · exact .refl q d

theorem channelKind_shape (ch : Channel) (d : Device) : ∃ c b, channelKind ch d = .channelWrite ch c b := by
  cases ch <;> exact ⟨_, _, rfl⟩

theorem issueChannel_adds {q : AccessKind → Bool} (ch : Channel) (o : Bool) (d : Device)
    (h : ∀ c b, q (.channelWrite ch c b) = false) : Adds q d (issueChannel ch o d) := by
  unfold issueChannel
  dsimp only
  obtain ⟨c, b, hk⟩ := channelKind_shape ch d
  have note : ∀ e, Adds q e (noteChannel ch e) := fun e => by
    unfold noteChannel
    split
    · exact .of_eq rfl rfl
    · exact .refl _ _
  exact (issue_adds _ _ _ _ o d (by rw [hk]; exact h c b)).trans (note _)

theorem oweAs_adds {q : AccessKind → Bool} (o : Bool) (ch : Channel) (d : Device)
    (h : ∀ c b, q (.channelWrite ch c b) = false) : Adds q d (oweAs o ch d) := by
  unfold oweAs
  split
  · split
    · exact ⟨rfl, ⟨[], by simp, by simp⟩, ⟨[], by simp, by simp⟩, fun c m => by simp [m]⟩
    · exact issueChannel_adds ch o d h
  · exact .refl q d

/-- live means that the write joins those owed. -/
theorem owe_due (ch : Channel) (d : Device) :
    writeShown d (owe ch d) ch (channelExtent ch d).1 (channelExtent ch d).2 := by
  intro hc
  refine ⟨fun hl => ?_, fun hl hw => ?_⟩
  · unfold owe; rw [oweAs_live false ch d hc hl]; simp
  · unfold owe; rw [oweAs_issues false ch d hc hl]
    unfold issueChannel
    dsimp only
    rw [issue_inWindow _ _ _ _ _ _ hc hw]
    obtain ⟨c, b, hk⟩ := channelKind_shape ch d
    refine ⟨⟨d.dma.nextTag, channelKind ch d, (channelExtent ch d).1, (channelExtent ch d).2.length, (channelExtent ch d).2,
      false, false⟩, ?_, ⟨c, b, hk⟩, rfl, rfl, .inl rfl, rfl⟩
    unfold noteChannel
    split <;> simp [Device.setSlot]

/-- What is due stays due while the device goes on adding accesses. -/
theorem writeDue.after {d e f : Device} {ch : Channel} {addr : Nat} {data : List Byte} {p p' : Prop}
    (h : writeDue d e ch addr data p) (g : Adds (fun _ => false) e f) (i : p → p') : writeDue d f ch addr data p' := by
  intro hc
  obtain ⟨h1, h2⟩ := h hc
  refine ⟨fun hl => g.owed ch (h1 hl), fun hl hw => ?_⟩
  obtain ⟨a, ha, k1, k2, k3, k4, k5⟩ := h2 hl hw
  obtain ⟨xs, e1, _⟩ := g.inFlight
  exact ⟨a, by rw [e1]; exact List.mem_append_left _ ha, k1, k2, k3, k4.imp_right i, k5⟩

/-- What is due after accesses of other purposes was due before them. -/
theorem writeDue.before {c d e : Device} {ch : Channel} {addr : Nat} {data : List Byte} {p : Prop}
    (g : Adds (ofChannel ch) c d) (h : writeDue d e ch addr data p) : writeDue c e ch addr data p := by
  intro hc
  obtain ⟨h1, h2⟩ := h (by rw [g.canAccess]; exact hc)
  rw [g.live_eq] at h1 h2
  rw [g.iface] at h2
  exact ⟨h1, h2⟩


/-! ### Launch bus -/

/-- One STOP requested, or none: the bus lists, the contexts and the commands issued after it. -/
theorem requestStop_if (b : Prop) [Decidable b] (x : Fin 8) (d e : Device) (he : e = if b then requestStop x d else d) :
    e.launch.sending = d.launch.sending ∧ e.launch.waiting = d.launch.waiting ∧
    (∀ c : Fin 8, e.launch.contexts[c] = if c = x ∧ b ∧ d.launch.contexts[x].state = .on then
      { d.launch.contexts[x] with state := .stopping, timer := none } else d.launch.contexts[c]) ∧
    e.launch.issued = if b ∧ d.launch.contexts[x].state = .on then
      insertCommand (.stop d.launch.contexts[x].point (some x)) d.launch.issued else d.launch.issued := by
  subst he
  by_cases hb : b
  · rw [if_pos hb]
    unfold requestStop
    by_cases ho : d.launch.contexts[x].state = .on
    · rw [if_pos ho, if_pos ⟨hb, ho⟩]
      refine ⟨rfl, rfl, fun c => ?_, rfl⟩
      unfold issueStop issueCommand Device.setContext
      dsimp only
      rw [vec_set_get]
      by_cases hc : c = x
      · rw [if_pos hc, if_pos ⟨hc, hb, ho⟩]
      · rw [if_neg hc, if_neg (fun k => hc k.1)]
    · rw [if_neg ho, if_neg (fun k => ho k.2)]
      exact ⟨rfl, rfl, fun c => by rw [if_neg (fun k => ho k.2.2)], rfl⟩
  · rw [if_neg hb, if_neg (fun k => hb k.1)]
    exact ⟨rfl, rfl, fun c => by rw [if_neg (fun k => hb k.2.1)], rfl⟩

/-- The stops of some contexts of a list, each once. -/
theorem requestStops_list (cs : List (Fin 8)) : ∀ (xs : List (Fin 8)), xs.Nodup → ∀ (d e : Device),
    e = xs.foldl (fun d c => if c ∈ cs then requestStop c d else d) d →
    e.launch.sending = d.launch.sending ∧ e.launch.waiting = d.launch.waiting ∧
    (∀ c : Fin 8, e.launch.contexts[c] = if c ∈ xs ∧ c ∈ cs ∧ d.launch.contexts[c].state = .on then
      { d.launch.contexts[c] with state := .stopping, timer := none } else d.launch.contexts[c]) ∧
    e.launch.issued = (xs.filter (fun c => decide (c ∈ cs ∧ d.launch.contexts[c].state = .on))).foldl
      (fun l c => insertCommand (.stop d.launch.contexts[c].point (some c)) l) d.launch.issued := by
  intro xs
  induction xs with
  | nil => intro _ d e h; subst h; simp
  | cons x xs ih =>
    intro nd d e h
    obtain ⟨hx, nd⟩ := List.nodup_cons.1 nd
    rw [List.foldl_cons] at h
    generalize hm : (if x ∈ cs then requestStop x d else d) = m at h
    obtain ⟨h1, h2, h3, h4⟩ := ih nd m e h
    obtain ⟨k1, k2, k3, k4⟩ := requestStop_if (x ∈ cs) x d m hm.symm
    have other : ∀ c ∈ xs, m.launch.contexts[c] = d.launch.contexts[c] := by
      intro c hc
      rw [k3 c, if_neg]
      rintro ⟨rfl, -⟩
      exact hx hc
    refine ⟨h1.trans k1, h2.trans k2, fun c => ?_, ?_⟩
    · rw [h3 c]
      by_cases hc : c = x
      · subst hc
        rw [if_neg (fun k => hx k.1), k3 c]
        by_cases h5 : c ∈ cs ∧ d.launch.contexts[c].state = .on
        · rw [if_pos ⟨rfl, h5⟩, if_pos ⟨List.mem_cons_self .., h5⟩]
        · rw [if_neg (fun k => h5 k.2), if_neg (fun k => h5 k.2)]
      · by_cases hm : c ∈ xs
        · rw [other c hm]
          by_cases h5 : c ∈ cs ∧ d.launch.contexts[c].state = .on
          · rw [if_pos ⟨hm, h5⟩, if_pos ⟨List.mem_cons_of_mem _ hm, h5⟩]
          · rw [if_neg (fun k => h5 k.2), if_neg (fun k => h5 k.2)]
        · rw [if_neg (fun k => hm k.1), if_neg (fun k => (List.mem_cons.1 k.1).elim hc hm), k3 c, if_neg (fun k => hc k.1)]
    · rw [h4, k4]
      have filt : xs.filter (fun c => decide (c ∈ cs ∧ m.launch.contexts[c].state = .on)) =
          xs.filter (fun c => decide (c ∈ cs ∧ d.launch.contexts[c].state = .on)) :=
        List.filter_congr fun c hc => by rw [other c hc]
      have fold : ∀ (ys : List (Fin 8)) (l : List BusCommand), (∀ c ∈ ys, c ∈ xs) →
          ys.foldl (fun l c => insertCommand (.stop m.launch.contexts[c].point (some c)) l) l =
          ys.foldl (fun l c => insertCommand (.stop d.launch.contexts[c].point (some c)) l) l := by
        intro ys
        induction ys with
        | nil => intro _ _; rfl
        | cons y ys ih2 =>
          intro l hy
          rw [List.foldl_cons, List.foldl_cons, ih2 _ (fun c hc => hy c (List.mem_cons_of_mem _ hc)),
            other y (hy y (List.mem_cons_self ..))]
      rw [filt, fold _ _ (fun c hc => (List.mem_filter.1 hc).1)]
      by_cases hs : x ∈ cs ∧ d.launch.contexts[x].state = .on
      · rw [if_pos hs, List.filter_cons_of_pos (by exact decide_eq_true hs), List.foldl_cons]
      · rw [if_neg hs, List.filter_cons_of_neg (by simpa using hs)]

/-- STOPs requested for some contexts are issued for those that are ON. -/
theorem requestStops_issued (cs : List (Fin 8)) (d : Device) : stopsIssued d (requestStops cs d) (· ∈ cs) := by
  obtain ⟨h1, h2, h3, h4⟩ := requestStops_list cs (List.finRange 8) (List.nodup_finRange 8) d (requestStops cs d) rfl
  refine ⟨h1, h2, fun c => ⟨fun h => ?_, fun h => ?_⟩, _, ?_, fun c => ?_, h4⟩
  · rw [h3 c, if_pos ⟨List.mem_finRange c, h⟩]; simp
  · rw [h3 c, if_neg (fun k => h k.2)]; simp
  · exact (List.pairwise_lt_finRange 8).filter _
  · simp

/-- A STOP requested for one context is issued if it is ON. -/
theorem requestStop_issued (x : Fin 8) (d : Device) : stopsIssued d (requestStop x d) (fun c => c = x) := by
  obtain ⟨h1, h2, h3, h4⟩ := requestStop_if True x d (requestStop x d) (by rw [if_pos trivial])
  refine ⟨h1, h2, fun c => ⟨fun h => ?_, fun h => ?_⟩, if d.launch.contexts[x].state = .on then [x] else [], ?_, fun c => ?_, ?_⟩
  · obtain ⟨rfl, h⟩ := h
    rw [h3 c, if_pos ⟨rfl, trivial, h⟩]; simp
  · rw [h3 c, if_neg (fun k => h ⟨k.1, by rw [k.1]; exact k.2.2⟩)]; simp
  · split <;> simp
  · split
    · rename_i h; simp only [List.mem_singleton]
      exact ⟨fun k => ⟨k, by rw [k]; exact h⟩, fun k => k.1⟩
    · rename_i h; simp only [List.not_mem_nil, false_iff]
      rintro ⟨rfl, k⟩; exact h k
  · rw [h4]
    by_cases h : d.launch.contexts[x].state = .on
    · rw [if_pos ⟨trivial, h⟩, if_pos h]; rfl
    · rw [if_neg (fun k => h k.2), if_neg h]; rfl

/-- What reads a launch unit only through its bus lists and its contexts' states, timers and points. -/
theorem stopsIssued.congr {d d' e e' : Device} {w w' : Fin 8 → Prop} (h : stopsIssued d e w)
    (hd : d'.launch.sending = d.launch.sending ∧ d'.launch.waiting = d.launch.waiting ∧ d'.launch.issued = d.launch.issued ∧
      ∀ c : Fin 8, d'.launch.contexts[c].state = d.launch.contexts[c].state ∧
        d'.launch.contexts[c].timer = d.launch.contexts[c].timer ∧ d'.launch.contexts[c].point = d.launch.contexts[c].point)
    (he : e'.launch.sending = e.launch.sending ∧ e'.launch.waiting = e.launch.waiting ∧ e'.launch.issued = e.launch.issued ∧
      ∀ c : Fin 8, e'.launch.contexts[c].state = e.launch.contexts[c].state ∧
        e'.launch.contexts[c].timer = e.launch.contexts[c].timer)
    (hw : ∀ c, d.launch.contexts[c].state = .on → (w c ↔ w' c)) : stopsIssued d' e' w' := by
  obtain ⟨h1, h2, h3, cs, k1, k2, k3⟩ := h
  obtain ⟨a1, a2, a3, a4⟩ := hd
  obtain ⟨b1, b2, b3, b4⟩ := he
  have key : ∀ c, (w' c ∧ d'.launch.contexts[c].state = .on) ↔ (w c ∧ d.launch.contexts[c].state = .on) := by
    intro c
    rw [(a4 c).1]
    exact ⟨fun h => ⟨(hw c h.2).2 h.1, h.2⟩, fun h => ⟨(hw c h.2).1 h.1, h.2⟩⟩
  refine ⟨by rw [b1, a1, h1], by rw [b2, a2, h2], fun c => ?_, cs, k1, fun c => by rw [key c]; exact k2 c, ?_⟩
  · rw [key c, (b4 c).1, (b4 c).2, (a4 c).1, (a4 c).2.1]
    exact h3 c
  · rw [b3, a3, k3]
    have fold : ∀ (ys : List (Fin 8)) (l : List BusCommand),
        ys.foldl (fun l c => insertCommand (.stop d.launch.contexts[c].point (some c)) l) l =
        ys.foldl (fun l c => insertCommand (.stop d'.launch.contexts[c].point (some c)) l) l := by
      intro ys
      induction ys with
      | nil => intro _; rfl
      | cons y ys ih => intro l; rw [List.foldl_cons, List.foldl_cons, ih, (a4 y).2.2]
    exact fold _ _

/-- Neither the bus nor what a context sounds changes, only its owner at most. -/
structure SameBus (d e : Device) : Prop where
  sending : e.launch.sending = d.launch.sending
  waiting : e.launch.waiting = d.launch.waiting
  issued : e.launch.issued = d.launch.issued
  context : ∀ c : Fin 8, e.launch.contexts[c].state = d.launch.contexts[c].state ∧
    e.launch.contexts[c].timer = d.launch.contexts[c].timer ∧ e.launch.contexts[c].point = d.launch.contexts[c].point

theorem SameBus.of_eq {d e : Device} (h : e.launch = d.launch) : SameBus d e :=
  ⟨by rw [h], by rw [h], by rw [h], fun c => by rw [h]; exact ⟨rfl, rfl, rfl⟩⟩

theorem SameBus.trans {d e f : Device} (h : SameBus d e) (k : SameBus e f) : SameBus d f :=
  ⟨k.sending.trans h.sending, k.waiting.trans h.waiting, k.issued.trans h.issued, fun c =>
    ⟨(k.context c).1.trans (h.context c).1, (k.context c).2.1.trans (h.context c).2.1,
      (k.context c).2.2.trans (h.context c).2.2⟩⟩

theorem SameBus.foldl {β : Type} (f : Device → β → Device) (h : ∀ d b, SameBus d (f d b)) (xs : List β) (d : Device) :
    SameBus d (xs.foldl f d) := by
  induction xs generalizing d with
  | nil => exact .of_eq rfl
  | cons x xs ih => exact (h d x).trans (ih (f d x))

theorem stopsIssued.sandwich {d d1 e1 e : Device} {w w' : Fin 8 → Prop} (h : stopsIssued d1 e1 w) (hd : SameBus d d1)
    (he : SameBus e1 e) (hw : ∀ c, w c ↔ w' c) : stopsIssued d e w' :=
  h.congr ⟨hd.sending.symm, hd.waiting.symm, hd.issued.symm, fun c =>
    ⟨(hd.context c).1.symm, (hd.context c).2.1.symm, (hd.context c).2.2.symm⟩⟩
    ⟨he.sending, he.waiting, he.issued, fun c => ⟨(he.context c).1, (he.context c).2.1⟩⟩ (fun c _ => hw c)

theorem releaseOwner_sameBus (c : Fin 8) (r : Fin 16) (d : Device) : SameBus d (releaseOwner c r d) := by
  unfold releaseOwner Device.setContext
  split
  · refine ⟨rfl, rfl, rfl, fun x => ?_⟩
    dsimp only
    rw [vec_set_get]
    split
    · rename_i h; subst h; exact ⟨rfl, rfl, rfl⟩
    · exact ⟨rfl, rfl, rfl⟩
  · exact .of_eq rfl

theorem voidProbe_sameBus (r : Fin 16) (d : Device) : SameBus d (voidProbe r d) := by
  unfold voidProbe
  split
  · exact .of_eq rfl
  · split
    · exact .of_eq rfl
    · rename_i p _ _
      have h : (voidTone r p d).launch = d.launch := by unfold voidTone; split <;> simp
      exact (SameBus.of_eq h).trans ((releaseOwner_sameBus p.ctx r _).trans (.of_eq (by
        simp [freeRecord, requeue]; split <;> simp)))

/-- A void of several probes issues STOP for the contexts of the ARMED and LISTENING ones. -/
theorem voidProbes_stops (sel : Probe → Bool) (d : Device) :
    stopsIssued d (voidProbes sel d) (sounding d (fun p => sel p = true)) := by
  unfold voidProbes
  refine (requestStops_issued _ _).sandwich (SameBus.foldl _ (fun e r => ?_) _ d) (.of_eq rfl) (fun c => ?_)
  · unfold voidIf
    split
    · split
      · exact voidProbe_sameBus r e
      · exact .of_eq rfl
    · exact .of_eq rfl
  · unfold soundingContexts sounding
    rw [List.mem_filterMap]
    constructor
    · rintro ⟨x, hx, hc⟩
      obtain ⟨i, hi, rfl⟩ := List.getElem_of_mem hx
      rw [Vector.length_toList] at hi
      rw [Vector.getElem_toList] at hc
      match hp : d.probes.records[i] with
      | none => rw [hp] at hc; simp at hc
      | some p =>
        rw [hp] at hc
        refine ⟨⟨i, hi⟩, p, hp, ?_⟩
        cases hs : p.state <;> simp_all [ProbeState.tonesOn]
    · rintro ⟨r, p, hp, hsel, hst, hc⟩
      refine ⟨some p, ?_, ?_⟩
      · rw [← hp]; simp
      · rcases hst with h | h <;> simp [hsel, h, hc, ProbeState.tonesOn]

/-! ### Evaluation -/

theorem evaluateRecord_evaluated (r : Fin 16) (p : Probe) (d : Device) : evaluated d (evaluateRecord r p d) r p := by
  refine ⟨fun h => ?_, fun h => ⟨?_, ?_⟩⟩
  · rw [evaluateRecord_records]
    refine ⟨by simp [h], ?_⟩
    have hv : verdictWithheld p.slot ((releaseOwner p.ctx r d).setRecord r (some { p with state := .evaluating })) =
        true := by simpa [verdictWithheld, canAccess] using h
    unfold evaluateRecord
    dsimp only
    rw [if_pos hv]
    simp [freeRecord]
  · rw [evaluateRecord_records]; simp [h]
  · rintro addr kind rfl rfl
    have hv : verdictWithheld p.slot ((releaseOwner p.ctx r d).setRecord r (some { p with state := .evaluating })) =
        false := by simpa [verdictWithheld, canAccess] using h
    have hc : canAccess d = true := by
      unfold verdictWithheld at h
      simp at h
      exact h.2
    have hlen : (verdictBytes (evaluate p)).length = 64 := by
      simp [verdictBytes, putWord, putHalf, put8, put16, putPower, statusBytes, locationBytes, reserved]
    unfold evaluateRecord
    dsimp only
    rw [if_neg (by rw [hv]; simp)]
    unfold issueVerdict issueWrite
    have shape : ((releaseOwner p.ctx r d).setRecord r (some { p with state := .evaluating })).iface = d.iface ∧
        ((releaseOwner p.ctx r d).setRecord r (some { p with state := .evaluating })).slots = d.slots := by
      simp
    generalize hm : (releaseOwner p.ctx r d).setRecord r (some { p with state := .evaluating }) = m at shape ⊢
    have hc' : canAccess m = true := by unfold canAccess at hc ⊢; rw [shape.1]; exact hc
    constructor
    · intro hw
      rw [shape.2, Nat.mul_comm p.circuit, hlen, issue_inWindow _ _ _ _ _ _ hc' (by rw [shape.1]; exact hw)]
      exact ⟨_, List.mem_append_right _ (List.mem_singleton_self _), rfl, rfl, hlen.symm, rfl, rfl⟩
    · intro hw
      rw [shape.2, Nat.mul_comm p.circuit, hlen, issue_refused _ _ _ _ _ _ hc' (by rw [shape.1]; exact hw)]
      exact ⟨_, List.mem_append_right _ (List.mem_singleton_self _), rfl, rfl, rfl⟩


/-! ### What is due, reaction by reaction -/

/-- Only the bounds and the accesses before a reaction decide what is due. -/
theorem writeDue.start {c d e : Device} {ch : Channel} {addr : Nat} {data : List Byte} {p : Prop} (hi : d.iface = c.iface)
    (hd : d.dma = c.dma) (h : writeDue d e ch addr data p) : writeDue c e ch addr data p :=
  h.before (.of_eq hi hd)

theorem shadowBytes_congr {s t : Slot} (h : ∃ k b, t = { s with shadowVerdicts := k, announce := b }) (st : SlotState) :
    shadowBytes st t = shadowBytes st s := by obtain ⟨k, b, rfl⟩ := h; rfl

/-- A shadow write owed is due with the slot as it stands. -/
theorem owe_shadow_due (n : Fin 8) (d : Device) (p : Prop) : shadowDue d (owe (.shadow n) d) n p := by
  have h := owe_due (.shadow n) d
  obtain ⟨x, k, b, hx⟩ := owe_shadow_frame n d
  have hs : (owe (.shadow n) d).slots[n] = { d.slots[n] with shadowVerdicts := k, announce := b } := by
    rw [hx]; exact (vec_set_get _ _ _ _).trans (if_pos rfl)
  unfold shadowDue
  rw [hs]
  exact h.after (.refl _ _) False.elim

/-- Adding accesses and leaving a slot alone keeps its shadow write due. -/
theorem shadowDue.after {d e f : Device} {n : Fin 8} {p p' : Prop} (h : shadowDue d e n p) (g : Adds (fun _ => false) e f)
    (hs : ∃ k b, f.slots[n] = { e.slots[n] with shadowVerdicts := k, announce := b }) (i : p → p') : shadowDue d f n p' := by
  unfold shadowDue at h ⊢
  have hc : f.slots[n].closing = e.slots[n].closing ∧ f.slots[n].state = e.slots[n].state := by
    obtain ⟨k, b, hs⟩ := hs; rw [hs]; exact ⟨rfl, rfl⟩
  rw [shadowBytes_congr hs, hc.1, hc.2]
  exact writeDue.after h g i

/-- Accesses of other purposes before it leave a shadow write due. -/
theorem shadowDue.before {c d e : Device} {n : Fin 8} {p : Prop} (g : Adds (ofChannel (.shadow n)) c d)
    (h : shadowDue d e n p) : shadowDue c e n p := by
  unfold shadowDue at h ⊢
  rw [← g.boardAddr]
  exact writeDue.before g h

theorem same_slot (s : Slot) : ∃ k b, s = { s with shadowVerdicts := k, announce := b } := ⟨s.shadowVerdicts, s.announce, rfl⟩

/-- Owing a write adds accesses of its channel only. -/
theorem owe_adds {q : AccessKind → Bool} (ch : Channel) (d : Device) (h : ∀ c b, q (.channelWrite ch c b) = false) :
    Adds q d (owe ch d) := oweAs_adds false ch d h

theorem voidProbes_adds {q : AccessKind → Bool} (sel : Probe → Bool) (d : Device) : Adds q d (voidProbes sel d) := by
  obtain ⟨p, c, l, t, h, _⟩ := voidProbes_frame sel d
  rw [h]; exact .of_eq rfl rfl

theorem voidProbes_slots (sel : Probe → Bool) (d : Device) : (voidProbes sel d).slots = d.slots := by
  obtain ⟨p, c, l, t, h, _⟩ := voidProbes_frame sel d
  rw [h]

/-- An event that drains a slot owes its shadow write, and voids its probes with their STOPs issued. -/
theorem drainSlot_enters (n : Fin 8) (r : Reason) (d : Device) (h : d.slots[n].state.drainable = true) :
    shadowDue d (drainSlot n r d) n False ∧ stopsIssued d (drainSlot n r d) (sounding d (fun q => q.slot = n)) := by
  unfold drainSlot
  dsimp only
  rw [if_neg (by intro k; rw [k] at h; simp [SlotState.drainable] at h), if_pos h]
  obtain ⟨x, k, b, hx⟩ := owe_shadow_frame n (d.setSlot n { d.slots[n] with state := .draining, reason := r })
  constructor
  · refine shadowDue.after (p := False) (e := owe (.shadow n) (d.setSlot n { d.slots[n] with state := .draining, reason := r }))
      ?_ ?_ ?_ id
    · exact (owe_shadow_due n (d.setSlot n { d.slots[n] with state := .draining, reason := r }) False).before
        (.of_eq rfl rfl)
    · exact (Adds.of_eq (by rfl) (by rfl)).trans (voidProbes_adds _ _)
    · rw [voidProbes_slots]; exact same_slot _
  · refine (voidProbes_stops _ _).sandwich (.of_eq ?_) (.of_eq rfl) (fun c => ?_)
    · rw [hx]; rfl
    · rw [hx]; simp only [beq_iff_eq]; exact Iff.rfl


theorem owe_setSlot_due (n : Fin 8) (x : Slot) (d : Device) (p : Prop) : shadowDue d (owe (.shadow n) (d.setSlot n x)) n p :=
  (owe_shadow_due n (d.setSlot n x) p).before (.of_eq rfl rfl)

/-- A reason that replaces a draining slot's owes its shadow write. -/
theorem drainSlot_again (n : Fin 8) (r : Reason) (d : Device) (h : d.slots[n].state = .draining) :
    ((drainSlot n r d).slots[n].reason ≠ d.slots[n].reason → shadowDue d (drainSlot n r d) n False) ∧
    (drainSlot n r d).launch = d.launch ∧ (drainSlot n r d).probes = d.probes := by
  unfold drainSlot
  dsimp only
  rw [if_pos h]
  split
  · obtain ⟨x, k, b, hx⟩ := owe_shadow_frame n (d.setSlot n { d.slots[n] with reason := r })
    refine ⟨fun _ => owe_setSlot_due n _ d False, ?_, ?_⟩ <;> rw [hx] <;> rfl
  · exact ⟨fun k => absurd rfl k, rfl, rfl⟩

theorem drainSlot_adds {q : AccessKind → Bool} (n : Fin 8) (r : Reason) (d : Device)
    (h : ∀ c b, q (.channelWrite (.shadow n) c b) = false) : Adds q d (drainSlot n r d) := by
  unfold drainSlot
  dsimp only
  split
  · split
    · exact (owe_adds _ _ h).start rfl rfl
    · exact .refl q d
  · split
    · refine Adds.trans (e := owe (.shadow n) (d.setSlot n { d.slots[n] with state := .draining, reason := r })) ?_ ?_
      · exact (owe_adds _ _ h).start rfl rfl
      · exact (voidProbes_adds _ _).start rfl rfl
    · exact .refl q d

theorem requeue_stage (m : Fin 8) (c : Nat) (d : Device) (n : Fin 8) :
    (requeue m c d).sched[n].stage = d.sched[n].stage := by
  unfold requeue
  dsimp only
  split
  · unfold setCircuit
    rw [Device.setSched_sched_get]
    split
    · rename_i hn; subst hn; rfl
    · rfl
  · rfl

/-- A void changes no ready stage. -/
theorem voidIf_stage (sel : Probe → Bool) (d : Device) (r : Fin 16) (n : Fin 8) :
    (voidIf sel d r).sched[n].stage = d.sched[n].stage := by
  unfold voidIf
  split
  · split
    · unfold voidProbe
      split
      · rfl
      · split
        · rfl
        · rename_i p _ _
          have h1 : (voidTone r p d).sched = d.sched := by unfold voidTone; split <;> simp
          have h2 : (releaseOwner p.ctx r (voidTone r p d)).sched = d.sched := by simp [h1]
          have h3 : ∀ (r : Fin 16) (d : Device), (freeRecord r d).sched = d.sched := fun _ _ => rfl
          exact (congrArg (fun v : Vector SlotSchedule 8 => v[n].stage) (h3 r _)).trans
            ((requeue_stage _ _ _ n).trans (congrArg (fun v : Vector SlotSchedule 8 => v[n].stage) h2))
    · rfl
  · rfl

/-- A void changes no ready stage. -/
theorem voidProbes_stage (sel : Probe → Bool) (d : Device) (n : Fin 8) :
    (voidProbes sel d).sched[n].stage = d.sched[n].stage := by
  unfold voidProbes
  obtain ⟨l, h, hl⟩ := requestStops_frame (soundingContexts sel d) ((List.finRange 16).foldl (voidIf sel) d)
  rw [h]
  dsimp only
  clear h hl
  generalize List.finRange 16 = xs
  induction xs generalizing d with
  | nil => rfl
  | cons x xs ih => rw [List.foldl_cons, ih, voidIf_stage]

/-- The discard of a ready stage at entry to DRAINING. -/
theorem drainSlot_stage (n : Fin 8) (r : Reason) (d : Device) (h : d.slots[n].state.drainable = true) (q : Fin 2) :
    (drainSlot n r d).sched[n].stage[q] = discardPlace d.sched[n].stage[q] := by
  unfold drainSlot
  dsimp only
  rw [if_neg (by intro k; rw [k] at h; simp [SlotState.drainable] at h), if_pos h, voidProbes_stage]
  obtain ⟨x, k, b, hx⟩ := owe_shadow_frame n (d.setSlot n { d.slots[n] with state := .draining, reason := r })
  unfold discardStage
  rw [Device.setSched_sched_get, if_pos rfl, hx]
  exact mapVec_get _ _ _

theorem issue_slots (k : AccessKind) (a l : Nat) (b : List Byte) (o : Bool) (d : Device) :
    (issue k a l b o d).slots = d.slots := by
  obtain ⟨x, hx⟩ := issue_frame k a l b o d
  rw [hx]

/-- Every request judged owes its shadow write. -/
theorem judgeRequest_due (area : List Byte) (n : Fin 8) (d : Device) (h : requestSequence area n ≠ d.slots[n].lastSeq) :
    shadowDue d (judgeRequest area d n) n False := by
  unfold judgeRequest
  dsimp only
  rw [if_neg h]
  split
  · rename_i ht
    unfold actOnRequest
    generalize hm : d.setSlot n _ = m
    have hi : m.iface = d.iface ∧ m.dma = d.dma ∧ m.slots[n].state = d.slots[n].state := by
      subst hm; exact ⟨rfl, rfl, by rw [Device.setSlot_slots_get, if_pos rfl]⟩
    refine shadowDue.before (.of_eq hi.1 hi.2.1) ?_
    cases hk : requestKind area n with
    | submit =>
      unfold takeSubmit
      dsimp only
      split
      · exact owe_setSlot_due n _ _ False
      · refine (owe_setSlot_due n _ m False).after (issue_adds _ _ _ _ _ _ rfl) ?_ id
        unfold readDescriptor issueRead
        rw [issue_slots]
        exact same_slot _
    | abort =>
      rw [hk] at ht
      exact (drainSlot_enters n .aborted _ (by rw [hi.2.2]; simpa [requestTaken] using ht)).1
    | release =>
      unfold takeRelease
      dsimp only
      generalize hx : m.setArea n _ = x
      exact (owe_setSlot_due n _ x False).before (by subst hx; exact .of_eq rfl rfl)
    | other => rw [hk] at ht; simp [requestTaken] at ht
  · exact owe_setSlot_due n _ d False


/-! ### Probes that move, and looks -/

theorem evaluateRecord_sameBus (r : Fin 16) (p : Probe) (d : Device) : SameBus d (evaluateRecord r p d) := by
  have h : (evaluateRecord r p d).launch = (releaseOwner p.ctx r d).launch := by
    unfold evaluateRecord
    dsimp only
    split
    · rfl
    · unfold issueVerdict issueWrite; simp
  exact (releaseOwner_sameBus p.ctx r d).trans (.of_eq h)

theorem moveProbe_sameBus (d : Device) (r : Fin 16) : SameBus d (moveProbe d r) := by
  unfold moveProbe
  split
  · exact .of_eq rfl
  · rename_i p _
    split
    · exact (SameBus.of_eq (by simp)).trans (evaluateRecord_sameBus r p _)
    · dsimp only
      split
      · exact .of_eq rfl
      · exact .of_eq rfl

/-- At a lead ROUND_START STOP is issued for the contexts of the probes that enter GRACE, and for no other. -/
theorem moveProbes_stops (d : Device) :
    stopsIssued d (moveProbes d) (fun c => ∃ (r : Fin 16) (p : Probe), d.probes.records[r] = some p ∧ p.state = .listening ∧
      p.record.nmaxEff ≤ p.roundsListened ∧ p.ctx = c) := by
  unfold moveProbes
  refine (requestStops_issued _ _).sandwich (SameBus.foldl _ moveProbe_sameBus _ d) (.of_eq rfl) (fun c => ?_)
  unfold gracingContexts
  rw [List.mem_filterMap]
  constructor
  · rintro ⟨x, hx, hc⟩
    obtain ⟨i, hi, rfl⟩ := List.getElem_of_mem hx
    rw [Vector.length_toList] at hi
    rw [Vector.getElem_toList] at hc
    match hp : d.probes.records[i] with
    | none => rw [hp] at hc; simp at hc
    | some p =>
      rw [hp] at hc
      refine ⟨⟨i, hi⟩, p, hp, ?_⟩
      simp at hc
      exact ⟨hc.1.1, by omega, hc.2⟩
  · rintro ⟨r, p, hp, hst, hn, hc⟩
    refine ⟨some p, ?_, ?_⟩
    · rw [← hp]; simp
    · simp [hst, hc]; omega

/-- What a probe's entry to EVALUATING leaves stands while the device goes on adding accesses, and keeps the record. -/
theorem evaluated.after {d e f : Device} {r : Fin 16} {p : Probe} (h : evaluated d e r p) (g : Adds (fun _ => false) e f)
    (hr : f.probes.records[r] = e.probes.records[r]) (ho : r ∉ e.probes.order → r ∉ f.probes.order) : evaluated d f r p := by
  refine ⟨fun hw => ⟨hr.trans (h.1 hw).1, ho (h.1 hw).2⟩, fun hw => ⟨hr.trans (h.2 hw).1, fun addr kind ha hk => ?_⟩⟩
  obtain ⟨h1, h2⟩ := (h.2 hw).2 addr kind ha hk
  refine ⟨fun k => ?_, fun k => ?_⟩
  · obtain ⟨a, ha, x⟩ := h1 k
    obtain ⟨xs, e1, _⟩ := g.inFlight
    exact ⟨a, by rw [e1]; exact List.mem_append_left _ ha, x⟩
  · obtain ⟨a, ha, x⟩ := h2 k
    obtain ⟨xs, e1, _⟩ := g.refused
    exact ⟨a, by rw [e1]; exact List.mem_append_left _ ha, x⟩

/-- A probe's entry to EVALUATING reads the device before it through the slot's state, reason and verdict table and the
board interface only. -/
theorem evaluated.before {c d e : Device} {r : Fin 16} {p : Probe} (h : evaluated d e r p) (hi : d.iface = c.iface)
    (hw : verdictWithheld p.slot d = verdictWithheld p.slot c) (hd : d.slots[p.slot].desc = c.slots[p.slot].desc) :
    evaluated c e r p := by
  unfold evaluated at h ⊢
  rw [hi, hw, hd] at h
  exact h

theorem evaluateRecord_slots (r : Fin 16) (p : Probe) (d : Device) : (evaluateRecord r p d).slots = d.slots := by
  obtain ⟨q, l, x, h, _⟩ := evaluateRecord_frame r p d
  rw [h]

/-- A probe completed early is evaluated, its context stopped where it was LISTENING, and its tone released. -/
theorem completeEarly_does (r : Fin 16) (p : Probe) (d : Device) :
    evaluated d (completeEarly r p d) r p ∧
    (p.state = .listening → stopsIssued d (completeEarly r p d) (fun c => c = p.ctx) ∧
      (completeEarly r p d).tones[p.tone] = .quarantined ⟨d.rounds.number, some r, .ended, p.lastListen, false⟩) ∧
    (p.state ≠ .listening → SameBus d (completeEarly r p d)) := by
  unfold completeEarly
  by_cases hs : p.state = .listening
  · rw [if_pos hs]
    generalize hm : releaseTone p.tone (some r) .ended p.lastListen false d = m
    have hi : m.iface = d.iface ∧ m.slots = d.slots ∧ m.launch = d.launch ∧
        m.tones[p.tone] = .quarantined ⟨d.rounds.number, some r, .ended, p.lastListen, false⟩ := by
      subst hm; exact ⟨rfl, rfl, rfl, (vec_set_get _ _ _ _).trans (if_pos rfl)⟩
    have hq : ∃ l, requestStop p.ctx m = { m with launch := l } := by
      unfold requestStop; split
      · obtain ⟨l, h, _⟩ := issueStop_frame p.ctx m; exact ⟨l, h⟩
      · exact ⟨m.launch, rfl⟩
    have hst : stopsIssued m (requestStop p.ctx m) (fun c => c = p.ctx) :=
      requestStop_issued p.ctx m
    obtain ⟨l, hq⟩ := hq
    refine ⟨(evaluateRecord_evaluated r p _).before ?_ ?_ ?_, fun _ => ⟨?_, ?_⟩, fun k => absurd hs k⟩
    · rw [hq]; exact hi.1
    · unfold verdictWithheld canAccess; rw [hq]; dsimp only; rw [hi.1, hi.2.1]
    · rw [hq]; dsimp only; rw [hi.2.1]
    · exact hst.sandwich (.of_eq hi.2.2.1) (evaluateRecord_sameBus r p _) (fun _ => Iff.rfl)
    · obtain ⟨q, l', x, h, _⟩ := evaluateRecord_frame r p (requestStop p.ctx m)
      rw [h, hq]; exact hi.2.2.2
  · rw [if_neg hs]
    obtain ⟨t, ht⟩ : ∃ t, endGrace p.tone r .ended d = { d with tones := t } := by
      unfold endGrace
      split
      · split
        · exact ⟨_, rfl⟩
        · exact ⟨d.tones, rfl⟩
      · exact ⟨d.tones, rfl⟩
    rw [ht]
    exact ⟨(evaluateRecord_evaluated r p _).before rfl rfl rfl, fun k => absurd k hs, fun _ =>
      (SameBus.of_eq (by rfl)).trans (evaluateRecord_sameBus r p { d with tones := t })⟩


/-! ### Journal requests, looks and rounds -/

theorem journalOverflow_adds {q : AccessKind → Bool} (d : Device) (h : ∀ c b, q (.channelWrite .produced c b) = false) :
    Adds q d (journalOverflow d) := by
  unfold journalOverflow
  dsimp only
  have h1 : Adds q d (owe .produced { d with journal := { d.journal with overflow := d.journal.overflow + 1#32 } }) :=
    (owe_adds _ _ h).start rfl rfl
  split
  · exact h1
  · exact h1.trans (.of_eq (by rfl) (by rfl))

theorem serveJournalSteps_adds {q : AccessKind → Bool} (h : ∀ c b, q (.channelWrite .produced c b) = false)
    (hj : q .journalWrite = false) (n : Nat) (d : Device) : Adds q d (serveJournalSteps n d) := by
  induction n generalizing d with
  | zero => exact .refl q d
  | succ n ih =>
    unfold serveJournalSteps
    split
    · split
      · exact .refl q d
      · split
        · exact (issue_adds _ _ _ _ _ _ hj).start rfl rfl
        · exact Adds.trans ((journalOverflow_adds _ h).start (by rfl) (by rfl)) (ih _)
    · exact .refl q d

theorem serveJournal_adds {q : AccessKind → Bool} (h : ∀ c b, q (.channelWrite .produced c b) = false)
    (hj : q .journalWrite = false) (d : Device) : Adds q d (serveJournal d) := by
  unfold serveJournal
  split
  · exact serveJournalSteps_adds h hj _ d
  · exact .refl q d

/-- A journal request adds entry and produced-count writes only. -/
theorem journalRequest_adds {q : AccessKind → Bool} (h : ∀ c b, q (.channelWrite .produced c b) = false)
    (hj : q .journalWrite = false) (e : JournalEntry) (k : Option CoalesceKey) (d : Device) :
    Adds q d (journalRequest e k d) := by
  have enq : ∀ d : Device, Adds q d (enqueueJournal e d) := by
    intro d
    unfold enqueueJournal
    split
    · exact journalOverflow_adds d h
    · exact (serveJournal_adds h hj _).start rfl rfl
  unfold journalRequest
  split
  · split
    · exact enq d
    · split
      · exact .refl q d
      · exact (enq _).start rfl rfl
  · exact .refl q d

/-- A look that completes its probe has it completed early. -/
theorem offerLook_does (r : Fin 16) (p : Probe) (h : Nat) (hop : Hop) (a : Accumulator) (x : Sighting) (d : Device) (q : Probe)
    (ha : p.accums[h]? = some a) (hn : lookIgnored a p.record.looks x = false)
    (hq : q = { p with
      accums := p.accums.set h (a.accept hop p.record.depth x)
      leak := (if hop.role = .guarded ∧ x.level.isSome ∧ p.leak = none then some h else p.leak) }) :
    (q.complete = false → (offerLook r p h hop x d).probes.records[r] = some q ∧
      (offerLook r p h hop x d).launch = d.launch ∧ (offerLook r p h hop x d).tones = d.tones) ∧
    (q.complete = true → evaluated d (offerLook r p h hop x d) r q ∧
      (p.state = .listening → stopsIssued d (offerLook r p h hop x d) (fun c => c = p.ctx) ∧
        (offerLook r p h hop x d).tones[p.tone] = .quarantined ⟨d.rounds.number, some r, .ended, p.lastListen, false⟩) ∧
      (p.state ≠ .listening → SameBus d (offerLook r p h hop x d))) := by
  have hm : makesLeak p hop x = decide (hop.role = .guarded ∧ x.level.isSome ∧ p.leak = none) := by
    unfold makesLeak; cases p.leak <;> simp [Bool.beq_eq_decide_eq]
  have hq' : (if makesLeak p hop x then { p.look h hop a x with leak := some h } else p.look h hop a x) = q := by
    rw [hq, hm]
    by_cases c : hop.role = .guarded ∧ x.level.isSome ∧ p.leak = none
    · simp [c, Probe.look]
    · simp [c, Probe.look]
  unfold offerLook
  rw [ha]
  dsimp only
  rw [if_neg (by rw [hn]; simp), hq']
  generalize hy : (if makesLeak p hop x then
      journalRequest { findingEntry .leak p x with second := h } none (d.setRecord r (some q))
    else d.setRecord r (some q)) = y
  obtain ⟨j, v, c, hyd⟩ : ∃ j v c, y =
      { d.setRecord r (some q) with journal := j, dma := v, regs := { d.regs with irqCause := c } } := by
    subst hy
    split
    · obtain ⟨j, v, c, hj⟩ := journalRequest_frame { findingEntry .leak p x with second := h } none (d.setRecord r (some q))
      exact ⟨j, v, c, hj⟩
    · exact ⟨d.journal, d.dma, d.regs.irqCause, rfl⟩
  refine ⟨fun hc => ?_, fun hc => ?_⟩
  · rw [if_neg (by rw [hc]; simp), hyd]
    exact ⟨(vec_set_get _ _ _ _).trans (if_pos rfl), rfl, rfl⟩
  · rw [if_pos hc]
    obtain ⟨h1, h2, h3⟩ := completeEarly_does r q y
    have e1 : q.state = p.state ∧ q.ctx = p.ctx ∧ q.tone = p.tone ∧ q.lastListen = p.lastListen := by
      rw [hq]; exact ⟨rfl, rfl, rfl, rfl⟩
    refine ⟨h1.before (by rw [hyd]; rfl) (by rw [hyd]; rfl) (by rw [hyd]; rfl), fun hs => ?_, fun hs => ?_⟩
    · obtain ⟨g1, g2⟩ := h2 (e1.1.trans hs)
      refine ⟨g1.sandwich (.of_eq (by rw [hyd]; rfl)) (.of_eq rfl) (fun _ => by rw [e1.2.1]), ?_⟩
      rw [e1.2.2.2] at g2
      simp only [e1.2.2.1] at g2
      refine g2.trans ?_
      rw [hyd]; rfl
    · exact (SameBus.of_eq (by rw [hyd]; rfl)).trans (h3 (by rw [e1.1]; exact hs))

/-- The other probes' moves leave a record alone. -/
theorem moveProbe_other (d : Device) (r q : Fin 16) (h : q ≠ r) :
    (moveProbe d r).probes.records[q] = d.probes.records[q] ∧ (q ∉ d.probes.order → q ∉ (moveProbe d r).probes.order) ∧
    (moveProbe d r).slots = d.slots := by
  unfold moveProbe
  split
  · exact ⟨rfl, id, rfl⟩
  · rename_i p _
    split
    · refine ⟨?_, ?_, ?_⟩
      · rw [evaluateRecord_records, if_neg h]; simp
      · intro k
        unfold evaluateRecord issueVerdict issueWrite
        dsimp only
        split
        · simpa [freeRecord] using fun m => absurd m k
        · simpa using k
      · rw [evaluateRecord_slots]; simp
    · dsimp only
      split
      · exact ⟨(vec_set_get _ _ _ _).trans (if_neg h), id, rfl⟩
      · exact ⟨(vec_set_get _ _ _ _).trans (if_neg h), id, rfl⟩


theorem evaluateRecord_adds {q : AccessKind → Bool} (r : Fin 16) (p : Probe) (d : Device)
    (h : ∀ n g c x k m, q (.verdictWrite n g c x k m) = false) : Adds q d (evaluateRecord r p d) := by
  unfold evaluateRecord
  dsimp only
  have h1 : ((releaseOwner p.ctx r d).setRecord r (some { p with state := .evaluating })).iface = d.iface ∧
      ((releaseOwner p.ctx r d).setRecord r (some { p with state := .evaluating })).dma = d.dma := by simp
  split
  · exact .of_eq h1.1 h1.2
  · exact (issue_adds _ _ _ _ _ _ (h _ _ _ _ _ _)).start h1.1 h1.2

theorem moveProbe_adds {q : AccessKind → Bool} (h : ∀ n g c x k m, q (.verdictWrite n g c x k m) = false) (d : Device)
    (r : Fin 16) : Adds q d (moveProbe d r) := by
  unfold moveProbe
  split
  · exact .refl q d
  · rename_i p _
    split
    · exact (evaluateRecord_adds r p _ h).start (by simp) (by simp)
    · dsimp only
      split
      · exact .of_eq rfl rfl
      · exact .of_eq rfl rfl

/-- A lead ROUND_START adds a verdict record write for each probe that leaves GRACE, and no other access, to the probe table's. -/
theorem moveProbes_adds {q : AccessKind → Bool} (h : ∀ n g c x k m, q (.verdictWrite n g c x k m) = false) (d : Device) :
    Adds q d (moveProbes d) := by
  unfold moveProbes
  obtain ⟨l, hl, _⟩ := requestStops_frame (gracingContexts d) ((List.finRange 16).foldl moveProbe d)
  rw [hl]
  have h1 := Adds.foldl moveProbe (moveProbe_adds h) (List.finRange 16) d
  generalize (List.finRange 16).foldl moveProbe d = m at h1
  exact h1.trans (.of_eq rfl rfl)

/-- A probe in GRACE at a lead ROUND_START is evaluated. -/
theorem moveProbes_evaluated (d : Device) (r : Fin 16) (p : Probe) (hp : d.probes.records[r] = some p) (hs : p.state = .grace) :
    evaluated d (moveProbes d) r p := by
  have rest : ∀ (xs : List (Fin 16)) (d : Device), r ∉ xs →
      (xs.foldl moveProbe d).probes.records[r] = d.probes.records[r] ∧
      (r ∉ d.probes.order → r ∉ (xs.foldl moveProbe d).probes.order) := by
    intro xs
    induction xs with
    | nil => intro d _; exact ⟨rfl, id⟩
    | cons x xs ih =>
      intro d hx
      obtain ⟨h1, h2⟩ : r ≠ x ∧ r ∉ xs := by simpa using hx
      obtain ⟨g1, g2, _⟩ := moveProbe_other d x r h1
      obtain ⟨i1, i2⟩ := ih (moveProbe d x) h2
      exact ⟨i1.trans g1, fun k => i2 (g2 k)⟩
  have all : ∀ (xs : List (Fin 16)) (d : Device), xs.Nodup → r ∈ xs → d.probes.records[r] = some p →
      evaluated d (xs.foldl moveProbe d) r p := by
    intro xs
    induction xs with
    | nil => intro d _ h; simp at h
    | cons x xs ih =>
      intro d nd hx hp
      obtain ⟨n1, n2⟩ := List.nodup_cons.1 nd
      rw [List.foldl_cons]
      by_cases hr : r = x
      · subst hr
        obtain ⟨i1, i2⟩ := rest xs (moveProbe d r) n1
        refine evaluated.after (e := moveProbe d r) ?_ (Adds.foldl _ (moveProbe_adds (fun _ _ _ _ _ _ => rfl)) _ _) i1 i2
        obtain ⟨t, ht⟩ : ∃ t, endGrace p.tone r .ended d = { d with tones := t } := by
          unfold endGrace
          split
          · split
            · exact ⟨_, rfl⟩
            · exact ⟨d.tones, rfl⟩
          · exact ⟨d.tones, rfl⟩
        have hm : moveProbe d r = evaluateRecord r p { d with tones := t } := by
          unfold moveProbe
          rw [hp]
          dsimp only
          rw [if_pos hs, ht]
        rw [hm]
        exact (evaluateRecord_evaluated r p _).before rfl rfl rfl
      · obtain ⟨g1, _, g3⟩ := moveProbe_other d x r hr
        have hi : (moveProbe d x).iface = d.iface := (moveProbe_adds (q := fun _ => false) (fun _ _ _ _ _ _ => rfl) d x).iface
        refine (ih (moveProbe d x) n2 ((List.mem_cons.1 hx).resolve_left hr) (g1.trans hp)).before hi ?_ (by rw [g3])
        unfold verdictWithheld canAccess
        rw [hi, g3]
  unfold moveProbes
  obtain ⟨l, hl, _⟩ := requestStops_frame (gracingContexts d) ((List.finRange 16).foldl moveProbe d)
  rw [hl]
  have h1 := all _ d (List.nodup_finRange 16) (List.mem_finRange r) hp
  generalize (List.finRange 16).foldl moveProbe d = m at h1
  exact h1.after (.of_eq rfl rfl) rfl id

/-! ### Windows and peers -/

theorem updateWindow_adds {q : AccessKind → Bool} (w : Fin 4) (x : Window) (d : Device)
    (h : ∀ c b, q (.channelWrite (.window w) c b) = false) : Adds q d (updateWindow w x d) := by
  unfold updateWindow
  split
  · exact .refl q d
  · exact (owe_adds _ _ h).start rfl rfl

theorem updateWindow_windows (w : Fin 4) (x : Window) (d : Device) : (updateWindow w x d).windows = d.windows.set w x := by
  unfold updateWindow
  split
  · rename_i h; rw [← h]; simp
  · obtain ⟨v, hv⟩ := oweAs_plain false (.window w) (d.setWindow w x) rfl
    unfold owe; rw [hv]; rfl

theorem updateWindow_due (w : Fin 4) (x : Window) (d : Device) (h : d.windows[w] ≠ x) : windowDue d (updateWindow w x d) w := by
  have hw := updateWindow_windows w x d
  unfold windowDue
  rw [hw, vec_set_get, if_pos rfl]
  unfold updateWindow
  rw [if_neg h]
  have := owe_due (.window w) (d.setWindow w x)
  unfold channelExtent at this
  dsimp only at this
  rw [Device.setWindow_windows_get, if_pos rfl] at this
  exact this.start rfl rfl

theorem windowDue.after {d e f : Device} {w : Fin 4} (h : windowDue d e w) (g : Adds (fun _ => false) e f)
    (hw : f.windows[w] = e.windows[w]) : windowDue d f w := by
  unfold windowDue at h ⊢
  rw [hw]
  exact writeDue.after h g id

theorem windowDue.before {c d e : Device} {w : Fin 4} (h : windowDue d e w) (g : Adds (ofChannel (.window w)) c d) :
    windowDue c e w := by
  unfold windowDue at h ⊢
  rw [← g.boardAddr]
  exact writeDue.before g h

/-- Windows updated one by one: each that changes has its status write due. -/
theorem updateWindows_due (f : Fin 4 → Window → Window) (xs : List (Fin 4)) : ∀ (d : Device), xs.Nodup →
    (∀ w, (xs.foldl (fun d w => updateWindow w (f w d.windows[w]) d) d).windows[w] =
      if w ∈ xs then f w d.windows[w] else d.windows[w]) ∧
    (∀ q : AccessKind → Bool, (∀ w c b, q (.channelWrite (.window w) c b) = false) →
      Adds q d (xs.foldl (fun d w => updateWindow w (f w d.windows[w]) d) d)) ∧
    ∀ w, (xs.foldl (fun d w => updateWindow w (f w d.windows[w]) d) d).windows[w] ≠ d.windows[w] →
      windowDue d (xs.foldl (fun d w => updateWindow w (f w d.windows[w]) d) d) w := by
  induction xs with
  | nil => intro d _; exact ⟨fun w => by simp, fun q _ => .refl q d, fun w h => absurd rfl h⟩
  | cons x xs ih =>
    intro d nd
    obtain ⟨n1, n2⟩ := List.nodup_cons.1 nd
    rw [List.foldl_cons]
    obtain ⟨h1, h2, h3⟩ := ih (updateWindow x (f x d.windows[x]) d) n2
    have one : ∀ w : Fin 4, (updateWindow x (f x d.windows[x]) d).windows[w] = if w = x then f x d.windows[x] else d.windows[w] := by
      intro w; rw [updateWindow_windows, vec_set_get]
    refine ⟨fun w => ?_, fun q hq => (updateWindow_adds x _ d (hq x)).trans (h2 q hq), fun w hw => ?_⟩
    · rw [h1 w, one w]
      by_cases hc : w = x
      · subst hc; simp [n1]
      · simp [hc]
    · by_cases hc : w = x
      · subst hc
        have e : (xs.foldl (fun d w => updateWindow w (f w d.windows[w]) d) (updateWindow w (f w d.windows[w]) d)).windows[w] =
            (updateWindow w (f w d.windows[w]) d).windows[w] := by rw [h1 w, if_neg n1]
        refine (updateWindow_due w _ d ?_).after (h2 _ (fun _ _ _ => rfl)) e
        intro k
        rw [e, one w, if_pos rfl] at hw
        exact hw k.symm
      · refine (h3 w ?_).before (updateWindow_adds x _ d ?_)
        · rw [one w, if_neg hc]; exact hw
        · intro c b; simp [ofChannel, Ne.symm hc]


theorem moveSlot_adds {q : AccessKind → Bool} (n : Fin 8) (st : SlotState) (d : Device)
    (h : ∀ c b, q (.channelWrite (.shadow n) c b) = false) : Adds q d (moveSlot n st d) :=
  (owe_adds _ _ h).start rfl rfl

theorem moveSlot_slots (n m : Fin 8) (st : SlotState) (d : Device) : ∃ k b, (moveSlot n st d).slots[m] =
    if m = n then { d.slots[n] with state := st, shadowVerdicts := k, announce := b } else d.slots[m] := by
  unfold moveSlot
  obtain ⟨x, k, b, hx⟩ := owe_shadow_frame n (d.setSlot n { d.slots[n] with state := st })
  rw [hx]
  refine ⟨k, b, (vec_set_get _ _ _ _).trans ?_⟩
  split
  · rename_i h; subst h; rw [Device.setSlot_slots_get, if_pos rfl]
  · rename_i h; rw [Device.setSlot_slots_get, if_neg h]

/-- Slots moved one by one: each owes its shadow write once. -/
theorem moveSlots_due (st : SlotState) (xs : List (Fin 8)) : ∀ (d : Device), xs.Nodup →
    (∀ q : AccessKind → Bool, (∀ n c b, q (.channelWrite (.shadow n) c b) = false) →
      Adds q d (xs.foldl (fun d n => moveSlot n st d) d)) ∧
    (∀ n, n ∉ xs → (xs.foldl (fun d n => moveSlot n st d) d).slots[n] = d.slots[n]) ∧
    ∀ n, n ∈ xs → (xs.foldl (fun d n => moveSlot n st d) d).slots[n].state = st ∧
      shadowDue d (xs.foldl (fun d n => moveSlot n st d) d) n False := by
  induction xs with
  | nil => intro d _; exact ⟨fun q _ => .refl q d, fun n _ => rfl, fun n h => by simp at h⟩
  | cons x xs ih =>
    intro d nd
    obtain ⟨n1, n2⟩ := List.nodup_cons.1 nd
    rw [List.foldl_cons]
    obtain ⟨h1, h2, h3⟩ := ih (moveSlot x st d) n2
    refine ⟨fun q hq => (moveSlot_adds x st d (hq x)).trans (h1 q hq), fun n hn => ?_, fun n hn => ?_⟩
    · obtain ⟨k1, k2⟩ : n ≠ x ∧ n ∉ xs := by simpa using hn
      obtain ⟨k, b, e⟩ := moveSlot_slots x n st d
      rw [h2 n k2, e, if_neg k1]
    · by_cases hc : n = x
      · subst hc
        obtain ⟨k, b, e⟩ := moveSlot_slots n n st d
        refine ⟨by rw [h2 n n1, e, if_pos rfl], ?_⟩
        refine shadowDue.after (owe_setSlot_due n _ d False) (h1 _ (fun _ _ _ => rfl)) ?_ id
        rw [h2 n n1]
        exact same_slot _
      · obtain ⟨k1, k2⟩ := h3 n ((List.mem_cons.1 hn).resolve_left hc)
        refine ⟨k1, k2.before (moveSlot_adds x st d ?_)⟩
        intro c b; simp [ofChannel, Ne.symm hc]

theorem boundSlots_nodup (d : Device) (ws : List (Fin 4)) (sts : List SlotState) : (boundSlots d ws sts).Nodup := by
  unfold boundSlots
  split
  · exact (List.nodup_finRange 8).filter _
  · exact List.nodup_nil

/-- The windows at a round start: a status write is due for each that changes, a shadow write for each campaign that runs again. -/
theorem settleWindows_due (d : Device) :
    (∀ q : AccessKind → Bool, (∀ w c b, q (.channelWrite (.window w) c b) = false) →
      (∀ n c b, q (.channelWrite (.shadow n) c b) = false) → Adds q d (settleWindows d)) ∧
    (∀ w : Fin 4, (settleWindows d).windows[w] ≠ d.windows[w] → windowDue d (settleWindows d) w) ∧
    ∀ n : Fin 8, (settleWindows d).slots[n].state ≠ d.slots[n].state → shadowDue d (settleWindows d) n False := by
  unfold settleWindows resumeBound
  obtain ⟨h1, h2, h3⟩ := updateWindows_due (fun _ x => x.atRound) (List.finRange 4) d (List.nodup_finRange 4)
  have hs : ((List.finRange 4).foldl (fun d w => updateWindow w d.windows[w].atRound d) d).slots = d.slots := by
    clear h1 h2 h3
    generalize List.finRange 4 = xs
    induction xs generalizing d with
    | nil => rfl
    | cons x xs ih => rw [List.foldl_cons, ih]; simp
  generalize hm : (List.finRange 4).foldl (fun d w => updateWindow w d.windows[w].atRound d) d = m at *
  have hn : ∀ ws sts, (boundSlots m ws sts).Nodup := boundSlots_nodup m
  obtain ⟨g1, g2, g3⟩ := moveSlots_due .running (boundSlots m (quieting d) [.waiting, .suspended]) m (hn _ _)
  have hw : ((boundSlots m (quieting d) [.waiting, .suspended]).foldl (fun d n => moveSlot n .running d) m).windows =
      m.windows := by
    generalize boundSlots m (quieting d) [.waiting, .suspended] = xs
    clear hn g1 g2 g3 h1 h2 h3 hs hm
    induction xs generalizing m with
    | nil => rfl
    | cons x xs ih => rw [List.foldl_cons, ih]; simp
  refine ⟨fun q q1 q2 => (h2 q q1).trans (g1 q q2), fun w k => ?_, fun n k => ?_⟩
  · rw [hw] at k
    exact (h3 w k).after (g1 _ (fun _ _ _ => rfl)) (by rw [hw])
  · by_cases hc : n ∈ boundSlots m (quieting d) [.waiting, .suspended]
    · exact (g3 n hc).2.before (h2 _ (fun _ _ _ => by simp [ofChannel]))
    · exact absurd (by rw [g2 n hc, hs]) k

theorem peerDue.after {d e f : Device} {p : Fin 16} {l l' : Prop} (h : peerDue d e p l) (g : Adds (fun _ => false) e f)
    (hp : peerStatusBytes f.lead.peers[p] = peerStatusBytes e.lead.peers[p]) (i : l → l') : peerDue d f p l' := by
  unfold peerDue at h ⊢
  rw [hp]
  exact writeDue.after h g i

theorem peerDue.before {c d e : Device} {p : Fin 16} {l : Prop} (h : peerDue d e p l) (g : Adds (ofChannel (.peer p)) c d) :
    peerDue c e p l := by
  unfold peerDue at h ⊢
  rw [← g.boardAddr]
  exact writeDue.before g h

/-- The peers' status writes: at a lead one is due for each peer whose status changed, and none for another. -/
theorem owePeers_due (b : Vector Peer 16) (d : Device) :
    (∀ q : AccessKind → Bool, (∀ p c x, q (.channelWrite (.peer p) c x) = false) → Adds q d (owePeers b d)) ∧
    (∀ p : Fin 16, peerStatusBytes b[p] = peerStatusBytes d.lead.peers[p] →
      Adds (ofChannel (.peer p)) d (owePeers b d)) ∧
    ∀ p : Fin 16, d.iface.mode = some .lead → peerStatusBytes b[p] ≠ peerStatusBytes d.lead.peers[p] →
      peerDue d (owePeers b d) p False := by
  have hl : ∀ (d : Device) (p : Fin 16), (owePeerIfChanged b d p).lead = d.lead := fun d p => by simp
  have one : ∀ (q : AccessKind → Bool) (d : Device) (p : Fin 16), (∀ c x, q (.channelWrite (.peer p) c x) = false) →
      Adds q d (owePeerIfChanged b d p) := by
    intro q d p h
    unfold owePeerIfChanged
    split
    · exact .refl q d
    · exact owe_adds _ _ h
  have all : ∀ (xs : List (Fin 16)) (d : Device), xs.Nodup →
      (xs.foldl (owePeerIfChanged b) d).lead = d.lead ∧
      (∀ p : Fin 16, (p ∉ xs ∨ peerStatusBytes b[p] = peerStatusBytes d.lead.peers[p]) →
        Adds (ofChannel (.peer p)) d (xs.foldl (owePeerIfChanged b) d)) ∧
      ∀ p : Fin 16, p ∈ xs → peerStatusBytes b[p] ≠ peerStatusBytes d.lead.peers[p] →
        peerDue d (xs.foldl (owePeerIfChanged b) d) p False := by
    intro xs
    induction xs with
    | nil => intro d _; exact ⟨rfl, fun p _ => .refl _ d, fun p h => by simp at h⟩
    | cons x xs ih =>
      intro d nd
      obtain ⟨n1, n2⟩ := List.nodup_cons.1 nd
      rw [List.foldl_cons]
      obtain ⟨h1, h2, h3⟩ := ih (owePeerIfChanged b d x) n2
      rw [hl] at h1 h2 h3
      have skip : ∀ p : Fin 16, (p ≠ x ∨ peerStatusBytes b[p] = peerStatusBytes d.lead.peers[p]) →
          Adds (ofChannel (.peer p)) d (owePeerIfChanged b d x) := by
        intro p hp
        by_cases hc : p = x
        · subst hc
          unfold owePeerIfChanged
          rw [if_pos (hp.resolve_left (fun k => k rfl))]
          exact .refl _ d
        · exact one _ d x (fun c y => by simp [ofChannel, Ne.symm hc])
      refine ⟨h1, fun p hp => (skip p ?_).trans (h2 p ?_), fun p hp hne => ?_⟩
      · rcases hp with hp | hp
        · exact .inl (fun k => hp (by simp [k]))
        · exact .inr hp
      · rcases hp with hp | hp
        · exact .inl (fun k => hp (by simp [k]))
        · exact .inr hp
      · by_cases hc : p = x
        · subst hc
          have due : peerDue d (owePeerIfChanged b d p) p False := by
            unfold peerDue
            rw [hl]
            unfold owePeerIfChanged
            rw [if_neg hne]
            exact owe_due (.peer p) d
          have a0 : Adds (fun _ => false) (owePeerIfChanged b d p) (xs.foldl (owePeerIfChanged b) (owePeerIfChanged b d p)) :=
            Adds.foldl _ (fun d q => one _ d q (fun _ _ => rfl)) xs _
          exact due.after a0 (by rw [h1, hl]) id
        · exact (h3 p ((List.mem_cons.1 hp).resolve_left hc) hne).before (skip p (.inl hc))
  unfold owePeers
  refine ⟨fun q h => ?_, fun p h => ?_, fun p hm h => ?_⟩
  · split
    · exact Adds.foldl _ (fun d p => one q d p (h p)) _ d
    · exact .refl q d
  · split
    · exact (all _ d (List.nodup_finRange 16)).2.1 p (.inr h)
    · exact .refl _ d
  · rw [if_pos hm]
    exact (all _ d (List.nodup_finRange 16)).2.2 p (List.mem_finRange p) h

/-! ### Settings and silence -/

theorem applyStaged_adds {q : AccessKind → Bool} (d : Device) (h1 : ∀ p c x, q (.channelWrite (.peer p) c x) = false)
    (h2 : ∀ c x, q (.channelWrite .acknowledgment c x) = false) : Adds q d (applyStaged d) := by
  unfold applyStaged
  split
  · exact .refl q d
  · split
    · refine Adds.trans ?_ (owe_adds .acknowledgment _ h2)
      unfold applyPeers
      exact ((owePeers_due _ _).1 q h1).start (by simp) (by simp)
    · exact .refl q d

/-- An application of staged settings at a lead: a status write is due for each peer whose status changed, and none for another. -/
theorem applyStaged_peers (d : Device) (p : Fin 16) :
    (d.iface.mode = some .lead → peerStatusBytes (applyStaged d).lead.peers[p] ≠ peerStatusBytes d.lead.peers[p] →
      peerDue d (applyStaged d) p False) ∧
    (peerStatusBytes (applyStaged d).lead.peers[p] = peerStatusBytes d.lead.peers[p] →
      Adds (ofChannel (.peer p)) d (applyStaged d)) := by
  unfold applyStaged
  split
  · exact ⟨fun _ h => absurd rfl h, fun _ => .refl _ d⟩
  · split
    · rename_i seq s _ _
      dsimp only
      unfold applyPeers
      dsimp only
      generalize hz : ({ applyTaps s.taps _ with lead := _ } : Device) = z
      have hzi : z.iface = d.iface ∧ z.dma = d.dma := by subst hz; exact ⟨by simp, by simp⟩
      obtain ⟨_, g2, g3⟩ := owePeers_due d.lead.peers z
      have hlead : ∀ b y, (owe .acknowledgment (owePeers b y)).lead = y.lead := by intro b y; simp
      have hb : (applyTaps s.taps { d with rounds := { d.rounds with
        inForce := some s.derived, applied := some (seq, d.rounds.number), staged := none } }).lead.peers = d.lead.peers := by simp
      rw [hlead, hb]
      refine ⟨fun hm h => ?_, fun h => ?_⟩
      · have due := g3 p (by rw [hzi.1]; exact hm) (fun k => h k.symm)
        refine (due.before (c := d) (.of_eq hzi.1 hzi.2)).after (owe_adds _ _ (fun _ _ => rfl)) ?_ id
        rw [hlead]; simp
      · exact ((g2 p h.symm).start hzi.1 hzi.2).trans (owe_adds _ _ (fun c b => by simp [ofChannel]))
    · exact ⟨fun _ h => absurd rfl h, fun _ => .refl _ d⟩

theorem countSilence_adds {q : AccessKind → Bool} (d : Device) (h : ∀ c b, q (.channelWrite .produced c b) = false)
    (hj : q .journalWrite = false) : Adds q d (countSilence d) := by
  unfold countSilence
  refine Adds.start (Adds.foldl _ (fun d p => ?_) _ _) rfl rfl
  unfold reportSilent
  split
  · exact journalRequest_adds h hj _ _ d
  · exact .refl q d

/-! ### A slot through several reactions -/

/-- A reaction leaves a slot alone and issues no shadow write of it, or its shadow write is due. -/
def ShadowStep (n : Fin 8) (d e : Device) : Prop :=
  (Adds (ofChannel (.shadow n)) d e ∧ e.slots[n] = d.slots[n]) ∨ shadowDue d e n (.shadow n ∈ e.dma.owed)

theorem ShadowStep.refl (n : Fin 8) (d : Device) : ShadowStep n d d := .inl ⟨.refl _ d, rfl⟩

theorem ShadowStep.of_eq {n : Fin 8} {d e : Device} (hi : e.iface = d.iface) (hd : e.dma = d.dma) (hs : e.slots = d.slots) :
    ShadowStep n d e := .inl ⟨.of_eq hi hd, by rw [hs]⟩

/-- A shadow write due after a reaction that adds accesses was due before it, owed behind the reaction's own. -/
theorem ShadowStep.before {n : Fin 8} {d e f : Device} (h : ShadowStep n d e) (k : shadowDue e f n (.shadow n ∈ f.dma.owed))
    (a : Adds (fun _ => false) d e) (b : Adds (fun _ => false) e f) : shadowDue d f n (.shadow n ∈ f.dma.owed) := by
  rcases h with ⟨h1, _⟩ | h
  · exact k.before h1
  · intro hc
    obtain ⟨h1, h2⟩ := h hc
    obtain ⟨k1, -⟩ := k (by rw [a.canAccess]; exact hc)
    refine ⟨fun hl => b.owed _ (h1 hl), fun hl hw => ?_⟩
    have len : ∀ (st st' : SlotState) (s s' : Slot), (shadowBytes st s).length = (shadowBytes st' s').length :=
      fun _ _ _ _ => rfl
    obtain ⟨x, hx, ⟨c, y, hk⟩, g2, g3, g4, g5⟩ := h2 hl (by rw [len]; exact hw)
    obtain ⟨xs, e1, _⟩ := b.inFlight
    refine ⟨x, by rw [e1]; exact List.mem_append_left _ hx, ⟨c, y, hk⟩, g2, g3.trans (len _ _ _ _), .inr (k1 ?_), g5⟩
    unfold live
    rw [List.any_append, Bool.or_eq_true]
    exact .inl (List.any_eq_true.2 ⟨x, hx, by simp [g5, hk, ofChannel]⟩)

/-- A shadow write due stays due through a reaction that adds accesses, owed behind the first. -/
theorem ShadowStep.after {n : Fin 8} {d e f : Device} (h : shadowDue d e n (.shadow n ∈ e.dma.owed)) (k : ShadowStep n e f)
    (a : Adds (fun _ => false) d e) (b : Adds (fun _ => false) e f) : shadowDue d f n (.shadow n ∈ f.dma.owed) := by
  rcases k with ⟨_, k2⟩ | k
  · exact h.after b (by rw [k2]; exact same_slot _) (b.owed _)
  · exact ShadowStep.before (.inr h) k a b

theorem ShadowStep.trans {n : Fin 8} {d e f : Device} (h : ShadowStep n d e) (k : ShadowStep n e f)
    (a : Adds (fun _ => false) d e) (b : Adds (fun _ => false) e f) : ShadowStep n d f := by
  rcases k with ⟨k1, k2⟩ | k
  · rcases h with ⟨h1, h2⟩ | h
    · exact .inl ⟨h1.trans k1, k2.trans h2⟩
    · exact .inr (ShadowStep.after h (.inl ⟨k1, k2⟩) a b)
  · exact .inr (h.before k a b)

theorem ShadowStep.foldl {β : Type} {n : Fin 8} (f : Device → β → Device) (h : ∀ d b, ShadowStep n d (f d b))
    (a : ∀ d b, Adds (fun _ => false) d (f d b)) (xs : List β) (d : Device) : ShadowStep n d (xs.foldl f d) := by
  induction xs generalizing d with
  | nil => exact .refl n d
  | cons x xs ih => exact (h d x).trans (ih _) (a d x) (Adds.foldl f a xs _)

theorem owe_shadowStep (n m : Fin 8) (x : Slot) (d : Device) : ShadowStep n d (owe (.shadow m) (d.setSlot m x)) := by
  by_cases h : n = m
  · subst h; exact .inr (owe_setSlot_due n x d _)
  · refine .inl ⟨(owe_adds _ _ (fun c b => by simp [ofChannel, Ne.symm h])).start rfl rfl, ?_⟩
    obtain ⟨v, k, b, hx⟩ := owe_shadow_frame m (d.setSlot m x)
    rw [hx]
    refine (vec_set_get _ _ _ _).trans ?_
    rw [if_neg h, Device.setSlot_slots_get, if_neg h]

theorem judgeRequest_adds {q : AccessKind → Bool} (area : List Byte) (d : Device) (m : Fin 8)
    (h1 : ∀ c b, q (.channelWrite (.shadow m) c b) = false) (h2 : q (.descriptorRead m) = false) :
    Adds q d (judgeRequest area d m) := by
  unfold judgeRequest
  dsimp only
  split
  · exact .refl _ d
  · split
    · unfold actOnRequest
      generalize hy : d.setSlot m _ = y
      have hi : y.iface = d.iface ∧ y.dma = d.dma := by subst hy; exact ⟨rfl, rfl⟩
      refine Adds.start ?_ hi.1 hi.2
      split
      · unfold takeSubmit
        dsimp only
        have h3 := (owe_adds (.shadow m) (y.setSlot m (y.slots[m].submitted y.iface.mode)) h1).start (c := y) rfl rfl
        split
        · exact h3
        · exact h3.trans (issue_adds _ _ _ _ _ _ h2)
      · exact drainSlot_adds _ _ _ h1
      · exact (owe_adds _ _ h1).start rfl rfl
      · exact .refl q y
    · exact (owe_adds _ _ h1).start rfl rfl

theorem owe_shadow_slots (m n : Fin 8) (d : Device) (h : n ≠ m) : (owe (.shadow m) d).slots[n] = d.slots[n] := by
  obtain ⟨v, k, b, hx⟩ := owe_shadow_frame m d
  rw [hx]
  exact (vec_set_get _ _ _ _).trans (if_neg h)

theorem owe_setSlot_slots (m n : Fin 8) (x : Slot) (d : Device) (h : n ≠ m) :
    (owe (.shadow m) (d.setSlot m x)).slots[n] = d.slots[n] := by
  rw [owe_shadow_slots m n _ h, Device.setSlot_slots_get, if_neg h]

theorem drainSlot_slots (m n : Fin 8) (r : Reason) (d : Device) (h : n ≠ m) : (drainSlot m r d).slots[n] = d.slots[n] := by
  obtain ⟨y, p, c, l, t, x, hd, _⟩ := drainSlot_frame m r d
  rw [hd]
  exact (vec_set_get _ _ _ _).trans (if_neg h)

theorem actOnRequest_slots (m n : Fin 8) (k : RequestKind) (y : Device) (h : n ≠ m) :
    (actOnRequest m k y).slots[n] = y.slots[n] := by
  unfold actOnRequest
  cases k with
  | submit =>
    unfold takeSubmit readDescriptor issueRead
    dsimp only
    have hz := owe_setSlot_slots m n (y.slots[m].submitted y.iface.mode) y h
    split
    · exact hz
    · exact (congrArg (fun v : Vector Slot 8 => v[n]) (issue_slots _ _ _ _ _ _)).trans hz
  | abort => exact drainSlot_slots m n _ y h
  | release =>
    unfold takeRelease
    dsimp only
    exact owe_setSlot_slots m n _ (y.setArea m _) h
  | other => rfl

theorem judgeRequest_slots (area : List Byte) (d : Device) (m n : Fin 8) (h : n ≠ m) :
    (judgeRequest area d m).slots[n] = d.slots[n] := by
  unfold judgeRequest
  dsimp only
  split
  · rfl
  · split
    · rw [actOnRequest_slots m n _ _ h, Device.setSlot_slots_get, if_neg h]
    · exact owe_setSlot_slots m n _ d h

/-- A request area judged: a slot is left alone, or its shadow write is due. -/
theorem judgeRequest_shadowStep (area : List Byte) (n : Fin 8) (d : Device) (m : Fin 8) :
    ShadowStep n d (judgeRequest area d m) := by
  by_cases h : n = m
  · subst h
    by_cases hs : requestSequence area n = d.slots[n].lastSeq
    · unfold judgeRequest
      dsimp only
      rw [if_pos hs]
      exact .refl n d
    · exact .inr ((judgeRequest_due area n d hs).after (.refl _ _) (same_slot _) False.elim)
  · exact .inl ⟨judgeRequest_adds area d m (fun c b => by simp [ofChannel, Ne.symm h]) rfl, judgeRequest_slots area d m n h⟩


theorem suspendBound_adds {q : AccessKind → Bool} (ws : List (Fin 4)) (d : Device)
    (h : ∀ n c b, q (.channelWrite (.shadow n) c b) = false) : Adds q d (suspendBound ws d) := by
  unfold suspendBound
  dsimp only
  exact ((moveSlots_due .suspended _ d (boundSlots_nodup d ws [.running])).1 q h).trans (voidProbes_adds _ _)

theorem suspendBound_shadowStep (ws : List (Fin 4)) (n : Fin 8) (d : Device) : ShadowStep n d (suspendBound ws d) := by
  unfold suspendBound
  dsimp only
  have step : ∀ (d : Device) (m : Fin 8), ShadowStep n d (moveSlot m .suspended d) := fun d m => owe_shadowStep n m _ d
  have add : ∀ (d : Device) (m : Fin 8), Adds (fun _ => false) d (moveSlot m .suspended d) :=
    fun d m => moveSlot_adds m _ d (fun _ _ => rfl)
  refine ShadowStep.trans (ShadowStep.foldl _ step add _ d) (.inl ⟨voidProbes_adds _ _, ?_⟩) (Adds.foldl _ add _ d)
    (voidProbes_adds _ _)
  rw [voidProbes_slots]

theorem updateWindow_slots (w : Fin 4) (x : Window) (d : Device) : (updateWindow w x d).slots = d.slots := by simp

theorem applyWants_adds (area : List Byte) (d : Device) : Adds (fun _ => false) d (applyWants area d) := by
  unfold applyWants
  exact Adds.trans (Adds.foldl _ (fun d w => updateWindow_adds w _ d (fun _ _ => rfl)) _ d)
    (suspendBound_adds _ _ (fun _ _ _ => rfl))

theorem applyWants_shadowStep (area : List Byte) (n : Fin 8) (d : Device) : ShadowStep n d (applyWants area d) := by
  unfold applyWants
  have add : ∀ (d : Device) (w : Fin 4), Adds (fun _ => false) d
      (updateWindow w (d.windows[w].applyWant (wantClosed area w) (holdOff area w)) d) :=
    fun d w => updateWindow_adds w _ d (fun _ _ => rfl)
  refine ShadowStep.trans (ShadowStep.foldl _ (fun d w => .inl ⟨updateWindow_adds w _ d ?_, ?_⟩) add _ d)
    (suspendBound_shadowStep _ n _) (Adds.foldl _ add _ d) (suspendBound_adds _ _ (fun _ _ _ => rfl))
  · intro c b; simp [ofChannel]
  · rw [updateWindow_slots]

theorem progressShadow_adds (d : Device) (n : Fin 8) : Adds (fun _ => false) d (progressShadow d n) := by
  unfold progressShadow
  split
  · exact .refl _ d
  · exact owe_adds _ _ (fun _ _ => rfl)

theorem progressShadow_shadowStep (n : Fin 8) (d : Device) (m : Fin 8) : ShadowStep n d (progressShadow d m) := by
  unfold progressShadow
  split
  · exact .refl n d
  · by_cases h : n = m
    · subst h; exact .inr (owe_shadow_due n d _)
    · exact .inl ⟨owe_adds _ _ (fun c b => by simp [ofChannel, Ne.symm h]), owe_shadow_slots m n d h⟩

/-- A slot whose shadow is out of date has its shadow write due once every slot's progress has been noted. -/
theorem progressShadows_due (n : Fin 8) (d : Device) (h : d.slots[n].verdicts ≠ d.slots[n].shadowVerdicts) :
    shadowDue d ((List.finRange 8).foldl progressShadow d) n (.shadow n ∈ ((List.finRange 8).foldl progressShadow d).dma.owed) := by
  have all : ∀ (xs : List (Fin 8)) (d : Device), n ∈ xs → d.slots[n].verdicts ≠ d.slots[n].shadowVerdicts →
      shadowDue d (xs.foldl progressShadow d) n (.shadow n ∈ (xs.foldl progressShadow d).dma.owed) := by
    intro xs
    induction xs with
    | nil => intro d h; simp at h
    | cons x xs ih =>
      intro d hx hv
      rw [List.foldl_cons]
      have rest : ∀ e, Adds (fun _ => false) e (xs.foldl progressShadow e) := Adds.foldl _ progressShadow_adds xs
      by_cases hc : n = x
      · subst hc
        refine ShadowStep.after (e := progressShadow d n) ?_ (ShadowStep.foldl _ (progressShadow_shadowStep n) progressShadow_adds xs _)
          (progressShadow_adds d n) (rest _)
        unfold progressShadow
        rw [if_neg hv]
        exact owe_shadow_due n d _
      · have hs : (progressShadow d x).slots[n] = d.slots[n] := by
          unfold progressShadow
          split
          · rfl
          · exact owe_shadow_slots x n d hc
        exact (progressShadow_shadowStep n d x).before (ih _ ((List.mem_cons.1 hx).resolve_left hc) (by rw [hs]; exact hv))
          (progressShadow_adds d x) (rest _)
  exact all _ d (List.mem_finRange n) h


/-- Every slot judged: one whose request word's sequence changed has its shadow write due. -/
theorem judgeRequests_due (area : List Byte) (n : Fin 8) (d : Device) (h : requestSequence area n ≠ d.slots[n].lastSeq) :
    shadowDue d ((List.finRange 8).foldl (judgeRequest area) d) n
      (.shadow n ∈ ((List.finRange 8).foldl (judgeRequest area) d).dma.owed) := by
  have add : ∀ (d : Device) (m : Fin 8), Adds (fun _ => false) d (judgeRequest area d m) :=
    fun d m => judgeRequest_adds area d m (fun _ _ => rfl) rfl
  have all : ∀ (xs : List (Fin 8)) (d : Device), n ∈ xs → requestSequence area n ≠ d.slots[n].lastSeq →
      shadowDue d (xs.foldl (judgeRequest area) d) n (.shadow n ∈ (xs.foldl (judgeRequest area) d).dma.owed) := by
    intro xs
    induction xs with
    | nil => intro d h; simp at h
    | cons x xs ih =>
      intro d hx hv
      rw [List.foldl_cons]
      have rest : ∀ e, Adds (fun _ => false) e (xs.foldl (judgeRequest area) e) := Adds.foldl _ add xs
      by_cases hc : n = x
      · subst hc
        refine ShadowStep.after (e := judgeRequest area d n) ?_
          (ShadowStep.foldl _ (judgeRequest_shadowStep area n) add xs _) (add d n) (rest _)
        exact (judgeRequest_due area n d hv).after (.refl _ _) (same_slot _) False.elim
      · exact (judgeRequest_shadowStep area n d x).before
          (ih _ ((List.mem_cons.1 hx).resolve_left hc) (by rw [judgeRequest_slots area d x n hc]; exact hv)) (add d x) (rest _)
  exact all _ d (List.mem_finRange n) h

theorem takeSequence_adds {q : AccessKind → Bool} (area : List Byte) (d : Device) (h : ∀ s, q (.settingsRead s) = false) :
    Adds q d (takeSequence area d) := by
  unfold takeSequence
  dsimp only
  split
  · exact .of_eq rfl rfl
  · split
    · exact .of_eq rfl rfl
    · exact (issue_adds _ _ _ _ _ _ (h _)).start rfl rfl

theorem takeSequence_slots (area : List Byte) (d : Device) : (takeSequence area d).slots = d.slots := by
  unfold takeSequence readSettings issueRead
  dsimp only
  split
  · rfl
  · split
    · rfl
    · rw [issue_slots]

theorem readConsumed_slots (d : Device) : (readConsumed d).slots = d.slots := by
  unfold readConsumed issueRead
  split
  · rfl
  · rw [issue_slots]

theorem readConsumed_adds {q : AccessKind → Bool} (d : Device) (h : q .consumedRead = false) : Adds q d (readConsumed d) := by
  unfold readConsumed
  split
  · exact .of_eq rfl rfl
  · exact issue_adds _ _ _ _ _ _ h

/-- A scan completion: a shadow write is due for each slot that is judged, changes state or has verdicts its latest write did not
show. -/
theorem scanComplete_due (area : List Byte) (n : Fin 8) (d : Device)
    (h : requestSequence area n ≠ d.slots[n].lastSeq ∨ (scanComplete area d).slots[n].state ≠ d.slots[n].state ∨
      d.slots[n].verdicts ≠ d.slots[n].shadowVerdicts) :
    shadowDue d (scanComplete area d) n (.shadow n ∈ (scanComplete area d).dma.owed) := by
  have addJ : ∀ (d : Device) (m : Fin 8), Adds (fun _ => false) d (judgeRequest area d m) :=
    fun d m => judgeRequest_adds area d m (fun _ _ => rfl) rfl
  unfold scanComplete at h ⊢
  dsimp only at h ⊢
  have a1 : Adds (fun _ => false) d (takeSequence area d) := takeSequence_adds area d (fun _ => rfl)
  have s1 : ShadowStep n d (takeSequence area d) :=
    .inl ⟨takeSequence_adds area d (fun _ => by simp [ofChannel]), by rw [takeSequence_slots]⟩
  have a2 := applyWants_adds area (takeSequence area d)
  have s2 := applyWants_shadowStep area n (takeSequence area d)
  generalize takeSequence area d = e1 at *
  generalize applyWants area e1 = e2 at *
  have a12 := a1.trans a2
  have s12 := s1.trans s2 a1 a2
  have a3 := Adds.foldl _ addJ (List.finRange 8) e2
  have s3 := ShadowStep.foldl _ (judgeRequest_shadowStep area n) addJ (List.finRange 8) e2
  have j3 := judgeRequests_due area n e2
  generalize (List.finRange 8).foldl (judgeRequest area) e2 = e3 at *
  have a4 := Adds.foldl _ progressShadow_adds (List.finRange 8) e3
  have s4 := ShadowStep.foldl _ (progressShadow_shadowStep n) progressShadow_adds (List.finRange 8) e3
  have p4 := progressShadows_due n e3
  generalize (List.finRange 8).foldl progressShadow e3 = e4 at *
  have a5 : Adds (fun _ => false) e4 (readConsumed e4) := readConsumed_adds e4 rfl
  have s5 : ShadowStep n e4 (readConsumed e4) := .inl ⟨readConsumed_adds e4 (by simp [ofChannel]), by rw [readConsumed_slots]⟩
  generalize readConsumed e4 = e5 at *
  have s123 := s12.trans s3 a12 a3
  have s1234 := s123.trans s4 (a12.trans a3) a4
  rcases s123 with ⟨_, g2⟩ | g
  · by_cases hv : d.slots[n].verdicts ≠ d.slots[n].shadowVerdicts
    · have due := p4 (by rw [g2]; exact hv)
      exact ShadowStep.after ((s12.trans s3 a12 a3).before due (a12.trans a3) a4) s5 ((a12.trans a3).trans a4) a5
    · rcases s12 with ⟨f1, f2⟩ | f
      · by_cases hq : requestSequence area n ≠ d.slots[n].lastSeq
        · have due := j3 (by rw [f2]; exact hq)
          have first : ShadowStep n d e2 := .inl ⟨f1, f2⟩
          exact ShadowStep.after (ShadowStep.after (first.before due a12 a3) s4 (a12.trans a3) a4) s5
            ((a12.trans a3).trans a4) a5
        · have k := (h.resolve_left hq).resolve_right hv
          rcases s1234.trans s5 ((a12.trans a3).trans a4) a5 with ⟨_, w⟩ | w
          · rw [w] at k; exact absurd rfl k
          · exact w
      · exact ShadowStep.after (ShadowStep.after (ShadowStep.after f s3 a12 a3) s4 (a12.trans a3) a4) s5
          ((a12.trans a3).trans a4) a5
  · exact ShadowStep.after (ShadowStep.after g s4 (a12.trans a3) a4) s5 ((a12.trans a3).trans a4) a5

/-! ### Verdict record writes (R58, R170) -/

/-- What a circuit's entry is after one entry of a status map is replaced by one that is not fresh. -/
theorem setCircuit_entry (n m : Fin 8) (c k : Nat) (e : CircuitEntry) (d : Device) (he : e ≠ CircuitEntry.fresh) :
    circuitEntry (setCircuit d n c e) m k = if m = n ∧ k = c then e else circuitEntry d m k := by
  unfold circuitEntry setCircuit
  rw [Device.setSched_sched_get, if_neg he]
  by_cases hm : m = n
  · subst hm
    rw [if_pos rfl, Sparse.get_put]
    by_cases hk : k = c <;> simp [hk]
  · rw [if_neg (by simpa [eq_comm] using hm), if_neg (fun h => hm h.1)]

/-- A requeue leaves every other circuit's entry, and one not IN_FLIGHT. -/
theorem requeue_entry (n m : Fin 8) (c k : Nat) (d : Device)
    (h : (circuitEntry d m k).status ≠ .inFlight ∨ ¬(m = n ∧ k = c)) :
    circuitEntry (requeue n c d) m k = circuitEntry d m k := by
  unfold requeue
  dsimp only
  split
  · rename_i hs
    rw [setCircuit_entry n m c k _ d (by simp [CircuitEntry.fresh]), if_neg]
    rintro ⟨rfl, rfl⟩
    exact h.elim (· hs) (· ⟨rfl, rfl⟩)
  · rfl

/-- Each probe record is free or as it was, and the admission order has no new record. -/
def Thinned (d e : Device) : Prop :=
  (∀ (q : Fin 16) (p : Probe), e.probes.records[q] = some p → d.probes.records[q] = some p) ∧
  ∀ q ∈ e.probes.order, q ∈ d.probes.order

theorem Thinned.of_eq {d e : Device} (h : e.probes = d.probes) : Thinned d e := by
  constructor <;> rw [h] <;> simp

theorem Thinned.trans {d e f : Device} (g : Thinned d e) (h : Thinned e f) : Thinned d f :=
  ⟨fun q p k => g.1 q p (h.1 q p k), fun q k => g.2 q (h.2 q k)⟩

theorem freeRecord_records (r q : Fin 16) (d : Device) :
    (freeRecord r d).probes.records[q] = if q = r then none else d.probes.records[q] := vec_set_get _ _ _ _

/-- A circuit's entry is read from the status maps alone. -/
theorem circuitEntry_congr {d e : Device} (h : e.sched = d.sched) (n : Fin 8) (c : Nat) :
    circuitEntry e n c = circuitEntry d n c := by unfold circuitEntry; rw [h]

/-- A void frees its record, and leaves the entry of a circuit that is not IN_FLIGHT or that the probe it ends does not have. -/
theorem voidProbe_thins (r : Fin 16) (d : Device) :
    Thinned d (voidProbe r d) ∧ ∀ (n : Fin 8) (c : Nat),
      ((circuitEntry d n c).status ≠ .inFlight ∨ ∀ p, d.probes.records[r] = some p → p.slot = n → p.circuit ≠ c) →
      circuitEntry (voidProbe r d) n c = circuitEntry d n c := by
  unfold voidProbe
  split
  · exact ⟨.of_eq rfl, fun _ _ _ => rfl⟩
  · rename_i p hp
    split
    · exact ⟨.of_eq rfl, fun _ _ _ => rfl⟩
    · have h1 : (releaseOwner p.ctx r (voidTone r p d)).sched = d.sched := by unfold voidTone; split <;> simp
      have h2 : (releaseOwner p.ctx r (voidTone r p d)).probes = d.probes := by unfold voidTone; split <;> simp
      generalize releaseOwner p.ctx r (voidTone r p d) = e at h1 h2
      have h3 : (requeue p.slot p.circuit e).probes = d.probes := by
        rw [← h2]; unfold requeue; dsimp only; split <;> simp
      constructor
      · generalize requeue p.slot p.circuit e = f at h3
        refine ⟨fun q x hx => ?_, fun q hq => ?_⟩
        · rw [freeRecord_records, h3] at hx
          split at hx
          · exact absurd hx (by simp)
          · exact hx
        · rw [← h3]; exact (List.mem_filter.mp hq).1
      · intro n c h
        have k := circuitEntry_congr h1 n c
        refine (circuitEntry_congr (d := requeue p.slot p.circuit e) (by simp) n c).trans ((requeue_entry _ _ _ _ _ ?_).trans k)
        rw [k]
        exact h.imp id (fun g k => g p hp k.1.symm k.2.symm)

theorem voidIf_thins (sel : Probe → Bool) (d : Device) (r : Fin 16) :
    Thinned d (voidIf sel d r) ∧ ∀ (n : Fin 8) (c : Nat),
      ((circuitEntry d n c).status ≠ .inFlight ∨
        ∀ (q : Fin 16) (p : Probe), d.probes.records[q] = some p → sel p = true → p.slot = n → p.circuit ≠ c) →
      circuitEntry (voidIf sel d r) n c = circuitEntry d n c := by
  unfold voidIf
  split
  · rename_i p hp
    split
    · rename_i hs
      exact ⟨(voidProbe_thins r d).1, fun n c h => (voidProbe_thins r d).2 n c (h.imp id (fun g x hx =>
        g r x hx (by rw [hp] at hx; cases hx; exact hs)))⟩
    · exact ⟨.of_eq rfl, fun _ _ _ => rfl⟩
  · exact ⟨.of_eq rfl, fun _ _ _ => rfl⟩

/-- A void of several probes frees records only, and leaves the entry of a circuit that is not IN_FLIGHT or that none of them
has. -/
theorem voidProbes_thins (sel : Probe → Bool) (d : Device) :
    Thinned d (voidProbes sel d) ∧ ∀ (n : Fin 8) (c : Nat),
      ((circuitEntry d n c).status ≠ .inFlight ∨
        ∀ (q : Fin 16) (p : Probe), d.probes.records[q] = some p → sel p = true → p.slot = n → p.circuit ≠ c) →
      circuitEntry (voidProbes sel d) n c = circuitEntry d n c := by
  unfold voidProbes
  have all : ∀ (xs : List (Fin 16)) (d : Device), Thinned d (xs.foldl (voidIf sel) d) ∧ ∀ (n : Fin 8) (c : Nat),
      ((circuitEntry d n c).status ≠ .inFlight ∨
        ∀ (q : Fin 16) (p : Probe), d.probes.records[q] = some p → sel p = true → p.slot = n → p.circuit ≠ c) →
      circuitEntry (xs.foldl (voidIf sel) d) n c = circuitEntry d n c := by
    intro xs
    induction xs with
    | nil => exact fun d => ⟨.of_eq rfl, fun _ _ _ => rfl⟩
    | cons x xs ih =>
      intro d
      obtain ⟨h1, h2⟩ := voidIf_thins sel d x
      obtain ⟨h3, h4⟩ := ih (voidIf sel d x)
      refine ⟨h1.trans h3, fun n c h => (h4 n c ?_).trans (h2 n c h)⟩
      rw [h2 n c h]
      exact h.imp id (fun g q p k => g q p (h1.1 q p k))
  obtain ⟨h1, h2⟩ := all (List.finRange 16) d
  generalize (List.finRange 16).foldl (voidIf sel) d = e at h1 h2
  obtain ⟨l, hx, _⟩ := requestStops_frame (soundingContexts sel d) e
  exact ⟨h1.trans (.of_eq (by rw [hx])), fun n c h => (circuitEntry_congr (by rw [hx]) n c).trans (h2 n c h)⟩

/-- Entry to DRAINING frees records only, and leaves the entry of a circuit that is not IN_FLIGHT or that no probe of the slot
has. -/
theorem drainSlot_thins (n : Fin 8) (r : Reason) (d : Device) :
    Thinned d (drainSlot n r d) ∧ ∀ c : Nat,
      ((circuitEntry d n c).status ≠ .inFlight ∨
        ∀ (q : Fin 16) (p : Probe), d.probes.records[q] = some p → p.slot = n → p.circuit ≠ c) →
      circuitEntry (drainSlot n r d) n c = circuitEntry d n c := by
  unfold drainSlot
  dsimp only
  split
  · split
    · obtain ⟨x, k, b, hx⟩ := owe_shadow_frame n (d.setSlot n { d.slots[n] with reason := r })
      exact ⟨.of_eq (by rw [hx]; rfl), fun c _ => circuitEntry_congr (by rw [hx]; rfl) n c⟩
    · exact ⟨.of_eq rfl, fun _ _ => rfl⟩
  · split
    · obtain ⟨x, k, b, hx⟩ := owe_shadow_frame n (d.setSlot n { d.slots[n] with state := .draining, reason := r })
      have h1 : (owe (.shadow n) (d.setSlot n { d.slots[n] with state := .draining, reason := r })).sched = d.sched := by
        rw [hx]; rfl
      have h2 : (owe (.shadow n) (d.setSlot n { d.slots[n] with state := .draining, reason := r })).probes = d.probes := by
        rw [hx]; rfl
      clear hx
      generalize owe (.shadow n) (d.setSlot n { d.slots[n] with state := .draining, reason := r }) = e at h1 h2
      have h3 : ∀ c, circuitEntry (discardStage n e) n c = circuitEntry d n c := fun c => by
        unfold discardStage circuitEntry
        rw [Device.setSched_sched_get, if_pos rfl, h1]
      obtain ⟨h4, h5⟩ := voidProbes_thins (fun p => p.slot == n) (discardStage n e)
      refine ⟨(Thinned.of_eq h2).trans h4, fun c h => (h5 n c ?_).trans (h3 c)⟩
      rw [h3]
      exact h.imp id (fun g q p k _ => g q p (by rw [← h2]; exact k))
    · exact ⟨.of_eq rfl, fun _ _ => rfl⟩

/-- A drain leaves the slot's counts, the closing it stands at and every other slot. -/
theorem drainSlot_slot (n : Fin 8) (r : Reason) (d : Device) :
    (drainSlot n r d).slots[n].verdicts = d.slots[n].verdicts ∧ (drainSlot n r d).slots[n].summary = d.slots[n].summary ∧
    ∀ k : Fin 8, k ≠ n → (drainSlot n r d).slots[k] = d.slots[k] := by
  obtain ⟨y, p, c, l, t, x, h, _, st, re, k, b, hy⟩ := drainSlot_frame n r d
  rw [h]
  have e : (d.slots.set n y)[n] = y := (vec_set_get _ _ _ _).trans (if_pos rfl)
  refine ⟨by rw [e, hy], by rw [e, hy], fun j hj => (vec_set_get _ _ _ _).trans (if_neg (by simpa [eq_comm] using hj))⟩

/-- The state and reason a drain leaves (R22). -/
theorem drainSlot_state (n : Fin 8) (r : Reason) (d : Device) :
    (d.slots[n].state.drainable = true →
      (drainSlot n r d).slots[n].state = .draining ∧ (drainSlot n r d).slots[n].reason = r) ∧
    (d.slots[n].state = .draining →
      (drainSlot n r d).slots[n].state = .draining ∧
      (replacesReason d.slots[n].reason r = true → (drainSlot n r d).slots[n].reason = r) ∧
      (replacesReason d.slots[n].reason r = false → drainSlot n r d = d)) := by
  unfold drainSlot
  dsimp only
  constructor
  · intro h
    rw [if_neg (by intro k; rw [k] at h; simp [SlotState.drainable] at h), if_pos h, voidProbes_slots]
    obtain ⟨x, k, b, hx⟩ := owe_shadow_frame n (d.setSlot n { d.slots[n] with state := .draining, reason := r })
    rw [hx]
    simp [discardStage, Device.setSlot, Device.setSched]
  · intro h
    rw [if_pos h]
    obtain ⟨x, k, b, hx⟩ := owe_shadow_frame n (d.setSlot n { d.slots[n] with reason := r })
    cases hr : replacesReason d.slots[n].reason r
    · exact ⟨h, fun k => absurd k (by simp), fun _ => rfl⟩
    · have e : (owe (.shadow n) (d.setSlot n { d.slots[n] with reason := r })).slots[n] =
          { d.slots[n] with reason := r, shadowVerdicts := k, announce := b } := by
        rw [hx]; simp [Device.setSlot]
      rw [if_pos rfl, e]
      exact ⟨h, fun _ => rfl, fun k => absurd k (by simp)⟩

/-- Freeing the record a verdict was written for, if one was. -/
theorem freeIfAny_frame (x : Option (Fin 16)) (d : Device) :
    (∃ p, freeIfAny x d = { d with probes := p }) ∧
    (∀ r, x = some r → (freeIfAny x d).probes.records[r] = none ∧ r ∉ (freeIfAny x d).probes.order) ∧
    ∀ q : Fin 16, x ≠ some q → (freeIfAny x d).probes.records[q] = d.probes.records[q] := by
  cases x with
  | none => exact ⟨⟨d.probes, rfl⟩, fun r h => absurd h (by simp), fun q _ => rfl⟩
  | some r =>
    refine ⟨⟨_, rfl⟩, fun q h => ?_, fun q h => ?_⟩
    · cases h
      refine ⟨(vec_set_get _ _ _ _).trans (if_pos rfl), ?_⟩
      simp [freeIfAny, freeRecord]
    · exact (vec_set_get _ _ _ _).trans (if_neg (fun k => h (congrArg some k.symm)))

end Sys2Proof.Machine
end

