-- ==== Sys2Proof/Laws/Looks.lean ====
section
/-! SUPPORT. What the detectors and the arbiter do, one lemma for each operation: a detector takes work (`takeWork_takes`), the
sweep order, the HOLDING detectors served in turn (`serveHolding_next`), and admission that goes on until no circuit is
admissible (`admitAll_admits`, `admitAll_exhausts`). -/

namespace Sys2Proof.Machine

/-! ### The sweep order and the cursor (R91) -/

theorem mem_sweepOrder (table : Vector Tap 32) (p : Fin 32) (x : Fin 96) :
    (p, x) ∈ sweepOrder table ↔ table[p].enabled = true ∧ table[p].first ≤ x ∧ x ≤ table[p].last := by
  unfold sweepOrder
  rw [List.mem_flatMap]
  constructor
  · rintro ⟨q, _, hq⟩
    split at hq
    · rename_i hs
      obtain ⟨y, hy, e⟩ := List.mem_map.mp hq
      cases e
      simp only [Tap.sweepable, Bool.and_eq_true] at hs
      simp only [Tap.range, List.mem_filter, Bool.and_eq_true, decide_eq_true_eq] at hy
      exact ⟨hs.1, hy.2⟩
    · exact absurd hq (by simp)
  · rintro ⟨h1, h2, h3⟩
    refine ⟨p, List.mem_finRange p, ?_⟩
    rw [if_pos (by unfold Tap.sweepable; rw [h1, decide_eq_true (h2.trans h3)]; rfl)]
    exact List.mem_map.mpr ⟨x, List.mem_filter.mpr ⟨List.mem_finRange x, by
      rw [decide_eq_true h2, decide_eq_true h3]; rfl⟩, rfl⟩

theorem sweepOrder_rises (table : Vector Tap 32) :
    (sweepOrder table).Pairwise (fun a b => a.1 < b.1 ∨ (a.1 = b.1 ∧ a.2 < b.2)) := by
  unfold sweepOrder
  rw [List.pairwise_flatMap]
  constructor
  · intro p _
    split
    · rw [List.pairwise_map]
      exact ((List.pairwise_lt_finRange 96).filter _).imp (fun h => .inr ⟨rfl, h⟩)
    · exact .nil
  · refine (List.pairwise_lt_finRange 32).imp (fun h x hx y hy => .inl ?_)
    have one : ∀ (p : Fin 32) z, z ∈ (if table[p].sweepable then table[p].range.map (fun s => (p, s)) else []) → z.1 = p := by
      intro p z hz
      split at hz
      · obtain ⟨_, _, rfl⟩ := List.mem_map.mp hz; rfl
      · exact absurd hz (by simp)
    rw [one _ x hx, one _ y hy]
    exact h

/-- A walk that passes watched positions and comes to one that is free. -/
theorem drawFrom_finds (watched : List (Fin 32 × Fin 96)) (first : Option (Fin 32 × Fin 96)) (next p : Fin 32 × Fin 96)
    (skipped rest : List (Fin 32 × Fin 96)) (hs : ∀ x ∈ skipped, x ∈ watched ∧ first ≠ some x) :
    (first ≠ some p → p ∉ watched → drawFrom watched first next (skipped ++ p :: rest) = some (p, rest.headD next)) ∧
    (first = some p → drawFrom watched first next (skipped ++ p :: rest) = none) := by
  induction skipped with
  | nil =>
    refine ⟨fun h1 h2 => ?_, fun h => ?_⟩
    · rw [List.nil_append, drawFrom, if_neg (fun e => h1 e.symm), if_neg (by simpa using h2)]
    · rw [List.nil_append, drawFrom, if_pos h.symm]
  | cons x xs ih =>
    obtain ⟨h1, h2⟩ := hs x (List.mem_cons_self ..)
    rw [List.cons_append, drawFrom, if_neg (fun e => h2 e.symm), if_pos (by simpa using h1)]
    exact ih (fun y hy => hs y (List.mem_cons_of_mem _ hy))

theorem drawFrom_none (watched : List (Fin 32 × Fin 96)) (first : Option (Fin 32 × Fin 96)) (next : Fin 32 × Fin 96)
    (l : List (Fin 32 × Fin 96)) (hs : ∀ x ∈ l, x ∈ watched ∧ first ≠ some x) : drawFrom watched first next l = none := by
  induction l with
  | nil => rfl
  | cons x xs ih =>
    obtain ⟨h1, h2⟩ := hs x (List.mem_cons_self ..)
    rw [drawFrom, if_neg (fun e => h2 e.symm), if_pos (by simpa using h1)]
    exact ih (fun y hy => hs y (List.mem_cons_of_mem _ hy))

theorem orderFrom_cut (c : Fin 32 × Fin 96) (xs ys : List (Fin 32 × Fin 96)) (h : c ∉ xs) :
    orderFrom (xs ++ c :: ys) c = c :: ys ++ xs := by
  unfold orderFrom
  have all : ∀ x ∈ xs, (x != c) = true := fun x hx => by
    simp only [bne_iff_ne, ne_eq]; rintro rfl; exact h hx
  rw [List.dropWhile_append_of_pos all, List.takeWhile_append_of_pos all]
  simp

/-- A draw as a walk from the cursor round the sweep order. -/
theorem drawSweep_walks {a : TapArray} {table : Vector Tap 32} {c : Fin 32 × Fin 96} {xs ys : List (Fin 32 × Fin 96)}
    (ht : a.table = some table) (hc : a.cursor = some c) (ho : a.sweepOver = false)
    (hx : sweepOrder table = xs ++ c :: ys) (hn : c ∉ xs) :
    drawSweep a = match drawFrom a.watched a.sweepFirst c (c :: ys ++ xs) with
      | none => (none, { a with sweepOver := true })
      | some (p, next) => (some p, { a with cursor := some next, sweepFirst := a.sweepFirst.or (some p) }) := by
  cases a
  cases ht
  cases hc
  cases ho
  rw [← orderFrom_cut c xs ys hn, ← hx]
  rfl

/-! ### Taking work (R90) -/

theorem mayLook_iff (d : Device) : mayLook d = true ↔ canLook d := by
  unfold mayLook canLook
  cases h : d.rounds.phase <;> simp [Config.lookTime]
  exact ⟨fun ⟨⟨a, b⟩, c⟩ => ⟨a, b, of_decide_eq_true c⟩, fun ⟨a, b, c⟩ => ⟨⟨a, b⟩, decide_eq_true c⟩⟩

/-- What a detector does when it may have work. -/
theorem takeWork_takes (d : Device) (i : Fin 4) : takesWork d (takeWork d i) i := by
  unfold takeWork
  refine ⟨fun h => ?_, fun h1 h2 => ?_⟩
  · rw [if_neg (by rw [mayLook_iff]; exact h)]
  · rw [if_pos ⟨h1, (mayLook_iff d).2 h2⟩]
    refine ⟨fun e rest hp => ?_, fun hp => ?_⟩
    · rw [hp]; rfl
    · rw [hp]
      refine ⟨?_, fun table c xs ys ht hc ho hx hn => ?_⟩
      · intro h
        have e : drawSweep d.taps = (none, d.taps) := by
          unfold drawSweep
          split
          · rename_i hc
            rcases h with h | h
            · rw [h] at hc; cases hc
            · rw [if_pos h]
          · rfl
        rw [e]
      · rw [drawSweep_walks ht hc ho hx hn]
        refine ⟨fun skipped p rest e hs => ?_, fun hs => ?_⟩
        · obtain ⟨f1, f2⟩ := drawFrom_finds d.taps.watched d.taps.sweepFirst c p skipped rest hs
          rw [e]
          exact ⟨fun g1 g2 => by rw [f1 g1 g2]; rfl, fun g => by rw [f2 g]⟩
        · rw [drawFrom_none _ _ _ _ (fun x hm => hs x (by
            rw [hx]; simp only [List.mem_append, List.mem_cons] at hm ⊢; tauto))]

/-- A detector that takes work changes the tap array alone, leaves the other detectors and the watched set, and holds nothing. -/
theorem takeWork_taps (d : Device) (i : Fin 4) :
    (takeWork d i) = { d with taps := (takeWork d i).taps } ∧ (takeWork d i).taps.watched = d.taps.watched ∧
    (takeWork d i).taps.table = d.taps.table ∧
    (∀ j : Fin 4, j ≠ i → (takeWork d i).taps.detectors[j] = d.taps.detectors[j]) ∧
    ∀ ys, (takeWork d i).taps.detectors[i] = .holding ys → d.taps.detectors[i] = .holding ys := by
  have draw : (drawSweep d.taps).2.watched = d.taps.watched ∧ (drawSweep d.taps).2.table = d.taps.table ∧
      (drawSweep d.taps).2.detectors = d.taps.detectors := by
    unfold drawSweep; (repeat' split) <;> exact ⟨rfl, rfl, rfl⟩
  have one : ∀ (v : Vector Detector 4) (l : Look), v = d.taps.detectors →
      (∀ j : Fin 4, j ≠ i → (v.set i (.looking l))[j] = d.taps.detectors[j]) ∧
      ∀ ys, (v.set i (.looking l))[i] = .holding ys → d.taps.detectors[i] = .holding ys := by
    rintro v l rfl
    refine ⟨fun j hj => (vec_set_get _ _ _ _).trans (if_neg hj), fun ys h => ?_⟩
    rw [vec_set_get, if_pos rfl] at h
    cases h
  unfold takeWork
  split
  · split
    · exact ⟨rfl, rfl, rfl, one _ _ rfl⟩
    · generalize drawSweep d.taps = y at draw
      obtain ⟨x, a⟩ := y
      obtain ⟨h1, h2, h3⟩ := draw
      cases x with
      | none => exact ⟨rfl, h1, h2, fun j _ => congrArg (fun v : Vector Detector 4 => v[j]) h3,
          fun ys h => (congrArg (fun v : Vector Detector 4 => v[i]) h3).symm.trans h⟩
      | some p => exact ⟨rfl, h1, h2, one _ _ h3⟩
  · exact ⟨rfl, rfl, rfl, fun _ _ => rfl, fun _ h => h⟩

/-- An entry leaves the plan when an IDLE detector that may look takes work. -/
theorem takeWork_plan (d : Device) (i : Fin 4) :
    (takeWork d i).taps.plan = d.taps.plan.drop (if d.taps.detectors[i] = .idle ∧ mayLook d then 1 else 0) := by
  unfold takeWork
  split
  · split
    · rename_i e rest h; rw [h]; rfl
    · rename_i h
      have : (drawSweep d.taps).2.plan = d.taps.plan := by unfold drawSweep; (repeat' split) <;> rfl
      generalize drawSweep d.taps = y at this
      obtain ⟨x, a⟩ := y
      rw [h]; rw [h] at this
      cases x <;> exact this
  · simp

theorem mayLook_takeWork (d : Device) (i : Fin 4) : mayLook (takeWork d i) = mayLook d := by
  unfold mayLook
  rw [show (takeWork d i).rounds = d.rounds by simp, (takeWork_taps d i).2.2.1, show (takeWork d i).now = d.now by simp,
    show (takeWork d i).running = d.running by unfold Device.running; simp]

theorem takeAllWork_spelled (d : Device) : takeAllWork d = takeWork (takeWork (takeWork (takeWork d 0) 1) 2) 3 := by
  unfold takeAllWork
  rw [show List.finRange 4 = [0, 1, 2, 3] from rfl]
  simp only [List.foldl_cons, List.foldl_nil]

/-- As many entries leave the plan as there are IDLE detectors to begin them. -/
theorem takeAllWork_plan (d : Device) (h : mayLook d = true) : (takeAllWork d).taps.plan = d.taps.plan.drop
    ((List.finRange 4).filter (fun j => d.taps.detectors[j] == .idle)).length := by
  rw [takeAllWork_spelled, takeWork_plan, takeWork_plan, takeWork_plan, takeWork_plan]
  simp only [mayLook_takeWork, h, and_true]
  rw [(takeWork_taps _ 2).2.2.2.1 3 (by decide), (takeWork_taps _ 1).2.2.2.1 3 (by decide),
    (takeWork_taps _ 0).2.2.2.1 3 (by decide), (takeWork_taps _ 1).2.2.2.1 2 (by decide),
    (takeWork_taps _ 0).2.2.2.1 2 (by decide), (takeWork_taps _ 0).2.2.2.1 1 (by decide)]
  rw [List.drop_drop, List.drop_drop, List.drop_drop, show List.finRange 4 = [0, 1, 2, 3] from rfl]
  congr 1
  simp only [List.filter_cons, List.filter_nil, beq_iff_eq]
  generalize d.taps.detectors = v
  by_cases h0 : v[(0 : Fin 4)] = .idle <;> by_cases h1 : v[(1 : Fin 4)] = .idle <;>
    by_cases h2 : v[(2 : Fin 4)] = .idle <;> by_cases h3 : v[(3 : Fin 4)] = .idle <;> simp only [h0, h1, h2, h3, if_true, if_false] <;> rfl

/-- The plan a list of watches makes, in list order, of those on enabled taps (R87, R89). -/
theorem foldl_planWatch (ws : List Watch) (d : Device) :
    ws.foldl planWatch d = { d with taps := { d.taps with
      plan := (ws.filter (fun w => tapEnabled d w.port)).foldl addWatch d.taps.plan
      watched := (ws.foldl planWatch d).taps.watched } } := by
  induction ws generalizing d with
  | nil => rfl
  | cons w ws ih =>
    rw [List.foldl_cons, ih]
    have : ∀ p, tapEnabled (planWatch d w) p = tapEnabled d p := fun p => rfl
    simp only [this, List.filter_cons]
    unfold planWatch
    dsimp only
    cases tapEnabled d w.port <;> rfl

/-! ### HOLDING detectors (R94) -/

/-- A detector that is not HOLDING has nothing to serve. -/
theorem serveDetector_idle (d : Device) (i : Fin 4) (h : ∀ ys, d.taps.detectors[i] ≠ .holding ys) : serveDetector d i = d := by
  unfold serveDetector
  split
  · rename_i ys hy; exact absurd hy (h ys)
  · rfl

/-- The device when a detector's held sightings have all entered the share and it may take work (R94). -/
abbrev emptied (d : Device) (i : Fin 4) (xs : List Sighting) : Device := { d with
  classifier := { d.classifier with queue := d.classifier.queue ++ xs.map (fun x => ⟨x, none, none⟩) }
  taps := { d.taps with detectors := d.taps.detectors.set i .idle } }

theorem serveDetector_empties (d : Device) (i : Fin 4) (xs : List Sighting) (h : d.taps.detectors[i] = .holding xs)
    (hr : xs.length ≤ localRoom d) : serveDetector d i = takeWork (emptied d i xs) i := by
  unfold serveDetector
  rw [h]
  dsimp only
  rw [if_pos hr, List.take_of_length_le hr]
  rfl

theorem serveInTurn_idle (d : Device) (i : Fin 4) (h : ∀ ys, d.taps.detectors[i] ≠ .holding ys) : serveInTurn d i = d := by
  unfold serveInTurn
  rw [serveDetector_idle d i h]
  exact ite_self d

theorem serveHolding_spelled (d : Device) :
    serveHolding d = serveInTurn (serveInTurn (serveInTurn (serveInTurn d 0) 1) 2) 3 := by
  unfold serveHolding
  rw [show List.finRange 4 = [0, 1, 2, 3] from rfl]
  simp only [List.foldl_cons, List.foldl_nil]

theorem lowestHolding_of (d : Device) (i : Fin 4) (h : ∀ (j : Fin 4) ys, j < i → d.taps.detectors[j] ≠ .holding ys) :
    lowestHolding d i = true := by
  unfold lowestHolding
  rw [List.all_eq_true]
  intro j _
  by_cases hj : i ≤ j
  · rw [decide_eq_true hj]; rfl
  · rw [decide_eq_false hj, Bool.false_or]
    cases e : d.taps.detectors[j] <;> first | rfl | exact absurd e (h j _ (by omega))

/-- The lowest HOLDING detector, once it holds none and has taken work, leaves the room that remains to the next one (R94). -/
theorem serveHolding_next (d : Device) (i : Fin 4) (xs : List Sighting) (h : d.taps.detectors[i] = .holding xs)
    (hl : ∀ (j : Fin 4) ys, j < i → d.taps.detectors[j] ≠ .holding ys) (hr : xs.length ≤ localRoom d) :
    serveHolding d = serveHolding (takeWork (emptied d i xs) i) := by
  have turn : serveInTurn d i = takeWork (emptied d i xs) i := by
    unfold serveInTurn
    rw [if_pos (lowestHolding_of d i hl), serveDetector_empties d i xs h hr]
  obtain ⟨_, _, _, hj, hi⟩ := takeWork_taps (emptied d i xs) i
  have self : ∀ j : Fin 4, j ≤ i → ∀ ys, (takeWork (emptied d i xs) i).taps.detectors[j] ≠ .holding ys := by
    intro j hji ys
    by_cases e : j = i
    · subst e
      intro k
      have := hi ys k
      rw [vec_set_get, if_pos rfl] at this
      cases this
    · rw [hj j e, vec_set_get, if_neg e]
      exact hl j ys (by omega)
  generalize takeWork (emptied d i xs) i = e at turn self
  rw [serveHolding_spelled, serveHolding_spelled]
  have below : ∀ j : Fin 4, j < i → serveInTurn d j = d := fun j hji => serveInTurn_idle d j (fun ys => hl j ys hji)
  have upto : ∀ j : Fin 4, j ≤ i → serveInTurn e j = e := fun j hji => serveInTurn_idle e j (self j hji)
  have four : i = 0 ∨ i = 1 ∨ i = 2 ∨ i = 3 := by omega
  clear hj hi self h hl hr
  rcases four with rfl | rfl | rfl | rfl
  · rw [turn, upto 0 (by decide)]
  · rw [below 0 (by decide), turn, upto 0 (by decide), upto 1 (by decide)]
  · rw [below 0 (by decide), below 1 (by decide), turn, upto 0 (by decide), upto 1 (by decide), upto 2 (by decide)]
  · rw [below 0 (by decide), below 1 (by decide), below 2 (by decide), turn, upto 0 (by decide), upto 1 (by decide),
      upto 2 (by decide), upto 3 (by decide)]

/-! ### Admission (R65) -/

theorem admitSteps_of_none (k : Nat) (d : Device) (h : admitOne d = none) : admitSteps k d = d := by
  cases k with
  | zero => rfl
  | succ k => rw [admitSteps, h]

/-- An admission takes a context that was IDLE (R64). -/
theorem admitOne_busy (d e : Device) (h : admitOne d = some e) :
    busyContexts e = busyContexts d + 1 ∧ busyContexts d < 8 := by
  unfold admitOne at h
  split at h
  · rename_i res x hr hx
    cases h
    unfold resources? at hr
    split at hr
    · rename_i hc
      split at hr
      · rename_i r c t h1 h2 h3
        cases hr
        rw [Bool.and_eq_true, decide_eq_true_eq] at hc
        refine ⟨?_, Nat.lt_of_le_of_lt (Nat.le_add_left ..) hc.2⟩
        have free := List.find?_some h2
        have idle : d.launch.contexts[c].state = .idle := by
          simp only [Context.free, Bool.and_eq_true, beq_iff_eq] at free; exact free.1
        have e : (admitProbe d x ⟨r, c, t⟩).launch.contexts =
            d.launch.contexts.set c ⟨.arming, some r, x.record.point, t, none⟩ := by
          simp [admitProbe, issueCommand, Device.setContext, Device.setPlace, Device.setTone, Device.setRecord]
        unfold busyContexts
        rw [e, Vector.toList_set, List.countP_set (by simp), Vector.getElem_toList]
        have k : d.launch.contexts[(c : Nat)].state = .idle := idle
        simp [k]
      · cases hr
    · cases hr
  · cases h

/-- Eight decisions exhaust the arbiter. -/
theorem admitSteps_exhausts (k : Nat) (d : Device) (h : 8 ≤ k + busyContexts d) : admitOne (admitSteps k d) = none := by
  induction k generalizing d with
  | zero =>
    show admitOne d = none
    cases e : admitOne d with
    | none => rfl
    | some f => have := (admitOne_busy d f e).2; omega
  | succ k ih =>
    cases e : admitOne d with
    | none => rw [admitSteps_of_none _ d e]; exact e
    | some f =>
      have := (admitOne_busy d f e).1
      rw [admitSteps, e]
      exact ih f (by omega)

theorem admitSteps_more (k j : Nat) (d : Device) (h : 8 ≤ k + busyContexts d) : admitSteps (k + j) d = admitSteps k d := by
  induction k generalizing d with
  | zero => rw [Nat.zero_add, admitSteps_of_none j d (admitSteps_exhausts 0 d h)]; rfl
  | succ k ih =>
    rw [Nat.add_right_comm, admitSteps, admitSteps]
    cases e : admitOne d with
    | none => rfl
    | some f =>
      have := (admitOne_busy d f e).1
      exact ih f (by omega)

theorem admitAll_exhausts (d : Device) : admitOne (admitAll d) = none := admitSteps_exhausts 8 d (by omega)

/-- Admission takes one circuit after another (R65). -/
theorem admitAll_admits (d e : Device) (h : admitOne d = some e) : admitAll d = admitAll e := by
  have k := (admitOne_busy d e h).1
  rw [admitAll, admitSteps, h]
  exact (admitSteps_more 7 1 e (by omega)).symm

end Sys2Proof.Machine
end

