-- ==== Sys2Proof/WellFormed.lean ====
section
/-! DEFINITION. Well-formed commands: the operand values the manual's interfaces can bring. The meanings are total on every
command; an ill-formed one is one no host, framer or detector of the manual sends. -/

namespace Sys2Proof

/-- A read brings exactly the bytes of its extent (R180), or fails. -/
def ReadResult.hasLength (n : Nat) : ReadResult → Bool
  | .failed => true
  | .bytes b => b.length == n

/-- A walk read brings a pointer, a slot table entry, or a circuit record through hop entry h (R122, R125). -/
def ReadResult.isWalkRead : ReadResult → Bool
  | .failed => true
  | .bytes b => b.length == 4 || b.length == 8 ||
      (b.length % 16 == 0 && decide (32 ≤ b.length) && decide (b.length ≤ 272))

/-- A BAR write of a full aligned word to a register that has a command of its own in the table (R1). -/
def ownCommand (offset size : Nat) : Bool :=
  size == 4 && (offset == 0x004 || offset == 0x00C || offset == 0x018 || offset == 0x01C || offset == 0x020)

/-- The front end finds a tone at most once in a look (R92). -/
def distinctTones (found : List FoundTone) : Bool := decide (found.map (·.tone)).Nodup

/-- A frame of an unknown kind, or one too short to have a header (R181). -/
def unknownFrame : List Byte → Bool
  | kind :: _ :: _ :: _ => kind.toNat == 0 || decide (4 < kind.toNat)
  | _ => true

/-- The operands of a command are ones its interface can bring. -/
def Instr.wellFormed : Instr → Bool
  | .coldReset => true
  | .runSet => true
  | .runClear => true
  | .boardReset _ => true
  | .nudge _ => true
  | .windowSizeWrite _ => true
  | .irqCauseWrite _ => true
  | .irqMaskWrite _ => true
  | .registerWrite offset size _ => decide (1 ≤ size) && decide (size ≤ 4) && !ownCommand offset.toNat size
  | .startHeaderReadDone _ r => r.hasLength 256
  | .startRequestReadDone _ r => r.hasLength 112
  | .startHeaderWriteDone _ _ => true
  | .startShadowWriteDone _ _ => true
  | .scanTimerExpiry => true
  | .scanReadDone _ r => r.hasLength 112
  | .descriptorReadDone _ r => r.hasLength 32
  | .shadowWriteDone _ _ => true
  | .notRunWriteDone _ _ => true
  | .summaryWriteDone _ _ => true
  | .windowStatusWriteDone _ _ => true
  | .markCounterWriteDone _ _ => true
  | .linkCounterWriteDone _ _ => true
  | .sightingCounterWriteDone _ _ => true
  | .settingsReadDone _ r => r.hasLength 1024
  | .settingsAckWriteDone _ _ => true
  | .peerStatusWriteDone _ _ => true
  | .journalEntryWriteDone _ _ => true
  | .producedCountWriteDone _ _ => true
  | .consumedReadDone _ r => r.hasLength 4
  | .circuitFetchDone _ r => r.hasLength 272
  | .verdictWriteDone _ _ => true
  | .commandSent => true
  | .ackOn _ => true
  | .ackOff _ => true
  | .nack _ => true
  | .modulatorFault _ => true
  | .replyTimerExpiry _ => true
  | .roundStart => true
  | .watchIssue => true
  | .lookOpen => true
  | .lookEnd _ found => distinctTones found
  | .lookDeadline => true
  | .roundMarkReceived _ _ _ _ => true
  | .watchListReceived _ _ _ _ => true
  | .sightingReceived _ _ _ => true
  | .helloReceived _ _ _ => true
  | .unknownFrameReceived frame => unknownFrame frame
  | .framerReady => true
  | .leadLostTimerExpiry => true
  | .classifySighting => true
  | .walkReadDone _ r => r.isWalkRead
  | .sweepStep _ => true

end Sys2Proof
end

