-- ==== Sys2Proof/Tests/Slice0.lean ====
section
/-! SUPPORT. Tests by evaluation: ill-formed commands refused by each check of WellFormed, worked numbers of the manual, and for
each statement with hypotheses a concrete state that meets them, clause by clause and at the edges of their ranges. -/

namespace Sys2Proof.Tests

open Sys2Proof Sys2Proof.Machine

/-! ### Ill-formed commands, one for each check -/

theorem test_refuses_narrow_zero : Instr.wellFormed (.registerWrite 0x010#12 0 1#32) = false := by decide
theorem test_refuses_wide : Instr.wellFormed (.registerWrite 0x010#12 5 1#32) = false := by decide
theorem test_refuses_own_command : Instr.wellFormed (.registerWrite 0x00C#12 4 1#32) = false := by decide
theorem test_takes_narrow_control : Instr.wellFormed (.registerWrite 0x004#12 2 1#32) = true := by decide
theorem test_refuses_short_header : Instr.wellFormed (.startHeaderReadDone 0 (.bytes (List.replicate 255 0#8))) = false := by
  decide +kernel
theorem test_refuses_short_area : Instr.wellFormed (.startRequestReadDone 0 (.bytes [0#8])) = false := by decide
theorem test_refuses_short_scan : Instr.wellFormed (.scanReadDone 0 (.bytes [0#8])) = false := by decide
theorem test_refuses_short_descriptor : Instr.wellFormed (.descriptorReadDone 0 (.bytes [0#8])) = false := by decide
theorem test_refuses_short_settings : Instr.wellFormed (.settingsReadDone 0 (.bytes [0#8])) = false := by decide
theorem test_refuses_long_count : Instr.wellFormed (.consumedReadDone 0 (.bytes (List.replicate 5 0#8))) = false := by decide
theorem test_refuses_short_circuit : Instr.wellFormed (.circuitFetchDone 0 (.bytes [0#8])) = false := by decide
theorem test_refuses_odd_walk_read : Instr.wellFormed (.walkReadDone 0 (.bytes (List.replicate 16 0#8))) = false := by decide
theorem test_takes_walk_record : Instr.wellFormed (.walkReadDone 0 (.bytes (List.replicate 32 0#8))) = true := by
  decide +kernel
theorem test_refuses_tone_twice : Instr.wellFormed (.lookEnd 0 [⟨6, 500#10⟩, ⟨6, 400#10⟩]) = false := by decide
theorem test_refuses_known_kind : Instr.wellFormed (.unknownFrameReceived [4#8, 1#8, 2#8]) = false := by decide
theorem test_takes_unknown_kind : Instr.wellFormed (.unknownFrameReceived [5#8, 1#8, 2#8]) = true := by decide

/-! ### Worked numbers of the manual -/

/-- 3.6: a period of 255 ms and a guard of 200 ms give 250 ms and 120 ms. -/
theorem test_period_and_guard : derivePeriod 255 = 250 ∧ deriveGuard 250 200 = 120 := by decide

/-- 7.9: location (3, 9, 17) has index 55. -/
theorem test_ltb_index : ltbIndex ⟨3, 9, 17⟩ = 55 := by decide

/-- 9.4: the four means of R157. -/
theorem test_rounded_means : roundedMean 85 2 = 42 ∧ roundedMean (-353) 2 = -177 ∧ roundedMean (-527) 3 = -176 ∧
    roundedMean (-871) 3 = -290 := by decide

/-- R163: margins −1, 0, 9, 10, 139 and 140 fall into bins 0, 1, 1, 2, 14 and 15. -/
theorem test_margin_bins : [(-1 : Int), 0, 9, 10, 139, 140].map marginBin = [0, 1, 1, 2, 14, 15] := by decide

/-- R101: targets are cut in node order once 128 credits are given. -/
theorem test_targets : trimTargets 128 [32, 32, 32, 16, 32, 8] = [32, 32, 32, 16, 16, 0] := by decide

/-- R102: the smallest multiple of 4 not less than a number. -/
theorem test_ceil_four : [0, 1, 4, 5].map ceilFour = [0, 4, 4, 8] := by decide

/-- R1: ID reads 0x04800100, byte by byte from the lowest offset. -/
theorem test_id_bytes : barRead Device.cold 0 4 = [0x00#8, 0x01#8, 0x80#8, 0x04#8] := by decide

/-- R2: WINDOW_SIZE stores multiples of 4 KiB from 64 KiB to 256 MiB. -/
theorem test_window_sizes : [0#32, 0x10FFF#32, 0x12345#32, 0xFFFFFFFF#32].map storedSize =
    [0x10000#32, 0x10000#32, 0x12000#32, 0x10000000#32] := by decide

/-- R83: the factory offset never makes 0 or 1023 of another code, nor changes those two. -/
theorem test_levels : correctedLevel 0x3F#6 0 = 0 ∧ correctedLevel 0x3F#6 1023 = 1023 ∧ correctedLevel 0x20#6 5 = 1 ∧
    correctedLevel 0x1F#6 1000 = 1022 ∧ correctedLevel 0x3F#6 700 = 699 := by decide

/-- R92: eight tones of highest raw code, the lower tone first among equals. -/
theorem test_reported_tones : reportedTones [⟨3, 10#10⟩, ⟨1, 20#10⟩, ⟨2, 20#10⟩] = [(20, 1), (20, 2), (10, 3)] := by decide

/-- R177: writing a 1 clears the cause and leaves the others. -/
theorem test_cause_clear :
    (writeIrqCause 0b00101#32 { Device.cold with regs := { Regs.cold with irqCause := 0b10111#5 } }).regs.irqCause =
      0b10010#5 := by decide

/-! ### Small states -/

/-- A RUNNING lead of node 1 with a window of 1 MiB at 0x1000 and no campaign. -/
def lead : Device := { Device.cold with
  regs := { Regs.cold with run := true, baseLo := 0x1000#32, windowSize := 0x100000#32 }
  iface := { BoardInterface.cold with
    state := .running, fresh := false, mode := some .lead, bounds := some ⟨0x1000, 0x100000⟩, scanTimer := some 100 }
  identity := some ⟨.lead, 1, none, 0x2000, 64⟩
  journal := { Journal.cold with ring := some ⟨0x2000, 64⟩, usable := true } }

/-- A RUNNING follower of node 2 whose lead is node 1. -/
def follower : Device := { lead with
  iface := { lead.iface with mode := some .follow }
  identity := some ⟨.follow, 2, some 1, 0x2000, 64⟩ }

/-- A STOPPED device with a start in progress at a step. -/
def starting (step : StartStep) : Device := { lead with
  iface := { lead.iface with state := .stopped, start := some ⟨step, [], []⟩ } }

/-- A state with a device. -/
def on (d : Device) : State := { State.reset with dev := d }

/-- An access in flight with tag 7 at an address of the window. -/
def access (k : AccessKind) : Access := ⟨7, k, 0x1100, 16, [], false, false⟩

/-- A device with that access in flight. -/
def awaiting (k : AccessKind) (d : Device) : Device := { d with dma := { d.dma with inFlight := [access k], nextTag := 8 } }

/-- A slot in a state and for a reason. -/
def slot (st : SlotState) (r : Reason) : Slot := { Slot.cold with state := st, reason := r, generation := 5#16 }

/-- A header of a LEAD board, node 1, with a ring of 64 entries at 0x2000. -/
def header : List Byte :=
  [0#8, 0#8, 0#8, 0#8, 1#8, 1#8, 0#8, 0#8, 0x00#8, 0x20#8, 0#8, 0#8, 0#8, 0#8, 0#8, 0#8, 64#8]

/-- A mark body: round 9, period 100 ms, guard 10 ms. -/
def mark : List Byte := [9#8, 0#8, 0#8, 0#8, 100#8, 0#8, 10#8, 0#8] ++ List.replicate 32 0#8

/-- A WATCH_LIST body of round 9 with one entry. -/
def watchList : List Byte := [9#8, 0#8, 0#8, 0#8, 1#8, 31#8, 95#8, 47#8]

/-- A SIGHTING body of round 0 with level 1023 and backlog 31. -/
def sightingBody : List Byte := [0#8, 0#8, 0#8, 0#8, 31#8, 95#8, 47#8, 1#8, 0xFF#8, 3#8, 250#8, 0#8, 31#8]

/-- A circuit of one THROUGH hop at (1, 2, 3). -/
def circuit : Circuit := ⟨1#32, 4#8, 1, 1, 10, [⟨⟨1, 2, 3⟩, .through, true, -100, 10, 10, 50, 50⟩], 4⟩

/-- A probe of slot 0 in a state. -/
def probe (st : ProbeState) : Probe :=
  ⟨st, 0, 5#16, 0, circuit, 6, 0, 0, [Accumulator.empty], some 3#32, some 4#32, 2, none, none, none, none, true⟩

/-- Record 0 holds that probe, its context in a state with the reply timer running, and its tone. -/
def probing (st : ProbeState) (c : ContextState) (d : Device) : Device :=
  (((d.setSlot 0 (slot .running .none)).setRecord 0 (some (probe st))).setContext 0 ⟨c, some 0, 4#8, 6, some 5⟩).setTone 6
    (.held 0)

/-- A peer's sighting of tone 6 at (2, 2, 3), stamped with a round. -/
def seen (round : Round) : Sighting := ⟨some 2, round, ⟨2, 2, 3⟩, 6, some 700, 0, true, true⟩

/-- A RUNNING lead in round 4 with that sighting queued. -/
def queued (round : Round) (d : Device) : Device :=
  { d.setQueue [⟨seen round, none, none⟩] with rounds := { d.rounds with number := 4#32 } }

/-- Slot 0's campaign reaches every node and has its directory at an address. -/
def reaching (base : Nat) (d : Device) : Device :=
  d.setSlot 0 { d.slots[(0 : Fin 8)] with desc := { Descriptor.cleared with reach := 0xFFFF#16, directoryBase := base } }

/-- A walk of area 0 in a state. -/
def walking (st : WalkState) : Walk := ⟨st, 0, 5#16, ⟨3, 9, 17⟩, 0, 0, 1, 2⟩

/-- Walk record 0 holds that walk and its read is in flight. -/
def walked (st : WalkState) : Device :=
  (awaiting (.walkRead 0) (lead.setSlot 0 { slot .running .none with
    desc := { Descriptor.cleared with count := 2, directoryBase := 0x3000 } })).setWalk 0 (some (walking st))

/-! ### Witnesses -/

theorem witness_StepAlwaysAnswers : State.reset.pending = [] := rfl

theorem witness_SettleFrame : calm Device.cold ∧ Device.cold.dma.refused = [] ∧
    (settleOnce Device.cold).dma.refused = [] := by decide +kernel

theorem witness_BoardReset : Device.cold.launch.sending.isSome = true := rfl

/-- The registers of a start that passes step 1, at the smallest window. -/
def ready : Device := { Device.cold with regs := { Regs.cold with baseLo := 0x1000#32, windowSize := 0x10000#32 } }

theorem witness_RunSet : ready.iface.start = none ∧ ready.iface.state = .detached ∧ windowRegistersOk ready.regs = true ∧
    0x10000 ≤ ready.regs.windowSize.toNat ∧ windowRegistersOk Device.cold.regs = false ∧
    (starting .headerRead).iface.start.isSome = true ∧ lead.iface.state = .running := by decide

theorem witness_RunClear : lead.iface.start = none ∧ lead.iface.state = .running ∧
    (starting .headerRead).iface.start.isSome = true ∧ Device.cold.iface.start = none ∧
    Device.cold.iface.state ≠ .running := by decide

theorem witness_Nudge : lead.iface.state = .running ∧ lead.iface.start = none ∧ live lead isScanRead = false ∧
    inWindow lead.iface.bounds (boardAddr lead 0x100) 112 = true ∧ live (awaiting .scanRead lead) isScanRead = true ∧
    inWindow none 0x100 112 = false ∧ Device.cold.iface.state ≠ .running := by decide

theorem witness_StartHeaderReadDone :
    awaited (awaiting .startHeaderRead (starting .headerRead)) (access .startHeaderRead) isStartHeaderRead ∧
    (starting .headerRead).iface.state = .stopped ∧
    inWindow lead.iface.bounds (boardAddr lead 0x100) 112 = true ∧
    (identity? header).map (journalOk lead.iface.bounds) = some true ∧ identity? [] = none ∧
    (identity? header).map (journalOk (some ⟨0x1000, 0x1100⟩)) = some false := by decide

theorem witness_StartRequestReadDone :
    awaited (awaiting .startRequestRead (starting .requestRead)) (access .startRequestRead) isStartRequestRead ∧
    (starting .requestRead).iface.start = some ⟨.requestRead, [], []⟩ ∧
    (starting .requestRead).iface.state = .stopped ∧ inWindow lead.iface.bounds (boardAddr lead 0) 76 = true ∧
    (starting .requestRead).iface.fresh = false ∧ Device.cold.iface.fresh = true := by decide

/-- A device whose header has been read, with a step's write in flight. -/
def written (step : StartStep) (k : AccessKind) (fresh : Bool) : Device :=
  awaiting k { lead with
    iface := { lead.iface with state := .stopped, fresh := fresh, start := some ⟨step, header, []⟩ } }

theorem witness_StartCompletes :
    (written .headerWrite .startHeaderWrite false).iface.start = some ⟨.headerWrite, header, []⟩ ∧
    (identity? header).isSome = true ∧
    awaited (written .headerWrite .startHeaderWrite false) (access .startHeaderWrite) isStartHeaderWrite ∧
    (written .headerWrite .startHeaderWrite false).iface.fresh = false ∧
    awaited (written .shadowWrites (.startShadowWrite 7) true) (access (.startShadowWrite 7)) isStartShadow ∧
    live (dropAccess (written .shadowWrites (.startShadowWrite 7) true) 7) isStartShadow = false := by decide

theorem witness_FreshStartWritesShadows :
    awaited (written .headerWrite .startHeaderWrite true) (access .startHeaderWrite) isStartHeaderWrite ∧
    (written .headerWrite .startHeaderWrite true).iface.fresh = true ∧
    (written .headerWrite .startHeaderWrite true).iface.state = .stopped ∧
    ∀ n : Fin 8, inWindow lead.iface.bounds (boardAddr lead (0x620 + 0x100 * n.val)) 16 = true := by decide

theorem witness_ScanTimerExpiry : lead.iface.scanTimer = some 100 ∧ lead.iface.state = .running ∧
    inWindow lead.iface.bounds (boardAddr lead 0x100) 112 = true ∧ live lead isScanRead = false ∧
    live (awaiting .scanRead lead) isScanRead = true := by decide

theorem witness_ScanReadDone : awaited (awaiting .scanRead lead) (access .scanRead) isScanRead := by decide

/-- A request area whose slot 0 word has sequence 1 and a kind. -/
def request (kind : Byte) : List Byte := List.replicate 0x50 0#8 ++ [1#8, 0#8, kind]

theorem witness_RequestsJudged : canAccess lead = true ∧ requestSequence [] 0 = lead.slots[(0 : Fin 8)].lastSeq ∧
    requestSequence (request 1#8) 0 ≠ lead.slots[(0 : Fin 8)].lastSeq ∧ requestKind (request 1#8) 0 = .submit ∧
    requestKind (request 2#8) 0 = .abort ∧ requestKind (request 3#8) 0 = .release ∧
    requestTaken .free (requestKind (request 4#8) 0) = false := by decide +kernel

/-- A descriptor of one circuit at 0x3000, bound to a window id, without a directory. -/
def descriptor (window : Byte) : List Byte :=
  [0x00#8, 0x30#8, 0#8, 0#8, 0#8, 0#8, 0#8, 0#8, 0#8, 0#8, 0#8, 0#8, 0#8, 0#8, 0#8, 0#8,
   0x00#8, 0x40#8, 0#8, 0#8, 0#8, 0#8, 0#8, 0#8, 1#8, 0#8, window, 0#8, 0xFF#8, 0xFF#8, 4#8, 0#8]

theorem witness_DescriptorReadDone :
    awaited (awaiting (.descriptorRead 0) (lead.setSlot 0 (slot .validating .none))) (access (.descriptorRead 0))
      isDescriptorRead ∧
    (awaiting (.descriptorRead 0) (lead.setSlot 0 (slot .validating .none))).slots[(0 : Fin 8)].state = .validating ∧
    descriptorFault lead.iface.bounds (descriptorOf (descriptor 7#8)) = none ∧
    descriptorFault lead.iface.bounds (descriptorOf (descriptor 3#8)) = none ∧
    descriptorFault lead.iface.bounds (descriptorOf (descriptor 4#8)) = some .badWindow ∧
    follower.following = true ∧ lead.leading = true := by decide

theorem witness_ShadowWriteDone :
    awaited (awaiting (.channelWrite (.shadow 0) true false) lead) (access (.channelWrite (.shadow 0) true false))
      isShadowWrite := by decide

theorem witness_NotRunWriteDone :
    awaited (awaiting (.notRunWrite 0 0) lead) (access (.notRunWrite 0 0)) isNotRunWrite := by decide

theorem witness_SummaryWriteDone :
    awaited (awaiting (.summaryWrite 7) lead) (access (.summaryWrite 7)) isSummaryWrite ∧
    lead.iface.state = .running ∧ inWindow lead.iface.bounds (boardAddr lead (0x620 + 0x100 * 7)) 16 = true ∧
    live (dropAccess (awaiting (.summaryWrite 7) lead) 7) (ofChannel (.shadow 7)) = false := by decide

theorem witness_CoalescedWritesComplete :
    (∀ x ∈ coalescedWrites.zip [Channel.window 3, .markCounters, .linkCounters, .sightingCounters, .acknowledgment,
      .peer 15, .produced],
      awaited (awaiting (.channelWrite x.2 false false) lead) (access (.channelWrite x.2 false false)) x.1.2) ∧
    lead.iface.state ≠ .faulted ∧ canAccess lead = true ∧
    inWindow lead.iface.bounds (channelExtent .markCounters lead).1 (channelExtent .markCounters lead).2.length =
      true := by decide

theorem witness_FailedCompletions :
    (∀ x ∈ deviceFailures.zip [AccessKind.startHeaderRead, .startRequestRead, .startHeaderWrite, .startShadowWrite 0,
      .scanRead, .summaryWrite 0, .settingsRead 0#16, .journalWrite, .consumedRead],
      awaited (awaiting x.2 lead) (access x.2) x.1.2.1) ∧
    awaited (awaiting (.channelWrite (.shadow 0) false true) lead) (access (.channelWrite (.shadow 0) false true))
      isShadowWrite ∧
    awaited (awaiting (.descriptorRead 7) lead) (access (.descriptorRead 7)) isDescriptorRead ∧
    awaited (awaiting (.circuitFetch 0 1 0) (probing .armed .on lead)) (access (.circuitFetch 0 1 0)) isCircuitFetch ∧
    (probing .armed .on lead).slots[(0 : Fin 8)].state = .running ∧
    awaited (awaiting (.notRunWrite 0 0) (lead.setSlot 0 (slot .draining .aborted))) (access (.notRunWrite 0 0))
      isNotRunWrite ∧
    (lead.setSlot 0 (slot .draining .aborted)).slots[(0 : Fin 8)].state = .draining ∧
    (lead.setSlot 0 (slot .draining .aborted)).slots[(0 : Fin 8)].reason = .aborted ∧ awaited (walked .node) (access (.walkRead 0)) isWalkRead ∧
    (walked .node).walks[(0 : Fin 4)] = some (walking .node) ∧
    (walked .node).slots[(0 : Fin 8)].state = .running := by decide

theorem witness_DrainingEntry :
    (lead.setSlot 0 (slot .suspended .none)).slots[(0 : Fin 8)].state = .suspended ∧
    (lead.setSlot 0 (slot .draining .aborted)).slots[(0 : Fin 8)].state = .draining := by decide

theorem witness_SettingsReadDone :
    awaited (awaiting (.settingsRead 3#16) lead) (access (.settingsRead 3#16)) isSettingsRead ∧
    lead.rounds.awaitFirst = false := by decide

/-- A ring of 64 entries whose fill is given. -/
def filled (n : Word) : Device := { lead with journal := { lead.journal with produced := n } }

theorem witness_JournalEntryWriteDone :
    awaited (awaiting .journalWrite (filled 31#32)) (access .journalWrite) isJournalWrite ∧
    (filled 31#32).journal.ring = some ⟨0x2000, 64⟩ ∧ 2 * (filled 31#32).journal.fill < 64 ∧
    64 ≤ 2 * (32#32 - 0#32 : Word).toNat := by decide

theorem witness_ConsumedReadDone :
    awaited (awaiting .consumedRead lead) (access .consumedRead) isConsumedRead := by decide

theorem witness_FullRingWritesNothing : (filled 64#32).journal.ring = some ⟨0x2000, 64⟩ ∧
    64 ≤ (filled 64#32).journal.fill ∧ canAccess (filled 64#32) = true ∧ live (filled 64#32) isJournalWrite = false := by
  decide

/-- A circuit record of one hop at node 1. -/
def circuitRecord : List Byte := [1#8, 0#8, 0#8, 0#8, 4#8, 1#8, 1#8, 1#8] ++ List.replicate 8 0#8 ++ [1#8, 2#8, 3#8]

theorem witness_CircuitFetchDone :
    awaited (awaiting (.circuitFetch 0 1 0) (reaching 0 lead)) (access (.circuitFetch 0 1 0)) isCircuitFetch ∧
    (awaiting (.circuitFetch 0 1 0) (reaching 0 lead)).slots[(0 : Fin 8)].state ≠ .draining ∧
    (circuit? (reaching 0 lead).slots[(0 : Fin 8)].desc.reach 4 circuitRecord).isSome = true ∧
    circuit? lead.slots[(0 : Fin 8)].desc.reach 4 circuitRecord = none ∧
    (awaiting (.circuitFetch 0 1 0) (lead.setSlot 0 (slot .draining .aborted))).slots[(0 : Fin 8)].state = .draining := by
  decide

/-- A RUNNING campaign of one circuit. -/
def judging : Device := lead.setSlot 0 { slot .running .none with desc := { Descriptor.cleared with count := 1 } }

theorem witness_VerdictWriteDone :
    awaited (awaiting (.verdictWrite 0 5#16 0 (some 15) 10 (some 18)) judging)
      (access (.verdictWrite 0 5#16 0 (some 15) 10 (some 18))) isVerdictWrite ∧
    judging.slots[(0 : Fin 8)].generation = 5#16 ∧ judging.slots[(0 : Fin 8)].state = .running ∧
    judging.slots[(0 : Fin 8)].verdicts + 1 = judging.slots[(0 : Fin 8)].desc.count := by decide

theorem witness_CommandSent : Device.cold.launch.sending = some .stopAll ∧
    awaitsReply (probing .launching .arming lead) 0 (.launch 4#8 6 1 (some 0)) = true ∧
    awaitsReply (probing .launching .arming lead) 1 (.launch 4#8 6 1 (some 0)) = false := by decide

theorem witness_AckOn : contextOf lead 4#8 = none ∧
    contextOf (probing .launching .arming lead) 4#8 = some 0 ∧
    (probing .launching .arming lead).launch.contexts[(0 : Fin 8)].owner = some 0 ∧
    (probing .launching .arming lead).probes.records[(0 : Fin 16)] = some (probe .launching) ∧
    contextOf (lead.setContext 7 ⟨.arming, none, 4#8, 6, none⟩) 4#8 = some 7 := by decide

/-- A lead with point 4 and tone 6 on the stuck list. -/
def stuckAt4 : Device := { lead with launch := { lead.launch with stuck := [⟨4#8, 6⟩] } }

theorem witness_StopReplies : contextOf (probing .grace .stopping lead) 4#8 = some 0 ∧
    contextOf lead 4#8 = none ∧ isStuck lead 4#8 = false ∧ contextOf stuckAt4 4#8 = none ∧
    stuckAt4.launch.stuck.find? (·.point == 4#8) = some ⟨4#8, 6⟩ := by decide

theorem witness_LaunchFaults :
    faultingReply (probing .launching .arming lead) (.nack 4#8) 0 .nack ∧
    faultingReply (probing .launching .arming lead) (.replyTimerExpiry 0) 0 .timeout ∧
    faultingReply (probing .listening .on lead) (.modulatorFault 4#8) 0 .fault ∧
    (probing .listening .on lead).launch.contexts[(0 : Fin 8)].owner = some 0 ∧
    (probing .listening .on lead).probes.records[(0 : Fin 16)] = some (probe .listening) ∧
    verdictWithheld 0 (probing .listening .on lead) = false ∧
    verdictWithheld 0 (lead.setSlot 0 (slot .draining .memoryFault)) = true :=
  ⟨.inl ⟨rfl, by decide, 4#8, rfl, by decide⟩, .inr (.inl ⟨rfl, by decide, by decide, rfl⟩),
    .inr (.inr ⟨rfl, by decide, 4#8, rfl, by decide⟩), by decide, by decide, by decide, by decide⟩

theorem witness_ReplyTimerExpiry : lead.launch.contexts[(0 : Fin 8)].timer = none ∧
    (probing .grace .stopping lead).launch.contexts[(0 : Fin 8)].timer = some 5 ∧
    (probing .grace .stopping lead).launch.contexts[(0 : Fin 8)].state = .stopping := by decide

theorem witness_ProbeAtRoundStart :
    (probing .listening .on lead).probes.records[(0 : Fin 16)] = some (probe .listening) ∧
    (probe .listening).roundsListened < (probe .listening).record.nmaxEff ∧
    verdictWithheld 0 (probing .grace .on lead) = false := by decide

/-- A lead with settings in force and its round scheduled. -/
def scheduled : Device := { lead with rounds := { lead.rounds with
  inForce := some ⟨100, 10, Vector.replicate 32 ⟨false, 0, 0, 0⟩, Vector.replicate 16 ⟨false, 0⟩⟩
  watchAt := some 5, nextAt := some 100, phase := .scheduled 10 100 } }

theorem witness_RoundStart : scheduled.leading = true ∧ scheduled.rounds.nextAt = some 100 ∧
    follower.leading = false := by decide

/-- A lead that has staged settings. -/
def staged : Device := { lead with rounds := { lead.rounds with
  staged := some (3#16, ⟨255, 200, Vector.replicate 32 ⟨true, 300, 0, 99⟩, Vector.replicate 16 ⟨true, 5⟩⟩) } }

theorem witness_StagedSettingsApply : staged.rounds.staged.isSome = true ∧ settled staged = true ∧
    staged.rounds.inForce = none ∧ settled (awaiting (.settingsRead 4#16) staged) = false := by decide

theorem witness_WatchIssue : scheduled.leading = true ∧ scheduled.rounds.watchAt = some 5 ∧
    lead.rounds.watchAt = none := by decide

theorem witness_LookOpenAndDeadline : scheduled.rounds.phase = .scheduled 10 100 ∧ lead.rounds.phase = .closed ∧
    ∀ i : Fin 4, scheduled.taps.detectors[i] = .idle := by decide

/-- A look of a tap slot that ends at 22 ms. -/
def look : Look := ⟨0, 0, some [6], 0#32, 0, 22⟩

theorem witness_LookEnd : (lead.setDetector 3 (.looking look)).taps.detectors[(3 : Fin 4)] = .looking look ∧
    anyHolding (lead.setDetector 3 (.looking look)) = false ∧
    anyHolding ((lead.setDetector 3 (.looking look)).setDetector 0 (.holding [])) = true ∧
    lookSightings lead 0#6 look [] ≠ [] ∧ lead.iface.mode ≠ some .follow ∧ follower.iface.mode = some .follow := by decide

theorem witness_MarkAccepted : follower.following = true ∧ follower.iface.start = none ∧
    follower.identity = some ⟨.follow, 2, some 1, 0x2000, 64⟩ ∧ (markBody? mark).isSome = true ∧
    tooClose (follower.advance 50) = false ∧
    tooClose ({ follower with rounds := { follower.rounds with lastMark := some ⟨0, 100, 10⟩ } }.advance 50) = false := by
  decide

theorem witness_MarkIgnored : lead.iface.state = .running ∧ lead.iface.mode = some .lead ∧
    (markBody? mark).isSome = true ∧ follower.iface.mode = some .follow ∧
    follower.identity.bind (·.leadNode) ≠ some 3 ∧ follower.identity.bind (·.leadNode) = some 1 ∧
    tooClose ({ follower with rounds := { follower.rounds with lastMark := some ⟨0, 100, 10⟩ } }.advance 49) = true := by
  decide

/-- A lead whose peer 2 is configured with a reserve. -/
def withPeer (reserve : Nat) : Device := lead.setPeer 2 { Peer.cold with configured := true, reserve := reserve }

theorem witness_PeerFramesTaken : (withPeer 4).leading = true ∧ (withPeer 4).ownNode = 1 ∧ isPeer (withPeer 4) 2 = true ∧
    (sightingBody? sightingBody).map (fun b => laterThan b.round 0#32) = some false ∧
    inQueue (withPeer 4) 2 < (withPeer 4).lead.peers[(2 : Fin 16)].limit ∧
    (withPeer 0).lead.peers[(2 : Fin 16)].limit ≤ inQueue (withPeer 0) 2 ∧
    (helloBody? [3#8, 1#8, 0#8, 2#8]).isSome = true := by decide

theorem witness_UnknownFrames : ([1#8, 2#8] : List Byte).length < 3 ∧ addressed lead 2#8 = false ∧
    addressed lead 1#8 = true ∧ addressed lead 0xFF#8 = true ∧ lead.iface.state = .running ∧
    4 < (5#8 : Byte).toNat := by decide

/-- A FOLLOWING follower with a sighting held and a grant. -/
def granted (g : Half) : Device := { follower with
  follower := { follower.follower with hold := [seen 0#32], grant := some g } }

theorem witness_FramerReady :
    ({ lead with lead := { lead.lead with transmit := [.watchList 2 1#32 []] } } : Device).leading = true ∧
    (granted 1#16).following = true ∧ (granted 1#16).rounds.leadState = .following ∧
    (granted 1#16).follower.hello = none ∧ (granted 1#16).follower.hold = [seen 0#32] ∧
    1 ≤ (1#16 - (granted 1#16).follower.sent).toNat ∧ (0x7FFF#16 - 0#16 : Half).toNat < 32768 ∧
    32768 ≤ (0x8000#16 - 0#16 : Half).toNat ∧ (0#16 - 0#16 : Half).toNat = 0 ∧
    Device.cold.iface.state ≠ .running := by decide

theorem witness_LeadLost :
    ({ follower with follower := { follower.follower with leadLostAt := some 8000 } } : Device).following = true ∧
    lead.follower.leadLostAt = none := by decide

theorem witness_ClassifySighting : Device.cold.leading = false ∧ (queued 4#32 lead).leading = true ∧
    (queued 4#32 lead).classifier.stalled = false ∧ nextEntry (queued 4#32 lead) = some 0 ∧
    checkEntry (queued 2#32 lead) (seen 2#32) = .stale ∧
    checkEntry (queued 4#32 (lead.setTone 6 (.held 0))) (seen 4#32) = .lateTone ∧
    checkEntry (queued 4#32 lead) (seen 4#32) = .stray ∧
    checkEntry (queued 4#32 lead) { seen 4#32 with level := none } = .silent ∧
    checkEntry (queued 4#32 (probing .evaluating .on lead)) (seen 4#32) = .late (probe .evaluating) ∧
    checkEntry (queued 4#32 (probing .listening .on lead)) (seen 4#32) = .outOfReach (probe .listening) ∧
    checkEntry (queued 4#32 (reaching 0x3000 (probing .listening .on lead))) (seen 4#32) =
      .pass 0 (probe .listening) ∧
    (lead.areas[(0 : Fin 8)]).lookup ⟨2, 2, 3⟩ = none ∧ walkFor lead 0 ⟨2, 2, 3⟩ = none ∧ freeWalk? lead = some 0 := by
  decide

theorem witness_WalkReadDone : awaited (walked .node) (access (.walkRead 0)) isWalkRead ∧
    (walked .node).walks[(0 : Fin 4)] = some (walking .node) ∧ canAccess (walked .node) = true ∧
    mayFill (walked .circuit) (walking .circuit) = true ∧ u64 [] 0 = 0 ∧
    pointerOk (walked .node).iface.bounds (u64 [0x00#8, 0x30#8] 0) 256 = true ∧
    pointerOk (walked .port).iface.bounds (u64 [0x00#8, 0x30#8] 0) 384 = true ∧
    pointerOk (walked .node).iface.bounds (u64 [0x01#8, 0x30#8] 0) 256 = false ∧
    slotEntryCircuit [1#8, 0#8, 2#8, 0x80#8] = 1 ∧ slotEntryHop [1#8, 0#8, 2#8, 0x80#8] = 2 ∧
    (word [1#8, 0#8, 2#8, 0x80#8] 0).getLsbD 31 = true ∧
    hopAt (List.replicate 7 0#8 ++ [3#8] ++ List.replicate 40 0#8 ++ [3#8, 9#8, 17#8]) 2 ⟨3, 9, 17⟩ = true := by decide

theorem witness_SweepStep : lead.areas[(0 : Fin 8)].sweep = none ∧
    (lead.setArea 0 { Area.cold with sweep := some 126 }).areas[(0 : Fin 8)].sweep = some 126 ∧
    (lead.setArea 0 { Area.cold with sweep := some 127 }).areas[(0 : Fin 8)].sweep = some 127 := by decide

theorem witness_HopPower : validPowers Accumulator.empty = [] ∧
    validPowers { Accumulator.empty with stored := [⟨1#32, .power (-500)⟩, ⟨2#32, .power 200⟩] } = [-500, 200] := by decide

theorem witness_EveryStepKeeps : boardLaw State.reset ∧ creditLaw State.reset.dev ∧ lentLaw State.reset.dev ∧
    holdLaw State.reset.dev ∧ requestLaw State.reset.dev ∧ startLaw State.reset.dev ∧ faultedLaw State.reset.dev ∧
    creditLaw lead ∧ startLaw lead := by decide +kernel

/-! ### Worked sequences of the manual -/

/-- The reports of nodes 3 and 7 in the round just ended (6.9). -/
def reports (a b : Option Nat) (l : LeadLink) : LeadLink :=
  { l with peers := (l.peers.set 3 { l.peers[3] with report := a }).set 7 { l.peers[7] with report := b } }

/-- The lead's link state before ROUND_START 101 (6.9). -/
def link100 : LeadLink :=
  let peer (r : Nat) : Peer := { Peer.cold with configured := true, target := r, reserve := r, state := .present }
  { LeadLink.cold with peers := (LeadLink.cold.peers.set 3 (peer 8)).set 7 (peer 4) }

/-- The credit steps of a ROUND_START with the queue counts of nodes 3 and 7 (6.9). -/
def credit (a b : Nat) (n : Round) (l : LeadLink) : LeadLink :=
  creditSteps 1 (((Vector.replicate 16 0).set 3 a).set 7 b) n l

/-- Pool, L_3, W_3, L_7, W_7, limit 3 and limit 7 (6.9). -/
def creditRow (l : LeadLink) : List Nat :=
  [l.pool, l.peers[3].lent, l.peers[3].withdrawn, l.peers[7].lent, l.peers[7].withdrawn, l.peers[3].limit, l.peers[7].limit]

def link101 : LeadLink := credit 6 1 101#32 (reports (some 9) (some 2) link100)
def link102 : LeadLink := credit 4 0 102#32 (reports (some 11) (some 0) link101)
def link103 : LeadLink := credit 6 0 103#32 (reports (some 2) none link102)
def link104 : LeadLink := credit 0 0 104#32 (reports (some 0) none link103)

/-- 6.9: the credit state at ROUND_STARTs 101 to 104. -/
theorem test_credit_sequence : creditRow link101 = [56, 4, 0, 4, 0, 12, 8] ∧ creditRow link102 = [52, 8, 0, 0, 4, 16, 8] ∧
    creditRow link103 = [48, 12, 0, 0, 4, 20, 8] ∧ creditRow link104 = [52, 0, 12, 0, 0, 20, 4] := by decide +kernel

/-- The primary code and key hop of five non-GUARD hops' statuses (9.11). -/
def judged (xs : List HopStatus) : Fin 12 × Nat :=
  let rs : List HopResult := xs.zipIdx.map (fun (st, i) =>
    ⟨i, ⟨⟨0, 0, 0⟩, .through, false, 0, 0, 0, 0, 0⟩, st, none, st == .intermittent, false, false⟩)
  ((findingsOf (probe .grace) rs).primary, keyHop (findingsOf (probe .grace) rs).primary (probe .grace) rs)

/-- 9.11: the six rows. -/
theorem test_path_patterns :
    judged [.present, .present, .missing, .missing, .unobserved] = (4, 2) ∧
    judged [.present, .missing, .present, .present, .present] = (6, 1) ∧
    judged [.unobserved, .present, .missing, .unobserved, .missing] = (4, 2) ∧
    judged [.present, .present, .unobserved, .present, .intermittent] = (7, 2) ∧
    judged [.present, .present, .present, .present, .intermittent] = (8, 4) ∧
    judged [.missing, .missing, .missing, .missing, .missing] = (4, 0) := by decide +kernel

/-- The lead of 5.10 before LOOK_OPEN, its five local watches issued. -/
def round300 : Device :=
  let taps := (((Vector.replicate 32 ⟨false, 0, 0, 0⟩).set 4 ⟨true, 200, 16, 19⟩).set 5 ⟨true, 180, 0, 1⟩).set 6
    ⟨false, 150, 40, 40⟩
  let d := applyTaps taps lead
  { d with
    taps := { d.taps with localWatches := [⟨4, 17, 3⟩, ⟨6, 40, 3⟩, ⟨5, 30, 0⟩, ⟨4, 18, 0⟩, ⟨4, 17, 1⟩] }
    rounds := { d.rounds with number := 300#32, phase := .scheduled 20 100 } }

theorem witness_LookOpenAndDeadline_work : round300.rounds.phase = .scheduled 20 100 ∧ round300.running = true ∧
    round300.taps.table.isSome = true ∧ (lookOpened round300).now + 12 ≤ 100 ∧ scheduled.taps.table = none ∧
    (∀ i : Fin 4, round300.taps.detectors[i] = .idle) := by decide +kernel

/-- 5.10: detectors 0 to 2 begin entries A, B and C, detector 3 sweeps (4, 16) and the cursor moves to (4, 17). -/
theorem test_look_open : (lookOpened round300).taps.detectors.toList =
      [.looking ⟨4, 17, some [3, 1], 300#32, 200, 32⟩, .looking ⟨5, 30, some [0], 300#32, 180, 32⟩,
       .looking ⟨4, 18, some [0], 300#32, 200, 32⟩, .looking ⟨4, 16, none, 300#32, 200, 32⟩] ∧
    (lookOpened round300).taps.cursor = some (4, 17) := by decide +kernel

/-- The lead of 5.10 at 37 ms: detectors 2 and 3 HOLDING one sighting each, 62 local entries in the queue, the cursor at (5, 1). -/
def roomFrees : Device :=
  let d := { lookOpened round300 with now := 37 }
  let x : Sighting := ⟨none, 300#32, ⟨1, 4, 18⟩, 0, none, 200, true, true⟩
  let y : Sighting := ⟨none, 300#32, ⟨1, 4, 16⟩, 12, some 300, 200, true, true⟩
  ({ d with taps := { d.taps with cursor := some (5, 1) } }.setDetector 2 (.holding [x])).setDetector 3 (.holding [y])
    |>.setQueue (List.replicate 62 ⟨x, none, none⟩)

theorem witness_drawsSweep : ∃ table, roomFrees.taps.table = some table ∧ roomFrees.taps.cursor = some (5, 1) ∧
    roomFrees.taps.sweepOver = false ∧ roomFrees.taps.plan = [] ∧ roomFrees.taps.sweepFirst = some (4, 16) ∧
    sweepOrder table = [(4, 16), (4, 17), (4, 18), (4, 19), (5, 0)] ++ (5, 1) :: [] ∧ (5, 1) ∉ roomFrees.taps.watched :=
  ⟨_, rfl, rfl, by decide +kernel, by decide +kernel, by decide +kernel, by decide +kernel, by decide +kernel⟩

theorem witness_ClassifySighting_holding : (∀ j : Fin 4, j < 2 → roomFrees.taps.detectors[j].isHolding = false) ∧
    roomFrees.taps.detectors[(2 : Fin 4)].isHolding = true ∧ roomFrees.taps.detectors[(3 : Fin 4)].isHolding = true ∧
    localRoom roomFrees = 2 := by decide +kernel

/-- 5.10: detector 2 moves its sighting in and draws (5, 1), then detector 3 moves its own in, and its draw comes back to
(4, 16). -/
theorem test_room_frees : (serveHolding roomFrees).taps.detectors[(2 : Fin 4)] = .looking ⟨5, 1, none, 300#32, 180, 49⟩ ∧
    (serveHolding roomFrees).taps.detectors[(3 : Fin 4)] = .idle ∧ (serveHolding roomFrees).taps.sweepOver = true ∧
    (serveHolding roomFrees).classifier.queue.length = 64 := by decide +kernel

/-- 10.2: a full ring drops a request, counts it and raises JOURNAL; the same key again is counted nowhere. -/
theorem test_ring_overflow :
    (journalRequest (JournalEntry.blank .stray) (some (.stray 11)) (filled 64#32)).journal.overflow = 1#32 ∧
    (journalRequest (JournalEntry.blank .stray) (some (.stray 11)) (filled 64#32)).regs.irqCause = 2#5 ∧
    (journalRequest (JournalEntry.blank .stray) (some (.stray 11))
      (journalRequest (JournalEntry.blank .stray) (some (.stray 11)) (filled 64#32))).journal.overflow = 1#32 := by
  decide +kernel

/-! ### Witnesses of the further clauses -/

/-- A lead whose slot 0 is RUNNING with circuit 0 staged in place 0, and whose launch bus has settled. -/
def admissible : Device :=
  { (lead.setSlot 0 { slot .running .none with desc := { Descriptor.cleared with
      count := 2, circuitBase := 0x3000, verdictBase := 0x4000, priority := 3 } }).setPlace 0 0 (.fetched 0 circuit) with
    launch := { lead.launch with sending := none } }

/-- A slot that drains for a reason, its two circuits at 0x3000 and its verdicts at 0x4000. -/
def draining (r : Reason) : Device :=
  lead.setSlot 0 { slot .draining r with desc := { Descriptor.cleared with
    count := 2, circuitBase := 0x3000, verdictBase := 0x4000 } }

theorem witness_SettleFrame_bus : Device.cold.launch.sending.isSome = true ∧ admissible.launch.sending = none ∧
    (issueCommand .stopAll admissible).launch.issued = [.stopAll] ∧
    (([.stop 1#8 (some 0), .stop 2#8 (some 7), .stopAll] : List BusCommand).map (·.rank)).Pairwise (· ≤ ·) := by decide

theorem witness_SettleFrame_admission : resources? admissible = some ⟨0, 0, 0⟩ ∧
    chosen admissible = some ⟨0, 0, 0, circuit⟩ ∧ candidateAt admissible 0 0 = some ⟨0, 0, 0, circuit⟩ ∧
    resources? Device.cold = none ∧ chosen lead = none ∧ candidateAt lead 0 0 = none ∧
    admissible.launch.stuck.length + busyContexts admissible < 8 := by decide +kernel

theorem witness_SettleFrame_law : probeLaw (probing .listening .on lead) := by
  have one : ∀ r : Fin 16, (probing .listening .on lead).probes.records[r] =
      if r = 0 then some (probe .listening) else none := by decide
  intro r p h _
  rw [one] at h
  split at h <;> cases h
  subst r
  refine ⟨by decide, by decide, fun q x hq h _ => ?_⟩
  rw [one, if_neg hq] at h
  cases h

theorem witness_SettleFrame_fetch : admissible.running = true ∧ admissible.slots[(0 : Fin 8)].state = .running ∧
    admissible.sched[(0 : Fin 8)].stage[(1 : Fin 2)] = .empty ∧ (circuitEntry admissible 0 1).status = .queued ∧
    Machine.staged admissible 0 0 = true ∧ Machine.staged admissible 0 1 = false ∧
    inWindow admissible.iface.bounds (0x3000 + 1 * 272) 272 = true ∧
    (reaching 0 (lead.setSlot 0 (slot .running .none))).slots[(0 : Fin 8)].desc.count = 0 := by decide

theorem witness_SettleFrame_closing : canAccess (draining .aborted) = true ∧ drained (draining .aborted) 0 = true ∧
    (draining .aborted).slots[(0 : Fin 8)].closing = none ∧ (circuitEntry (draining .aborted) 0 0).status ≠ .done ∧
    inWindow lead.iface.bounds (0x4000 + 0 * 64) 64 = true ∧ (draining .complete).slots[(0 : Fin 8)].reason ≠ .aborted ∧
    inWindow lead.iface.bounds (boardAddr lead (0x640 + 0x100 * 7)) 128 = true ∧
    drained (setStatus 0 0 .done (setStatus 0 1 .done (draining .planError))) 0 = true := by decide +kernel

/-- A lead with a LISTENING probe whose campaign is bound to window 2, which is QUIET, its circuit IN_FLIGHT. -/
def quiet2 : Device :=
  awaiting .scanRead (setStatus 0 0 .inFlight (((probing .listening .on lead).setWindow 2 ⟨.quiet, 0, 0#16⟩).setSlot 0
    { slot .running .none with desc := { Descriptor.cleared with windowId := 2, count := 1 } }))

theorem witness_ScanReadDone_suspends : awaited quiet2 (access .scanRead) isScanRead ∧
    quiet2.probes.records[(0 : Fin 16)] = some (probe .listening) ∧ quiet2.iface.mode = some .lead ∧
    quiet2.slots[(0 : Fin 8)].state = .running ∧ quiet2.windows[(2 : Fin 4)].phase = .quiet ∧ wantClosed [] 2 = false ∧
    circuitEntry quiet2 0 0 = ⟨.inFlight, 0⟩ ∧ requestSequence [] 0 = quiet2.slots[(0 : Fin 8)].lastSeq ∧
    requestSequence (request 2#8) 0 ≠ quiet2.slots[(0 : Fin 8)].lastSeq ∧
    quiet2.launch.contexts[(0 : Fin 8)].state = .on := by decide

theorem witness_DescriptorReadDone_draining :
    awaited (awaiting (.descriptorRead 0) (lead.setSlot 0 (slot .draining .aborted))) (access (.descriptorRead 0))
      isDescriptorRead ∧
    (awaiting (.descriptorRead 0) (lead.setSlot 0 (slot .draining .aborted))).slots[(0 : Fin 8)].state = .draining := by
  decide

/-- A REJECTED slot's shadow write in flight with a further one owed. -/
def owing (ch : Channel) (d : Device) : Device :=
  { awaiting (.channelWrite ch false false) d with
    dma := { (awaiting (.channelWrite ch false false) d).dma with owed := [ch] } }

theorem witness_ShadowWriteDone_owed :
    awaited (owing (.shadow 7) lead) (access (.channelWrite (.shadow 7) false false)) isShadowWrite ∧
    .shadow 7 ∈ (owing (.shadow 7) lead).dma.owed ∧ canAccess (owing (.shadow 7) lead) = true ∧
    (owing (.shadow 7) lead).slots[(7 : Fin 8)].closing = none ∧
    inWindow lead.iface.bounds (boardAddr lead (0x620 + 0x100 * 7)) 16 = true := by decide

theorem witness_CoalescedWritesComplete_owed : .markCounters ∈ (owing .markCounters lead).dma.owed ∧
    canAccess (owing .markCounters lead) = true ∧ .markCounters ∉ lead.dma.owed ∧
    inWindow (owing .markCounters lead).iface.bounds (channelExtent .markCounters (owing .markCounters lead)).1
      (channelExtent .markCounters (owing .markCounters lead)).2.length = true := by decide

/-- A lead that awaits its first settings, the settings read in flight. -/
def awaitingFirst : Device :=
  awaiting (.settingsRead 3#16) { lead with rounds := { lead.rounds with awaitFirst := true, hold := true } }

theorem witness_SettingsReadDone_first : awaited awaitingFirst (access (.settingsRead 3#16)) isSettingsRead ∧
    awaitingFirst.leading = true ∧ awaitingFirst.rounds.awaitFirst = true ∧ awaitingFirst.rounds.inForce = none ∧
    awaitingFirst.rounds.readPending = false ∧ live (dropAccess awaitingFirst 7) isSettingsRead = false := by decide

theorem witness_CircuitFetchDone_planError :
    awaited (awaiting (.circuitFetch 0 0 1) admissible) (access (.circuitFetch 0 0 1)) isCircuitFetch ∧
    circuit? admissible.slots[(0 : Fin 8)].desc.reach admissible.slots[(0 : Fin 8)].desc.nmax [] = none ∧
    canAccess admissible = true ∧ inWindow admissible.iface.bounds (0x4000 + 1 * 64) 64 = true := by decide

theorem witness_VerdictWriteDone_failed : (draining .planError).slots[(0 : Fin 8)].reason = .planError ∧
    (draining .planError).slots[(0 : Fin 8)].state = .draining ∧
    (draining .memoryFault).slots[(0 : Fin 8)].reason = .memoryFault ∧
    (lead.setSlot 0 (slot .waiting .none)).slots[(0 : Fin 8)].state = .waiting := by decide

/-- The hypotheses of the clause on a write with no probe record, and no others: the PLAN_ERROR record of a circuit, the slot of
that generation. -/
theorem witness_VerdictWriteDone_noRecord :
    ∃ (a : Access) (s : State), awaited s.dev a isVerdictWrite ∧ a.kind = .verdictWrite 0 5#16 0 none 0 none ∧
      s.dev.slots[(0 : Fin 8)].generation = 5#16 :=
  ⟨access (.verdictWrite 0 5#16 0 none 0 none),
    { State.reset with dev := awaiting (.verdictWrite 0 5#16 0 none 0 none) judging }, by decide⟩

/-- R170, R171: a PLAN_ERROR record that lands counts as a verdict and, filling the table, drains the slot for COMPLETE; one that
fails counts nothing and drains it for MEMORY_FAULT. -/
theorem test_planError_verdict_counts :
    (verdictLanded 0 5#16 0 none 0 none judging).slots[(0 : Fin 8)].verdicts = 1 ∧
    (verdictLanded 0 5#16 0 none 0 none judging).slots[(0 : Fin 8)].summary.codes[(0 : Fin 12)] = 1#32 ∧
    (verdictLanded 0 5#16 0 none 0 none judging).slots[(0 : Fin 8)].reason = .complete ∧
    (verdictFailed 0 none judging).slots[(0 : Fin 8)].verdicts = 0 ∧
    (verdictFailed 0 none judging).slots[(0 : Fin 8)].reason = .memoryFault := by decide +kernel

theorem witness_StopReplies_ignored : (probing .launching .arming lead).launch.contexts[(0 : Fin 8)].state = .arming ∧
    (probing .armed .on lead).launch.contexts[(0 : Fin 8)].state = .on ∧
    contextOf (probing .armed .on lead) 4#8 = some 0 ∧ contextOf lead 4#8 = none ∧
    (probing .launching .arming lead).launch.contexts[(0 : Fin 8)].state ≠ .on := by decide

theorem witness_RoundStart_credit : (CreditBlock.mk 4 5#32).isDue 5#32 = true ∧ (CreditBlock.mk 4 6#32).isDue 5#32 = false ∧
    ({ Peer.cold with configured := true, report := some 1 } : Peer).hasBacklog = true ∧ Peer.cold.hasBacklog = false ∧
    4 ≤ LeadLink.cold.pool ∧ ({ Peer.cold with reserve := 8, target := 4 } : Peer).target < 8 ∧
    scheduled.rounds.staged = none ∧
    ({ Peer.cold with configured := true, silence := 7, state := .present } : Peer).tickSilence.state = .silent := by decide

theorem witness_RoundStart_probes :
    (probing .listening .on scheduled).leading = true ∧ (probing .listening .on scheduled).rounds.nextAt = some 100 ∧
    (probing .listening .on scheduled).probes.records[(0 : Fin 16)] = some (probe .listening) ∧
    (probing .listening .on scheduled).launch.contexts[(0 : Fin 8)].state = .on ∧
    ({ probe .listening with roundsListened := 4 }).record.nmaxEff ≤ 4 ∧
    verdictWithheld 0 (probing .grace .stopping scheduled) = false := by decide

theorem witness_StagedSettingsApply_writes : canAccess staged = true ∧ live staged (ofChannel .acknowledgment) = false ∧
    live (owing .acknowledgment staged) (ofChannel .acknowledgment) = true ∧
    inWindow staged.iface.bounds (boardAddr staged 0x28) 8 = true ∧ scheduled.rounds.inForce.isSome = true := by decide

theorem witness_PeriodAndGuardDerived : staged.rounds.staged.isSome = true ∧ settled staged = true ∧
    staged.rounds.inForce = none ∧ (∃ t, step (on staged) = .next t) ∧
    2 * max 10 (min 500 (50 / 10 * 10)) ≤ derivePeriod 100 ∧ derivePeriod 100 < 2 * max 10 (min 500 (60 / 10 * 10)) :=
  ⟨by decide, by decide, by decide, ⟨_, rfl⟩, by decide, by decide⟩

theorem witness_LookOpen_plan : round300.rounds.phase = .scheduled 20 100 ∧ round300.running = true ∧
    round300.taps.table.isSome = true ∧ 20 + 12 ≤ 100 ∧ round300.taps.detectors[(0 : Fin 4)] = .idle ∧
    ((round300.taps.localWatches.filter (fun w => tapEnabled round300 w.port)).foldl addWatch [])[0]? =
      some ⟨4, 17, [3, 1]⟩ := by decide +kernel

/-- A follower in round 9 at a time, its round at a phase. -/
def inRound9 (now : Nat) (phase : LookPhase) : Device :=
  { follower with now := now, rounds := { follower.rounds with number := 9#32, phase := phase } }

theorem witness_WatchListTaken : follower.following = true ∧ follower.ownNode = 2 ∧ follower.iface.start = none ∧
    follower.identity.bind (·.leadNode) = some 1 ∧ watchListBody? watchList = some (9#32, [⟨31, 95, 47⟩]) ∧
    follower.rounds.phase = .closed ∧ (inRound9 0 (.scheduled 10 100)).rounds.number = 9#32 ∧
    max (inRound9 0 (.scheduled 10 100)).now 9 < 10 ∧ 10 ≤ max (inRound9 0 (.scheduled 10 100)).now 10 ∧
    max (inRound9 0 (.scheduled 10 100)).now 99 < 100 ∧ 100 ≤ max (inRound9 0 (.scheduled 10 100)).now 100 ∧
    (inRound9 20 (.opened 100)).rounds.phase = .opened 100 ∧ max (inRound9 20 (.opened 100)).now 99 < 100 ∧
    100 ≤ max (inRound9 20 (.opened 100)).now 100 ∧ (9#32 : Round) ≠ (inRound9 0 .closed).rounds.number + 1#32 := by decide

/-- R88: a list is held before LOOK_OPEN's time, joins the plan after it, and is discarded from the look deadline on. -/
theorem test_watch_list_times :
    (takeWatchList 9#32 [⟨4, 17, 3⟩] (inRound9 9 (.scheduled 10 100))).taps.heldWatches = [⟨4, 17, 3⟩] ∧
    (takeWatchList 9#32 [⟨4, 17, 3⟩] (inRound9 99 (.opened 100))).taps.watched = [(4, 17)] ∧
    (takeWatchList 9#32 [⟨4, 17, 3⟩] (inRound9 100 (.opened 100))).taps.watched = [] ∧
    (takeWatchList 9#32 [⟨4, 17, 3⟩] (inRound9 100 (.scheduled 10 100))).taps.heldWatches = [] := by decide

/-- A STOPPED lead whose peer 2 is configured. -/
def stoppedLead : Device := { withPeer 4 with iface := { (withPeer 4).iface with state := .stopped } }

theorem witness_PeerFramesTaken_stopped : addressed stoppedLead 1#8 = true ∧ stoppedLead.iface.state = .stopped ∧
    stoppedLead.iface.start = none ∧ stoppedLead.iface.mode = some .lead ∧ isPeer stoppedLead 2 = true ∧
    (starting .headerRead).iface.start.isSome = true ∧ addressed lead 2#8 = false ∧
    (∀ p : Fin 16, isPeer stoppedLead p = true → (3#8 : Byte).toNat ≠ p.val) := by decide

theorem witness_UnknownFrames_malformed :
    checkFrame (withPeer 4) 2 2#8 false [] = .error .badKind ∧ checkFrame (withPeer 4) 3 16#8 false [] = .error .badSource ∧
    checkFrame (withPeer 4) 3 3#8 false [] = .error .badSource ∧ checkFrame (withPeer 4) 3 2#8 false [] = .error .badField ∧
    checkFrame (withPeer 4) 3 2#8 false ([1#8] ++ sightingBody.drop 1) = .error .futureRound ∧
    checkFrame follower 2 2#8 false watchList = .error .badSource ∧ checkFrame follower 1 1#8 false mark = .error .badField ∧
    checkFrame follower 3 1#8 false [] = .error .badKind ∧ addressed (withPeer 4) 1#8 = true ∧ isPeer (withPeer 4) 2 = true ∧
    laterThan 1#32 (withPeer 4).rounds.number = true := by decide

/-- The LISTENING probe's campaign with an answer in its area for the queued sighting's location. -/
def answered (a : Answer) : Device :=
  queued 4#32 ((reaching 0x3000 (probing .listening .on lead)).setArea 0 (Area.cold.fill ⟨2, 2, 3⟩ a))

/-- That campaign in bypass mode, the probe's hop at a location. -/
def bypassed (l : Location) : Device :=
  queued 4#32 ((reaching 0 (probing .listening .on lead)).setRecord 0 (some { probe .listening with
    record := { circuit with hops := [⟨l, .through, true, -100, 10, 10, 50, 50⟩] } }))

theorem witness_ClassifySighting_answers :
    (answered .nothing).areas[(0 : Fin 8)].lookup ⟨2, 2, 3⟩ = some .nothing ∧
    (answered (.expect 1 0 0#8 true)).areas[(0 : Fin 8)].lookup ⟨2, 2, 3⟩ = some (.expect 1 0 0#8 true) ∧
    (answered (.expect 0 0 0#8 true)).areas[(0 : Fin 8)].lookup ⟨2, 2, 3⟩ = some (.expect 0 0 0#8 true) ∧
    checkEntry (answered .nothing) (seen 4#32) = .pass 0 (probe .listening) ∧
    (answered .nothing).slots[(0 : Fin 8)].desc.directoryBase ≠ 0 ∧
    (∀ hop, (probe .listening).record.hops[0]? = some hop → hop.loc ≠ ⟨2, 2, 3⟩) ∧
    (bypassed ⟨2, 2, 3⟩).slots[(0 : Fin 8)].desc.directoryBase = 0 ∧
    lookIgnored Accumulator.empty 1 (seen 4#32) = false ∧
    lookIgnored { Accumulator.empty with looksDone := 1 } 1 (seen 4#32) = true :=
  ⟨by decide +kernel, by decide +kernel, by decide +kernel, by decide, by decide,
    fun hop h => by simp [probe, circuit] at h; subst h; decide, by decide, by decide, by decide⟩

/-- R146, R149: NONE is a MISROUTE, another circuit's EXPECT a CROSS, an unconfirmed hop counts as unclassified. -/
theorem test_answers :
    ((classifyNext (answered .nothing)).probes.records[(0 : Fin 16)]).bind (·.misroute) = some ⟨2, 2, 3⟩ ∧
    ((classifyNext (answered (.expect 1 0 0#8 true))).probes.records[(0 : Fin 16)]).bind (·.cross) = some 1 ∧
    (classifyNext (answered (.expect 0 0 0#8 true))).slots[(0 : Fin 8)].summary.unclassified = 1#32 := by decide +kernel

/-- R77, R147, R154: the one look a one-hop probe needs completes it, and its tone is quarantined with its holder ENDED. -/
theorem test_early_completion :
    ((classifyNext (bypassed ⟨2, 2, 3⟩)).probes.records[(0 : Fin 16)]).map (·.state) = some .evaluating ∧
    (classifyNext (bypassed ⟨2, 2, 3⟩)).tones[(6 : Fin 48)] = .quarantined ⟨4#32, some 0, .ended, some 4#32, false⟩ ∧
    (classifyNext (bypassed ⟨2, 2, 3⟩)).launch.contexts[(0 : Fin 8)].state = .stopping := by decide +kernel

/-- A local sighting. -/
def seenHere : Sighting := { seen 4#32 with source := none }

theorem witness_ClassifySighting_local :
    (lead.setQueue [⟨seenHere, none, none⟩]).classifier.queue[0]? = some ⟨seenHere, none, none⟩ ∧
    checkEntry lead seenHere ≠ .pass 0 (probe .listening) ∧
    (lead.setDetector 3 (.holding (List.replicate 65 seenHere))).taps.detectors[(3 : Fin 4)] =
      .holding (List.replicate 65 seenHere) ∧
    localRoom lead < (List.replicate 65 seenHere).length ∧ (List.replicate 64 seenHere).length ≤ localRoom lead := by
  decide +kernel

/-- A queue whose entry is parked on walk 0 with a memo of record 0. -/
def parkedOn0 (d : Device) : Device :=
  { d.setQueue [⟨seen 4#32, some 0, some ⟨0, 0, 5#16, 0⟩⟩] with rounds := { d.rounds with number := 4#32 } }

theorem witness_WalkReadDone_handBack :
    (parkedOn0 lead).classifier.queue.findIdx? (fun e => e.parked == some 0) = some 0 ∧
    (parkedOn0 lead).classifier.queue[0]? = some ⟨seen 4#32, some 0, some ⟨0, 0, 5#16, 0⟩⟩ ∧
    (parkedOn0 lead).classifier.queue.length ≤ 1 ∧ isStale 4#32 2#32 = true ∧ isStale 4#32 3#32 = false ∧
    (draining .planError).slots[(0 : Fin 8)].generation = 5#16 ∧
    (parkedOn0 (probing .evaluating .on lead)).probes.records[(0 : Fin 16)] = some (probe .evaluating) ∧
    resolveTone (parkedOn0 (lead.setTone 6 (.held 0))) (seen 4#32) = .lateTone ∧
    resolveTone (parkedOn0 lead) (seen 4#32) = .stray ∧
    resolveTone (parkedOn0 lead) { seen 4#32 with level := none } = .silent ∧
    resolveTone (parkedOn0 (probing .listening .on lead)) (seen 4#32) = .probe 0 (probe .listening) ∧
    checkProbe (parkedOn0 (probing .listening .on lead)) (seen 4#32) 0 (probe .listening) = .outOfReach (probe .listening) ∧
    checkProbe (parkedOn0 (reaching 0x3000 (probing .listening .on lead))) (seen 4#32) 0 (probe .listening) =
      .pass 0 (probe .listening) ∧ outsideWindow (probe .listening) 5#32 = true := by decide

/-- R151: an entry whose walk ended with no answer is discarded as late, one with NONE is a MISROUTE. -/
theorem test_hand_back :
    (handBack 0 none 1 (parkedOn0 (reaching 0x3000 (probing .listening .on lead)))).slots[(0 : Fin 8)].summary.lateDiscard =
      1#32 ∧
    ((handBack 0 (some .nothing) 1 (parkedOn0 (reaching 0x3000 (probing .listening .on lead)))).probes.records[
      (0 : Fin 16)]).bind (·.misroute) = some ⟨2, 2, 3⟩ ∧
    (handBack 0 none 1 (parkedOn0 (reaching 0x3000 (probing .listening .on lead)))).classifier.queue = [] := by decide +kernel

/-- The result of a THROUGH hop at a place of a path, expected at −10.0 dBm. -/
def result (n : Nat) (st : HopStatus) (ph : Option Int) : HopResult :=
  ⟨n, ⟨⟨1, 2, 3⟩, .through, true, -100, 10, 10, 50, 50⟩, st, ph, false, false, false⟩

theorem witness_HopPower_margins : (result 0 .present (some (-111))).low = true ∧
    (result 0 .present (some (-89))).high = true ∧ (result 0 .present none).margin = none ∧
    spansOf (poweredHops [result 0 .present (some (-100)), result 3 .present (some (-151))]) = [⟨3, 51, 50, 50⟩] ∧
    worstMargin [result 0 .present (some (-100)), result 3 .present (some (-151))] = some (-41) ∧
    worstMargin [result 0 .present none] = none ∧
    spreadExceeded ⟨⟨1, 2, 3⟩, .through, true, -100, 10, 10, 50, 50⟩ { Accumulator.empty with stored := [⟨1#32, .power 10⟩, ⟨2#32, .power 21⟩] } 10 = true ∧
    spreadExceeded ⟨⟨1, 2, 3⟩, .through, true, -100, 10, 10, 50, 50⟩ { Accumulator.empty with stored := [⟨1#32, .power 10⟩, ⟨2#32, .power 20⟩] } 10 = false := by
  decide +kernel

theorem witness_HopPower_keyHop :
    (([result 0 .present none, result 2 .missing none] : List HopResult).map (·.number)).Pairwise (· < ·) ∧
    keyMark 4 [result 0 .present none, result 2 .missing none] (result 2 .missing none) ∧
    keyHop 4 (probe .grace) [result 0 .present none, result 2 .missing none] = 2 ∧
    (verdictBytes (notRunVerdict 5#16 255)).length = 64 :=
  ⟨by decide, .inl ⟨.inl rfl, rfl⟩, by decide, by decide +kernel⟩

theorem witness_EveryStepKeeps_further : localLaw lead ∧ heldLaw lead ∧ peerLaw (withPeer 4) ∧ reserveLaw (withPeer 4) ∧
    summaryLaw lead ∧ issuedLaw lead := by
  refine ⟨by decide, fun i xs h => ?_, by decide, by decide, by decide, by decide⟩
  have idle : ∀ i : Fin 4, lead.taps.detectors[i] = .idle := by decide
  rw [idle] at h
  cases h

/-! ### What the review mended -/

/-- R7: a start that completes owns no access any more, so a later abandoned start leaves a peer write of it as it is. -/
theorem test_completed_start_owns_nothing :
    (abandonStart (releaseStartAccesses { lead with dma := { lead.dma with
      inFlight := [{ access (.channelWrite (.peer 2) false false) with ofStart := true }] } })).dma.inFlight.map (·.discarded) =
      [false] := by decide

/-- R177: an older announcing write lands while a new REJECTED waits behind it; the write issued then announces it. -/
theorem test_second_rejected_is_announced :
    (shadowLanded 0 false true (owing (.shadow 0) (lead.setSlot 0 { slot .rejected .badCount with announce := true }))).dma.inFlight.map
      (·.kind) = [.channelWrite (.shadow 0) false false, .channelWrite (.shadow 0) false true] := by decide +kernel

/-- R66: a LAUNCH on context 2 goes before a STOP of context 5 that was issued first in the step. -/
theorem test_commands_ascend :
    (sendIssued (issueCommand (.launch 9#8 6 1 (some 2)) (issueCommand (.stop 4#8 (some 5))
      { lead with launch := { lead.launch with sending := none } }))).launch.sending = some (.launch 9#8 6 1 (some 2)) ∧
    (sendIssued (issueCommand (.launch 9#8 6 1 (some 2)) (issueCommand (.stop 4#8 (some 5))
      { lead with launch := { lead.launch with sending := none } }))).launch.waiting = [.stop 4#8 (some 5)] := by decide

/-- R94: a look with no sighting ends HOLDING while another detector is HOLDING. -/
theorem test_empty_look_holds :
    (offerLocal 1 [] (lead.setDetector 0 (.holding [seenHere]))).taps.detectors[(1 : Fin 4)] = .holding [] := by decide

/-- R44, R98: a cold reset keeps the frame already handed to the framer. -/
theorem test_framer_outlives_reset : (coldReset { lead with framer := some [1#8] }).framer = some [1#8] := by decide

/-- A lead's start whose peer 2 write waits behind the one a halt left in flight. -/
def startOwing : Device :=
  { starting .headerWrite with dma := { Dma.cold with
    inFlight := [access (.channelWrite (.peer 2) false false)], nextTag := 8, owed := [.peer 2], startOwed := [.peer 2] } }

/-- R7, R105: a peer write of step 5 owed behind a halt's write is owed as the start's, and issued as an access of the start. -/
theorem test_start_owes_its_peer_writes :
    (oweAs true (.peer 2) { startOwing with dma := { startOwing.dma with owed := [], startOwed := [] } }) = startOwing ∧
    (reissue (.peer 2) (dropAccess startOwing 7)).dma.inFlight.map (·.ofStart) = [true] := by decide +kernel

/-- R7: an abandoned start takes with it the peer write it owed, or discards it once issued, and the halt's write stays. -/
theorem test_abandoned_start_drops_its_owed_writes :
    (abandonStart startOwing).dma.owed = [] ∧ (abandonStart startOwing).dma.inFlight.map (·.discarded) = [false] ∧
    (abandonStart (reissue (.peer 2) (dropAccess startOwing 7))).dma.inFlight.map (·.discarded) = [true] := by
  decide +kernel

/-- R8, R14 with log entry 38: a scan read whose completion is to be discarded holds back no new one. -/
theorem test_discarded_scan_holds_back_none :
    (requestScan (discardWhere (fun a => isScanRead a.kind) (awaiting .scanRead lead))).dma.inFlight.map (·.discarded) =
      [true, false] := by decide +kernel

/-- R7: a peer write that a halt owes already stays owed when a start that owed it too is abandoned. -/
theorem test_halt_keeps_its_owed_write :
    (abandonStart (oweAs true (.peer 2) { startOwing with dma := { startOwing.dma with startOwed := [] } })).dma.owed =
      [.peer 2] := by decide +kernel

theorem witness_RunClear_owed : startOwing.iface.start.isSome = true ∧ .peer 2 ∈ startOwing.dma.startOwed ∧
    .peer 2 ∈ startOwing.dma.owed ∧ canAccess startOwing = true := by decide

theorem witness_SettleFrame_refused : (issueRead .scanRead 0 112 lead).dma.refused =
      [⟨0, .scanRead, 0, 112, [], false, false⟩] ∧
    awaited (awaiting .scanRead lead) (access .scanRead) isScanRead := by decide

/-- R12: an access outside the window is handled as one that failed, here with SCAN_FAULT. -/
theorem test_refused_scan : (settle (issueRead .scanRead 0 112 lead)).iface.reason = .scanFault := by decide +kernel

theorem witness_BoardReset_idleBus : admissible.launch.sending = none ∧ Device.cold.launch.sending = some .stopAll ∧
    (probing .listening .on lead).launch.contexts[(0 : Fin 8)].state ≠ .idle := by decide

/-- R71: a board reset sends STOP for a context that is not IDLE, then for the stuck points, behind the command being sent. -/
theorem test_board_reset_stops :
    (boardReset (probing .listening .on { stuckAt4 with launch := { stuckAt4.launch with stuck := [⟨9#8, 3⟩] } })).launch.waiting =
      [.stop 4#8 none, .stop 9#8 none] := by decide +kernel

/-- A header of a FOLLOW board, node 2, whose lead is node 1. -/
def followHeader : List Byte :=
  [0#8, 0#8, 0#8, 0#8, 2#8, 2#8, 1#8, 0#8, 0x00#8, 0x20#8, 0#8, 0#8, 0#8, 0#8, 0#8, 0#8, 64#8]

/-- A start that the header write completes, in the mode of a header. -/
def finishing (h : List Byte) (d : Device) : Device :=
  awaiting .startHeaderWrite { d with
    iface := { d.iface with state := .stopped, fresh := false, start := some ⟨.headerWrite, h, []⟩ } }

theorem witness_StartCompletes_modes :
    awaited (finishing followHeader lead) (access .startHeaderWrite) isStartHeaderWrite ∧
    (identity? followHeader).map (·.mode) = some .follow ∧ (identity? header).map (·.mode) = some .lead ∧
    (finishing header scheduled).rounds.inForce.isSome = true ∧ (finishing header staged).rounds.inForce = none ∧
    settled (finishing header staged) = true ∧ settled (finishing header lead) = false ∧
    live (awaiting (.channelWrite (.window 3) false false) lead) (ofChannel (.window 3)) = true ∧
    live lead (ofChannel (.window 3)) = false ∧
    inWindow lead.iface.bounds (boardAddr lead (0x118 + 16 * 3)) 8 = true := by decide

theorem witness_StartCompletes_slots :
    stateAfterRequests .lead [] (lead.setSlot 0 (slot .waiting .none)) 0 .waiting ∧
    stateAfterRequests .follow [] (lead.setSlot 0 (slot .suspended .none)) 0 .suspended ∧
    stateAfterRequests .follow (request 1#8) lead 0 .rejected :=
  ⟨⟨.waiting, by decide, by decide⟩, ⟨.suspended, by decide, by decide⟩, ⟨.free, by decide, by decide⟩⟩

/-- R33, R41: a completed LEAD start runs a WAITING campaign of window id 7 and takes its first ROUND_START at once. -/
theorem test_lead_start :
    (completeStart ⟨.headerWrite, header, []⟩ (finishing header (scheduled.setSlot 0 { slot .waiting .none with
      desc := { Descriptor.cleared with windowId := 7 } }))).slots[(0 : Fin 8)].state = .running ∧
    (completeStart ⟨.headerWrite, header, []⟩ (finishing header scheduled)).rounds.number = 1#32 ∧
    (completeStart ⟨.headerWrite, header, []⟩ (finishing header lead)).rounds.awaitFirst = true := by decide +kernel

/-- R6, R50, R118: a completed FOLLOW start drains a SUSPENDED campaign, pends a JOINING HELLO and starts the 8 s timer. -/
theorem test_follow_start :
    (completeStart ⟨.headerWrite, followHeader, []⟩ (finishing followHeader (lead.setSlot 0 (slot .suspended .none)))).slots[
      (0 : Fin 8)].state = .draining ∧
    (completeStart ⟨.headerWrite, followHeader, []⟩ (finishing followHeader lead)).follower.hello = some .joining ∧
    (completeStart ⟨.headerWrite, followHeader, []⟩ (finishing followHeader lead)).follower.leadLostAt = some 8000 := by
  decide +kernel

theorem witness_NotRunWriteDone_next :
    awaited (awaiting (.notRunWrite 0 0) (draining .aborted)) (access (.notRunWrite 0 0)) isNotRunWrite ∧
    (draining .aborted).slots[(0 : Fin 8)].desc.count = 2 ∧ (circuitEntry (draining .aborted) 0 1).status ≠ .done ∧
    canAccess (draining .aborted) = true ∧ inWindow lead.iface.bounds (0x4000 + 1 * 64) 64 = true ∧
    (draining .memoryFault).slots[(0 : Fin 8)].reason ≠ .aborted ∧
    (circuitEntry (setStatus 0 1 .done (draining .planError)) 0 1).status = .done ∧
    inWindow lead.iface.bounds (boardAddr lead (0x640 + 0x100 * 0)) 128 = true := by decide +kernel

theorem witness_SummaryWriteDone_stopped : stoppedLead.iface.state = .stopped ∧ canAccess stoppedLead = true ∧
    awaited (awaiting (.summaryWrite 7) stoppedLead) (access (.summaryWrite 7)) isSummaryWrite ∧
    live (awaiting (.channelWrite (.shadow 7) false false) lead) (ofChannel (.shadow 7)) = true := by decide

/-- A journal with requests waiting. -/
def listing (n : Nat) (d : Device) : Device :=
  { d with journal := { d.journal with requests := List.replicate n (JournalEntry.blank .cross) } }

theorem witness_JournalEntryWriteDone_requests :
    Device.cold.journal.usable = false ∧ lead.journal.usable = true ∧ lead.iface.state ≠ .faulted ∧
    .stray 11 ∈ (journalRequest (JournalEntry.blank .stray) (some (.stray 11)) lead).journal.memory ∧
    .stray 11 ∉ lead.journal.memory ∧ 16 ≤ (listing 16 lead).journal.requests.length ∧
    (listing 15 lead).journal.requests.length < 16 ∧ live (awaiting .journalWrite lead) isJournalWrite = true ∧
    lead.journal.requests = [] ∧ lead.journal.ring = some ⟨0x2000, 64⟩ ∧ live lead isJournalWrite = false ∧
    canAccess lead = true ∧ (filled 63#32).journal.fill < 64 ∧ inWindow lead.iface.bounds (0x2000 + 63 % 64 * 32) 32 = true ∧
    .creditViolation 2#8 ∈ ({ lead with journal := { lead.journal with memory := [.creditViolation 2#8] } } : Device).journal.memory := by
  decide +kernel

/-- R174: the entry of produced count 70 goes to place 6 of a ring of 64. -/
theorem test_ring_position :
    (journalRequest (JournalEntry.blank .cross) none { lead with journal := { lead.journal with
      produced := 70#32, consumed := 60#32 } }).dma.inFlight.map (·.addr) = [0x2000 + 6 * 32] := by decide +kernel

theorem witness_PeriodAndGuardDerived_changes : resets .coldReset = true ∧ resets (.boardReset false) = true ∧
    resets (.registerWrite 0x004#12 4 2#32) = true ∧ resets (.registerWrite 0x004#12 4 1#32) = false ∧
    awaited awaitingFirst (access (.settingsRead 3#16)) isSettingsRead := by decide

theorem witness_WatchIssue_order : allWatches { probing .listening .on scheduled with
      probes := { (probing .listening .on scheduled).probes with order := [0] } } = [(1, ⟨2, 3, 6⟩)] ∧
    (probe .listening).record.hops[0]? = some ⟨⟨1, 2, 3⟩, .through, true, -100, 10, 10, 50, 50⟩ ∧
    (probe .listening).accums[0]? = some Accumulator.empty ∧ Accumulator.empty.looksDone ≠ (probe .listening).record.looks := by
  decide

/-- R83, R92, R93: nine tones found, the lowest raw code crowded out and neither reported nor EMPTY. -/
theorem test_look_report :
    (lookSightings lead 0#6 ⟨0, 0, some [47, 9], 0#32, 0, 22⟩ ((List.range 9).map (fun n =>
      ⟨Fin.ofNat 48 (n + 1), BitVec.ofNat 10 (900 - 10 * n)⟩))).map (fun x => (x.tone, x.level)) =
      (List.range 8).map (fun n => (Fin.ofNat 48 (n + 1), some (900 - 10 * n))) ++ [(47, none)] := by decide +kernel

/-- A follower that has staged settings and counted accepted marks. -/
def followerStaged (marks : Nat) : Device := { follower with
  rounds := { follower.rounds with staged := staged.rounds.staged }
  follower := { follower.follower with helloCount := marks } }

theorem witness_MarkAccepted_settings : settled (followerStaged 0) = true ∧ (followerStaged 0).rounds.hold = false ∧
    live (followerStaged 0) (ofChannel .acknowledgment) = false ∧
    live (owing .acknowledgment (followerStaged 0)) (ofChannel .acknowledgment) = true ∧
    inWindow follower.iface.bounds (boardAddr follower 0x28) 8 = true ∧ follower.rounds.staged = none ∧
    16 ≤ (followerStaged 15).follower.helloCount + 1 ∧ (followerStaged 14).follower.helloCount + 1 < 16 ∧
    follower.rounds.leadState = .following := by decide

/-- R54, R118: a mark applies staged settings and notes its round; the sixteenth one pends a STEADY HELLO. -/
theorem test_mark_applies : ((markBody? mark).map (fun m => (acceptMark m (followerStaged 15)).rounds.applied)) =
      some (some (3#16, 9#32)) ∧
    ((markBody? mark).map (fun m => (acceptMark m (followerStaged 15)).follower.hello)) = some (some .steady) ∧
    ((markBody? mark).map (fun m => (acceptMark m (followerStaged 14)).follower.hello)) = some none := by decide +kernel

/-- Locations (0, 0, 0), (0, 0, 64) and (0, 14, 30) share index 0. -/
theorem test_fill_ways :
    (Area.cold.fillWay ⟨0, 0, 0⟩) = (0, false) ∧ ((Area.cold.fill ⟨0, 0, 0⟩ .nothing).fillWay ⟨0, 0, 64⟩) = (1, false) ∧
    (((Area.cold.fill ⟨0, 0, 0⟩ .nothing).fill ⟨0, 0, 64⟩ .nothing).fillWay ⟨0, 14, 30⟩) = (0, true) ∧
    ((((Area.cold.fill ⟨0, 0, 0⟩ .nothing).fill ⟨0, 0, 64⟩ .nothing).fill ⟨0, 14, 30⟩ .nothing).fillWay ⟨0, 0, 0⟩) =
      (1, true) := by decide +kernel

theorem witness_WalkReadDone_planError :
    planErrorOf (walking .slot) [2#8, 0#8, 2#8, 0x80#8] { JournalEntry.blank .planError with
      generation := 5#16, loc := ⟨3, 9, 17⟩, code := 2, circuit := 2, second := 2 } := by
  refine ⟨rfl, rfl, rfl, rfl, fun h => ?_, fun h => ?_, fun _ => by decide, fun h => ?_⟩ <;> cases h

/-- A LISTENING probe meets every law of 4.3 to 4.6, and its device the LTB's. -/
theorem witness_EveryStepKeeps_probes : startLaw (probing .listening .on lead) ∧ contextLaw (probing .listening .on lead) ∧
    ownerLaw (probing .listening .on lead) ∧ toneLaw (probing .listening .on lead) ∧
    pointLaw (probing .listening .on lead) ∧ stuckLaw (probing .listening .on lead) ∧
    verdictLaw (probing .listening .on lead) := by
  have one : ∀ r : Fin 16, (probing .listening .on lead).probes.records[r] =
      if r = 0 then some (probe .listening) else none := by decide
  have owned : ∀ c : Fin 8, (probing .listening .on lead).launch.contexts[c].owner = if c = 0 then some 0 else none := by
    decide
  have used : ∀ c : Fin 8, c ≠ 0 → (probing .listening .on lead).launch.contexts[c].state = .idle := by decide
  refine ⟨by decide, fun r p h _ => ?_, fun c r h => ?_, ⟨fun c h hn => ?_, fun b c hbc hb hc => ?_, by decide, by decide⟩,
    ⟨fun r p h _ => ?_, fun b c hbc hb hc => ?_, by decide, by decide⟩, by decide, by decide, by decide⟩
  · rw [one] at h
    split at h <;> cases h
    subst r
    exact ⟨by decide, by decide, by decide, .inr (.inl ⟨.inr rfl, by decide⟩), .inl ⟨by decide, by decide⟩,
      fun h => by cases h <;> contradiction, fun c hc hi => absurd (used c hc) hi⟩
  · rw [owned] at h
    split at h <;> cases h
    subst c
    exact ⟨probe .listening, by decide, by decide, by decide⟩
  · rw [owned] at hn
    split at hn
    · cases hn
    · exact absurd (used c ‹_›) h
  · by_cases b0 : b = 0
    · exact absurd (used c (fun c0 => hbc (b0.trans c0.symm))) hc
    · exact absurd (used b b0) hb
  · rw [one] at h
    split at h <;> cases h
    subst r
    exact ⟨by decide, fun _ => ⟨by decide, fun c hc hi => absurd (used c hc) hi⟩⟩
  · by_cases b0 : b = 0
    · exact absurd (used c (fun c0 => hbc (b0.trans c0.symm))) hc
    · exact absurd (used b b0) hb

theorem witness_EveryStepKeeps_areas : areaLaw (answered .nothing) ∧
    (answered .nothing).areas[(0 : Fin 8)].entries ≠ [] := by decide +kernel

/-! ### The writes, reads and STOPs a reaction brings -/

/-- A part whose every coalesced channel of interest is free, and one whose mark counter write is under way. -/
theorem witness_writes : canAccess lead = true ∧ canAccess follower = true ∧
    (∀ ch ∈ [Channel.shadow 7, .window 3, .peer 15, .markCounters, .linkCounters, .sightingCounters, .produced],
      live lead (ofChannel ch) = false ∧
      inWindow lead.iface.bounds (channelExtent ch lead).1 (channelExtent ch lead).2.length = true ∧
      live (owing ch lead) (ofChannel ch) = true) := by decide +kernel

/-- Slot 0 RUNNING with its verdict table at 0x4000. -/
def tabled (st : ProbeState) (c : ContextState) (d : Device) : Device :=
  (probing st c d).setSlot 0 { slot .running .none with desc := { Descriptor.cleared with verdictBase := 0x4000, count := 1 } }

theorem witness_evaluated : verdictWithheld 0 (tabled .grace .stopping scheduled) = false ∧
    inWindow (tabled .grace .stopping scheduled).iface.bounds (0x4000 + 64 * (probe .grace).circuit) 64 = true ∧
    inWindow (probing .grace .stopping lead).iface.bounds (0 + 64 * (probe .grace).circuit) 64 = false ∧
    verdictWithheld 0 (lead.setSlot 0 (slot .draining .memoryFault)) = true := by decide

theorem witness_sounding : sounding (probing .armed .on lead) (fun _ => True) 0 ∧
    sounding (probing .listening .on lead) (fun q => q.slot = 0) 0 ∧
    (probing .listening .on lead).launch.contexts[(0 : Fin 8)].state = .on :=
  ⟨⟨0, _, rfl, trivial, .inl rfl, rfl⟩, ⟨0, _, rfl, rfl, .inr rfl, rfl⟩, rfl⟩

/-- R168, R170: a probe's entry to EVALUATING writes 64 bytes at its circuit's place of the verdict table. -/
theorem test_verdict_is_written :
    (evaluateRecord 0 { probe .listening with circuit := 3 } (tabled .listening .on lead)).dma.inFlight.map
      (fun a => (a.addr, a.len, a.data.length)) = [(0x40C0, 64, 64)] := by decide +kernel

/-- R8, R66, R80: a halt voids a LISTENING probe and issues STOP for its context. -/
theorem test_halt_stops :
    (halt (probing .listening .on lead)).launch.issued = [.stop 4#8 (some 0)] ∧
    (halt (probing .listening .on lead)).launch.contexts[(0 : Fin 8)].state = .stopping := by decide +kernel

/-- R16, R17, R25: a SUBMIT taken writes the shadow and reads the 32-byte descriptor. -/
theorem test_submit_reads_descriptor :
    (judgeRequest (request 1#8) lead 0).dma.inFlight.map (fun a => (a.kind, a.addr, a.len)) =
      [(.channelWrite (.shadow 0) false false, 0x1620, 16), (.descriptorRead 0, 0x1600, 32)] := by decide +kernel

/-- A lead whose STOP for point 4, context 0, waits behind another command. -/
def stopWaits (c : ContextState) : Device :=
  let d := (probing .grace c lead).setContext 0 ⟨c, some 0, 4#8, 6, none⟩
  { d with launch := { d.launch with sending := some .stopAll, waiting := [.stop 4#8 (some 0)] } }

/-- R66 with log entry 39: a late NACK withdraws the STOP its context has waiting. -/
theorem test_late_nack_withdraws_the_stop :
    (stopConfirmed 0 (stopWaits .stopping)).launch.waiting = [] ∧
    (commandDone (commandDone (stopWaits .stopping))).launch.contexts[(0 : Fin 8)].timer = some 5 := by decide +kernel

/-- R66 with log entry 39: a STOP being sent when a NACK comes is sent whole, and starts no timer in the context. -/
theorem test_late_nack_leaves_the_stop_being_sent :
    (stopConfirmed 0 (commandDone (stopWaits .stopping))).launch.sending = some (.stop 4#8 none) ∧
    (commandDone (stopConfirmed 0 (commandDone (stopWaits .stopping)))).launch.contexts[(0 : Fin 8)].timer = none := by
  decide +kernel

theorem witness_CommandSent_ended : (stopConfirmed 0 (commandDone (stopWaits .stopping))).launch.sending =
      some (.stop 4#8 none) ∧
    awaitsReply (stopConfirmed 0 (commandDone (stopWaits .stopping))) 0 (.stop 4#8 none) = false := by decide +kernel

/-- Each case of R66's law: a command waiting, being sent, and sent with its reply awaited. -/
theorem witness_busLaw : busLaw (stopWaits .stopping) ∧ busLaw (commandDone (stopWaits .stopping)) ∧
    busLaw (commandDone (commandDone (stopWaits .stopping))) ∧ outstanding (stopWaits .stopping) 0 = [.stop 4#8 (some 0)] ∧
    outstanding (commandDone (commandDone (stopWaits .stopping))) 0 = [] ∧ ¬ busLaw (stopWaits .idle) := by decide +kernel

/-- R65 with log entry 43: a NACK that idles a context a GRACE probe owns lowers the contexts in use that R62 counts, and the
context is not free. -/
theorem test_nack_in_grace_lowers_use :
    busyContexts (probing .grace .stopping lead) = 1 ∧
    busyContexts (contextNack 0 (probing .grace .stopping lead)) = 0 ∧
    (contextNack 0 (probing .grace .stopping lead)).launch.contexts[(0 : Fin 8)].free = false := by decide +kernel

/-- R101 with log entry 40: a node that ceases to be configured keeps its hello state. -/
theorem test_ceased_peer_keeps_hello :
    ({ Peer.cold with configured := true, hello := some .steady, silence := 3, state := .present } : Peer).apply false 0 =
      { Peer.cold with hello := some .steady, silence := 3, state := .absent } := by decide

/-- R144 with log entry 41: a round exactly 2^31 from the first listening round is earlier, and only the rounds from it to the
last pass. -/
theorem test_distance_half :
    outsideWindow { probe .listening with listenFrom := some 4#32 } 0x80000004#32 = true ∧
    outsideWindow { probe .listening with listenFrom := some 4#32 } 3#32 = true ∧
    outsideWindow { probe .listening with listenFrom := some 4#32 } 4#32 = false ∧
    outsideWindow { probe .listening with listenFrom := some 4#32 } 5#32 = true := by decide

/-- R61 with log entry 42: a fetch read that fails in a drain for ABORTED or PLAN_ERROR makes the reason MEMORY_FAULT. -/
theorem test_fetch_fails_in_drain :
    (failAccess (.circuitFetch 0 0 1) (draining .planError)).slots[(0 : Fin 8)].reason = .memoryFault ∧
    (failAccess (.circuitFetch 0 0 1) (draining .complete)).slots[(0 : Fin 8)].reason = .complete := by decide +kernel

/-- A start whose header has been read and whose request area read is in flight. -/
def requesting (h : List Byte) : Device :=
  awaiting .startRequestRead { lead with
    iface := { lead.iface with state := .stopped, start := some ⟨.requestRead, h, []⟩ } }

theorem witness_StartRequestReadDone_modes :
    awaited (requesting header) (access .startRequestRead) isStartRequestRead ∧
    (identity? header).map (·.mode) = some .lead ∧ (identity? followHeader).map (·.mode) = some .follow ∧
    live (dropAccess (requesting header) 7) (ofChannel (.peer 15)) = false ∧
    inWindow lead.iface.bounds (boardAddr lead (0x308 + 32 * 15)) 20 = true ∧
    lead.rounds.applied = none ∧ scheduled.rounds.applied = none := by decide

/-- R6, R105: step 5 of a LEAD start issues the header write and sixteen peer writes, of a FOLLOW start the header write alone. -/
theorem test_step_five :
    (startRequestTaken ⟨.requestRead, header, []⟩ [] (requesting header)).dma.inFlight.length = 18 ∧
    (startRequestTaken ⟨.requestRead, followHeader, []⟩ [] (requesting followHeader)).dma.inFlight.length = 2 := by
  decide +kernel

/-- A fresh start with two of its shadow writes in flight. -/
def twoShadows : Device :=
  { written .shadowWrites (.startShadowWrite 7) true with dma := { Dma.cold with
      inFlight := [access (.startShadowWrite 7), { access (.startShadowWrite 6) with tag := 8 }], nextTag := 9 } }

theorem witness_StartCompletes_notLast : twoShadows.iface.start = some ⟨.shadowWrites, header, []⟩ ∧
    awaited twoShadows (access (.startShadowWrite 7)) isStartShadow ∧
    live (dropAccess twoShadows 7) isStartShadow = true := by decide

/-- A lead with a scan read in flight, one more pending and slot 7's shadow out of date. -/
def scanning : Device :=
  awaiting .scanRead { lead.setSlot 7 { slot .running .none with verdicts := 1 } with
    iface := { lead.iface with scanPending := true } }

theorem witness_ScanReadDone_writes : awaited scanning (access .scanRead) isScanRead ∧ scanning.iface.scanPending = true ∧
    canAccess scanning = true ∧ inWindow scanning.iface.bounds (boardAddr scanning 0x100) 112 = true ∧
    scanning.slots[(7 : Fin 8)].verdicts ≠ scanning.slots[(7 : Fin 8)].shadowVerdicts ∧
    scanning.rounds.requested ≠ some (areaSequence []) ∧ live (dropAccess scanning 7) isSettingsRead = false ∧
    live (dropAccess scanning 7) isConsumedRead = false ∧ live (awaiting .consumedRead lead) isConsumedRead = true ∧
    live (awaiting (.settingsRead 3#16) lead) isSettingsRead = true ∧
    inWindow scanning.iface.bounds (boardAddr scanning 0x100) 1024 = true ∧
    inWindow scanning.iface.bounds (boardAddr scanning 0x18) 4 = true := by decide

/-- R14, R15, R53, R175: a scan completion issues the settings read, the shadow write, the consumed read and the pending scan. -/
theorem test_scan_brings :
    (scanTaken [] (dropAccess scanning 7)).dma.inFlight.map (fun a => (a.kind, a.addr)) =
      [(.settingsRead 0#16, 0x1100), (.channelWrite (.shadow 7) false false, 0x1D20), (.consumedRead, 0x1018),
       (.scanRead, 0x1100)] := by decide +kernel

theorem witness_RequestsJudged_submit : lead.slots[(0 : Fin 8)].state = .free ∧ lead.iface.mode ≠ some .follow ∧
    inWindow lead.iface.bounds (boardAddr lead (0x600 + 0x100 * 0)) 32 = true ∧ follower.iface.mode = some .follow ∧
    inWindow (some ⟨0x1000, 0x600⟩) (0x1000 + (0x600 + 0x100 * 0)) 32 = false ∧
    SlotState.drainable .suspended = true := by decide

theorem witness_DrainingEntry_stage :
    ((lead.setSlot 0 (slot .running .none)).setPlace 0 0 (.fetched 0 circuit)).sched[(0 : Fin 8)].stage[(0 : Fin 2)] =
      .fetched 0 circuit ∧
    ((lead.setSlot 0 (slot .running .none)).setPlace 0 1 (.fetching 0)).sched[(0 : Fin 8)].stage[(1 : Fin 2)] =
      .fetching 0 := by decide

theorem witness_SettingsReadDone_pending :
    awaited (awaiting (.settingsRead 3#16) { lead with rounds := { lead.rounds with requested := some 4#16, readPending := true } })
      (access (.settingsRead 3#16)) isSettingsRead ∧ canAccess lead = true ∧ lead.rounds.awaitFirst = false ∧
    inWindow lead.iface.bounds (boardAddr lead 0x100) 1024 = true := by decide

theorem witness_ConsumedReadDone_pending :
    awaited (awaiting .consumedRead { lead with journal := { lead.journal with readPending := true } }) (access .consumedRead)
      isConsumedRead ∧ lead.running = true ∧ lead.journal.readPending = false ∧
    inWindow lead.iface.bounds (boardAddr lead 0x18) 4 = true := by decide

theorem witness_StagedSettingsApply_ceases :
    ({ Peer.cold with configured := true, state := .present } : Peer).configured = true ∧ lead.iface.mode = some .lead ∧
    peerStatusBytes (({ Peer.cold with configured := true, state := .present } : Peer).apply false 0) ≠
      peerStatusBytes { Peer.cold with configured := true, state := .present } := by decide +kernel

/-- A probe that has, and one that lacks, the one look its one hop needs. -/
theorem witness_WalkReadDone_look :
    (probe .listening).record.hops[(0 : Nat)]? = some ⟨⟨1, 2, 3⟩, .through, true, -100, 10, 10, 50, 50⟩ ∧
    (probe .listening).accums[(0 : Nat)]? = some Accumulator.empty ∧
    lookIgnored Accumulator.empty (probe .listening).record.looks { seen 4#32 with loc := ⟨1, 2, 3⟩ } = false ∧
    ({ probe .listening with accums := [Accumulator.empty.accept ⟨⟨1, 2, 3⟩, .through, true, -100, 10, 10, 50, 50⟩ 10
      (seen 4#32)] }).complete = true ∧ (probe .listening).complete = false := by decide +kernel

end Sys2Proof.Tests
end

/-! ## The period and guard in force (O41, R39)

Which commands can change the settings in force. Every operation either leaves the round timer alone (`_rounds`), or at least
what an application of staged settings reads and writes of it (`_copies`), or may apply the staged copy (`_mayApply`);
`exec_mayApply` puts the commands together. -/

namespace Sys2Proof.Machine.SettingsInForce

/-! ### The part of the round timer an application acts on -/

/-- What an application of staged settings reads and writes: the settings in force, the staged copy, the applied sequence with
its round, and the round number. -/
def copies (r : Rounds) : Option Settings × Option (Half × Settings) × Option (Half × Round) × Round :=
  (r.inForce, r.staged, r.applied, r.number)

theorem copies_eq_iff (r q : Rounds) :
    copies r = copies q ↔ r.inForce = q.inForce ∧ r.staged = q.staged ∧ r.applied = q.applied ∧ r.number = q.number := by
  simp [copies]

/-! ### Accesses discarded or dropped leave the round timer alone -/

@[simp] theorem discardWhere_rounds (p : Access → Bool) (d : Device) : (discardWhere p d).rounds = d.rounds := rfl
@[simp] theorem discardAll_rounds (d : Device) : (discardAll d).rounds = d.rounds := rfl
@[simp] theorem dropAccess_rounds (d : Device) (tag : Nat) : (dropAccess d tag).rounds = d.rounds := rfl
@[simp] theorem dropStartAccesses_rounds (d : Device) : (dropStartAccesses d).rounds = d.rounds := rfl
@[simp] theorem releaseStartAccesses_rounds (d : Device) : (releaseStartAccesses d).rounds = d.rounds := rfl

/-! ### Halts and FAULTED stop the rounds and keep the settings (R8, R11) -/

@[simp] theorem haltBlocks_copies (d : Device) : copies (haltBlocks d).rounds = copies d.rounds := by
  simp [haltBlocks, emptyQueue, stopRounds, copies]

@[simp] theorem halt_copies (d : Device) : copies (halt d).rounds = copies d.rounds := by
  simp [halt]

@[simp] theorem enterFaulted_copies (reason : FaultReason) (d : Device) :
    copies (enterFaulted reason d).rounds = copies d.rounds := by
  unfold enterFaulted
  split
  · rfl
  · simp

/-! ### Slots -/

@[simp] theorem rejectSlot_rounds (n : Fin 8) (reason : Reason) (d : Device) :
    (rejectSlot n reason d).rounds = d.rounds := by
  simp [rejectSlot]

@[simp] theorem placeCampaign_rounds (n : Fin 8) (d : Device) : (placeCampaign n d).rounds = d.rounds := by
  unfold placeCampaign
  (repeat' split) <;> simp

@[simp] theorem validated_rounds (n : Fin 8) (r : ReadResult) (d : Device) : (validated n r d).rounds = d.rounds := by
  unfold validated
  cases r with
  | failed => simp
  | bytes b =>
    dsimp only
    split
    · simp
    · simp [latchDescriptor]

@[simp] theorem writeSummary_rounds (n : Fin 8) (d : Device) : (writeSummary n d).rounds = d.rounds := by
  simp [writeSummary]

@[simp] theorem notRunFailed_rounds (n : Fin 8) (d : Device) : (notRunFailed n d).rounds = d.rounds := by
  simp [notRunFailed]

@[simp] theorem notRunLanded_rounds (n : Fin 8) (c : Nat) (d : Device) : (notRunLanded n c d).rounds = d.rounds := by
  simp [notRunLanded]

@[simp] theorem summaryLanded_rounds (n : Fin 8) (d : Device) : (summaryLanded n d).rounds = d.rounds := by
  simp [summaryLanded]

@[simp] theorem shadowLanded_rounds (n : Fin 8) (closing announces : Bool) (d : Device) :
    (shadowLanded n closing announces d).rounds = d.rounds := by
  unfold shadowLanded
  cases closing <;> cases announces <;> simp

@[simp] theorem channelLanded_rounds (k : AccessKind) (d : Device) : (channelLanded k d).rounds = d.rounds := by
  unfold channelLanded
  split <;> simp

@[simp] theorem freeIfAny_rounds (r : Option (Fin 16)) (d : Device) : (freeIfAny r d).rounds = d.rounds := by
  cases r <;> simp [freeIfAny]

@[simp] theorem completeIfDone_rounds (n : Fin 8) (d : Device) : (completeIfDone n d).rounds = d.rounds := by
  unfold completeIfDone
  split <;> simp

@[simp] theorem verdictLanded_rounds (n : Fin 8) (g : Half) (c : Nat) (r : Option (Fin 16)) (code : Fin 12)
    (m : Option Int) (d : Device) : (verdictLanded n g c r code m d).rounds = d.rounds := by
  unfold verdictLanded
  dsimp only
  split <;> simp

@[simp] theorem verdictFailed_rounds (n : Fin 8) (r : Option (Fin 16)) (d : Device) :
    (verdictFailed n r d).rounds = d.rounds := by
  simp [verdictFailed]

@[simp] theorem sweepArea_rounds (n : Fin 8) (d : Device) : (sweepArea n d).rounds = d.rounds := by
  unfold sweepArea
  dsimp only
  (repeat' split) <;> simp

@[simp] theorem circuitFetched_rounds (n : Fin 8) (p : Fin 2) (c : Nat) (b : List Byte) (d : Device) :
    (circuitFetched n p c b d).rounds = d.rounds := by
  unfold circuitFetched planErrorAtFetch
  dsimp only
  (repeat' split) <;> simp

@[simp] theorem actOnRequest_rounds (n : Fin 8) (k : RequestKind) (d : Device) :
    (actOnRequest n k d).rounds = d.rounds := by
  cases k with
  | submit => simp only [actOnRequest, takeSubmit, readDescriptor]; split <;> simp
  | abort => simp [actOnRequest]
  | release => simp [actOnRequest, takeRelease]
  | other => rfl

@[simp] theorem judgeRequest_rounds (area : List Byte) (n : Fin 8) (d : Device) :
    (judgeRequest area d n).rounds = d.rounds := by
  unfold judgeRequest
  dsimp only
  (repeat' split) <;> simp

@[simp] theorem progressShadow_rounds (n : Fin 8) (d : Device) : (progressShadow d n).rounds = d.rounds := by
  unfold progressShadow
  split <;> simp

/-! ### Walks (R122 to R131) -/

@[simp] theorem endWithAnswer_rounds (w : Fin 4) (k : Walk) (ans : Answer) (d : Device) :
    (endWithAnswer w k ans d).rounds = d.rounds := by
  simp only [endWithAnswer, releaseWalk_keeps]
  split <;> rfl

@[simp] theorem endWithFault_rounds (w : Fin 4) (k : Walk) (f : PlanFault) (d : Device) :
    (endWithFault w k f d).rounds = d.rounds := by
  simp [endWithFault]

@[simp] theorem endWithReadFault_rounds (w : Fin 4) (k : Walk) (d : Device) :
    (endWithReadFault w k d).rounds = d.rounds := by
  simp [endWithReadFault]

@[simp] theorem advanceWalk_rounds (w : Fin 4) (k : Walk) (b : List Byte) (d : Device) :
    (advanceWalk w k b d).rounds = d.rounds := by
  unfold advanceWalk judgeCircuit
  (repeat' split) <;> simp

@[simp] theorem walkRead_rounds (w : Fin 4) (r : ReadResult) (d : Device) : (walkRead w r d).rounds = d.rounds := by
  unfold walkRead
  (repeat' split) <;> simp

/-! ### What a step settles -/

@[simp] theorem failAccess_copies (k : AccessKind) (d : Device) : copies (failAccess k d).rounds = copies d.rounds := by
  unfold failAccess
  split <;> simp

@[simp] theorem settleSteps_copies (n : Nat) (d : Device) : copies (settleSteps n d).rounds = copies d.rounds := by
  induction n generalizing d with
  | zero => rfl
  | succ n ih =>
    unfold settleSteps
    split
    · simp [ih]
    · split <;> simp [ih]

@[simp] theorem settle_copies (d : Device) : copies (settle d).rounds = copies d.rounds := by
  simp [settle]

/-! ### Launch bus -/

@[simp] theorem startReplyTimer_rounds (c : BusCommand) (d : Device) : (startReplyTimer c d).rounds = d.rounds := by
  unfold startReplyTimer
  (repeat' split) <;> simp

@[simp] theorem commandDone_rounds (d : Device) : (commandDone d).rounds = d.rounds := by
  unfold commandDone
  dsimp only
  (repeat' split) <;> simp

@[simp] theorem stickContext_rounds (c : Fin 8) (d : Device) : (stickContext c d).rounds = d.rounds := by
  unfold stickContext
  dsimp only
  (repeat' split) <;> simp

@[simp] theorem clearStuck_rounds (point : Byte) (d : Device) : (clearStuck point d).rounds = d.rounds := by
  unfold clearStuck
  split <;> simp

@[simp] theorem stuckReply_copies (point : Byte) (d : Device) : copies (stuckReply point d).rounds = copies d.rounds := by
  unfold stuckReply
  split <;> simp

/-- A reaction of a context's owner that leaves the round timer alone does so also where the context has no owner. -/
theorem withOwner_rounds (c : Fin 8) (f : Fin 16 → Probe → Device → Device) (d : Device)
    (h : ∀ r p, (f r p d).rounds = d.rounds) : (withOwner c f d).rounds = d.rounds := by
  unfold withOwner
  (repeat' split) <;> simp [h]

@[simp] theorem contextOn_rounds (c : Fin 8) (d : Device) : (contextOn c d).rounds = d.rounds := by
  unfold contextOn
  split
  · split
    · rw [withOwner_rounds _ _ _ (by simp)]
      simp
    · simp
  · rfl

@[simp] theorem contextOff_rounds (c : Fin 8) (d : Device) : (contextOff c d).rounds = d.rounds := by
  unfold contextOff
  split <;> simp

@[simp] theorem contextNack_rounds (c : Fin 8) (d : Device) : (contextNack c d).rounds = d.rounds := by
  unfold contextNack
  split
  · rw [withOwner_rounds _ _ _ (by simp)]
    simp
  · simp
  · rfl

@[simp] theorem contextFault_rounds (c : Fin 8) (d : Device) : (contextFault c d).rounds = d.rounds := by
  unfold contextFault
  split
  · rw [withOwner_rounds _ _ _ (by simp)]
    simp
  · rfl

@[simp] theorem replyTimeout_rounds (c : Fin 8) (d : Device) : (replyTimeout c d).rounds = d.rounds := by
  unfold replyTimeout
  split
  · rw [withOwner_rounds _ _ _ (by simp)]
    simp
  · simp
  · rfl

theorem onReply_copies (point : Byte) (f : Fin 8 → Device → Device) (u : Device → Device) (d : Device)
    (hf : ∀ c, (f c d).rounds = d.rounds) (hu : copies (u d).rounds = copies d.rounds) :
    copies (onReply point f u d).rounds = copies d.rounds := by
  unfold onReply
  split
  · rw [settle_copies, hf]
  · exact hu

/-! ### Link, looks and journal -/

@[simp] theorem issueWatches_rounds (d : Device) : (issueWatches d).rounds = d.rounds := by
  unfold issueWatches
  refine (foldl_keeps (·.rounds) _ (fun d p => ?_) _ _).trans rfl
  unfold placeWatchList
  dsimp only
  split <;> rfl

@[simp] theorem watchesIssued_copies (d : Device) : copies (watchesIssued d).rounds = copies d.rounds := by
  simp [watchesIssued, copies]

@[simp] theorem countArrival_rounds (p : Fin 16) (d : Device) : (countArrival p d).rounds = d.rounds := by
  simp [countArrival]

@[simp] theorem takeSighting_rounds (p : Fin 16) (b : SightingBody) (d : Device) :
    (takeSighting p b d).rounds = d.rounds := by
  unfold takeSighting
  dsimp only
  split <;> simp

@[simp] theorem takeHello_rounds (p : Fin 16) (b : HelloBody) (d : Device) : (takeHello p b d).rounds = d.rounds := by
  simp [takeHello]

@[simp] theorem handOver_rounds (d : Device) : (handOver d).rounds = d.rounds := by
  unfold handOver leadHandOver followerHandOver
  (repeat' split) <;> rfl

@[simp] theorem planWatches_rounds (ws : List Watch) (d : Device) : (ws.foldl planWatch d).rounds = d.rounds :=
  foldl_keeps (·.rounds) _ (by simp) _ _

@[simp] theorem takeWatchList_rounds (round : Round) (ws : List Watch) (d : Device) :
    (takeWatchList round ws d).rounds = d.rounds := by
  unfold takeWatchList
  (repeat' split) <;> simp

@[simp] theorem openLooks_copies (t : Nat) (d : Device) : copies (openLooks t d).rounds = copies d.rounds := by
  simp [openLooks, copies]

@[simp] theorem lookOpened_copies (d : Device) : copies (lookOpened d).rounds = copies d.rounds := by
  unfold lookOpened
  split <;> simp

@[simp] theorem lookEnded_copies (i : Fin 4) (found : List FoundTone) (d : Device) :
    copies (lookEnded i found d).rounds = copies d.rounds := by
  unfold lookEnded
  split <;> simp

@[simp] theorem lookDeadlineTaken_copies (d : Device) : copies (lookDeadlineTaken d).rounds = copies d.rounds := by
  unfold lookDeadlineTaken deadlinePassed
  split <;> simp [copies]

@[simp] theorem readConsumed_rounds (d : Device) : (readConsumed d).rounds = d.rounds := by
  unfold readConsumed
  split <;> simp

@[simp] theorem consumedTaken_rounds (v : Word) (d : Device) : (consumedTaken v d).rounds = d.rounds := by
  unfold consumedTaken
  dsimp only
  split <;> simp

@[simp] theorem journalWritten_rounds (d : Device) : (journalWritten d).rounds = d.rounds := by
  unfold journalWritten
  dsimp only
  split <;> simp

/-! ### Scans and starts -/

@[simp] theorem issueScan_rounds (d : Device) : (issueScan d).rounds = d.rounds := by
  simp [issueScan]

@[simp] theorem requestScan_rounds (d : Device) : (requestScan d).rounds = d.rounds := by
  unfold requestScan
  split <;> simp

@[simp] theorem takeSequence_copies (area : List Byte) (d : Device) :
    copies (takeSequence area d).rounds = copies d.rounds := by
  unfold takeSequence readSettings
  dsimp only
  (repeat' split) <;> simp [copies]

@[simp] theorem scanComplete_copies (area : List Byte) (d : Device) :
    copies (scanComplete area d).rounds = copies d.rounds := by
  have shadows : ∀ d : Device, ((List.finRange 8).foldl progressShadow d).rounds = d.rounds :=
    foldl_keeps (·.rounds) _ (by simp) _
  have requests : ∀ d : Device, ((List.finRange 8).foldl (judgeRequest area) d).rounds = d.rounds :=
    foldl_keeps (·.rounds) _ (by simp) _
  simp [scanComplete, shadows, requests]

@[simp] theorem scanTaken_copies (area : List Byte) (d : Device) :
    copies (scanTaken area d).rounds = copies d.rounds := by
  unfold scanTaken
  dsimp only
  split <;> simp

@[simp] theorem beginStart_copies (d : Device) : copies (beginStart d).rounds = copies d.rounds := by
  unfold beginStart
  split <;> simp

@[simp] theorem startHeaderTaken_copies (b : List Byte) (d : Device) :
    copies (startHeaderTaken b d).rounds = copies d.rounds := by
  unfold startHeaderTaken
  (repeat' split) <;> simp

@[simp] theorem startRequestTaken_rounds (st : Start) (b : List Byte) (d : Device) :
    (startRequestTaken st b d).rounds = d.rounds := by
  have adopt : ∀ d : Device, (adoptSequences b d).rounds = d.rounds := fun d => by
    unfold adoptSequences
    split <;> rfl
  have peers : ∀ (m : Mode) (d : Device), (startPeerWrites m d).rounds = d.rounds := fun m d => by
    unfold startPeerWrites
    split
    · exact foldl_keeps (·.rounds) _ (by simp) _ _
    · rfl
  simp [startRequestTaken, adopt, peers]

@[simp] theorem startMode1_copies (m : Mode) (d : Device) : copies (startMode1 m d).rounds = copies d.rounds := by
  unfold startMode1
  split
  · simp [startLeadLink]
  · simp [startFollower, copies]

/-! ### Applications of the staged copy (R39, R54) -/

/-- The staged copy of one device has been applied in another: the settings in force are derived from it, its sequence is noted
with the round number, and nothing is staged. -/
def Applies (d e : Device) : Prop :=
  ∃ (seq : Half) (x : Settings), d.rounds.staged = some (seq, x) ∧ e.rounds.inForce = some x.derived ∧
    e.rounds.staged = none ∧ e.rounds.applied = some (seq, e.rounds.number)

/-- The settings in force have changed by an application of the staged copy, if at all. -/
def MayApply (d e : Device) : Prop := e.rounds.inForce = d.rounds.inForce ∨ Applies d e

theorem MayApply.of_copies {d e : Device} (h : copies e.rounds = copies d.rounds) : MayApply d e :=
  .inl ((copies_eq_iff _ _).1 h).1

theorem MayApply.of_rounds {d e : Device} (h : e.rounds = d.rounds) : MayApply d e := .of_copies (by rw [h])

/-- What follows an application and leaves the settings alone does not undo it. -/
theorem MayApply.after {d e f : Device} (h : MayApply d e) (k : copies f.rounds = copies e.rounds) : MayApply d f := by
  obtain ⟨force, stage, applied, number⟩ := (copies_eq_iff _ _).1 k
  unfold MayApply Applies
  rw [force, stage, applied, number]
  exact h

theorem MayApply.settled {d e : Device} (h : MayApply d e) : MayApply d (settle e) := h.after (settle_copies e)

/-- What an application finds staged was staged before a reaction that leaves the copies alone, the round number apart. -/
theorem MayApply.before {c d e : Device} (h : MayApply d e) (force : d.rounds.inForce = c.rounds.inForce)
    (stage : d.rounds.staged = c.rounds.staged) : MayApply c e := by
  unfold MayApply Applies
  rw [← force, ← stage]
  exact h

theorem MayApply.start {c d e : Device} (h : MayApply d e) (k : copies d.rounds = copies c.rounds) : MayApply c e :=
  h.before ((copies_eq_iff _ _).1 k).1 ((copies_eq_iff _ _).1 k).2.1

/-- An application changes of the round timer what R54 names and no more. -/
theorem applyStaged_rounds (d : Device) : (applyStaged d).rounds = d.rounds ∨
    ∃ (seq : Half) (x : Settings), d.rounds.staged = some (seq, x) ∧ (applyStaged d).rounds = { d.rounds with
      inForce := some x.derived, applied := some (seq, d.rounds.number), staged := none } := by
  unfold applyStaged
  split
  · exact .inl rfl
  · rename_i seq x hs
    split
    · exact .inr ⟨seq, x, hs, by simp⟩
    · exact .inl rfl

theorem applyStaged_mayApply (d : Device) : MayApply d (applyStaged d) := by
  rcases applyStaged_rounds d with h | ⟨seq, x, hs, h⟩
  · exact .of_rounds h
  · exact .inr ⟨seq, x, hs, by rw [h], by rw [h], by rw [h]⟩

/-- Nothing staged, nothing applied. -/
theorem applyStaged_none {d : Device} (h : d.rounds.staged = none) : applyStaged d = d := by
  simp [applyStaged, h]

theorem applyStaged_phase (d : Device) : (applyStaged d).rounds.phase = d.rounds.phase := by
  rcases applyStaged_rounds d with h | ⟨_, _, _, h⟩ <;> rw [h]

/-! ### Round starts -/

@[simp] theorem scheduleRound_copies (d : Device) : copies (scheduleRound d).rounds = copies d.rounds := rfl

/-- The lead's ROUND_START schedules by what is in force after the application (R42, R43). -/
theorem leadRoundStart_rounds (d : Device) : (leadRoundStart d).rounds =
    (scheduleRound (dropPlan (applyStaged { d with rounds := { d.rounds with number := d.rounds.number + 1#32 } }))).rounds := by
  simp [leadRoundStart]

theorem leadRoundStart_mayApply (d : Device) : MayApply d (leadRoundStart d) :=
  ((applyStaged_mayApply { d with rounds := { d.rounds with number := d.rounds.number + 1#32 } }).before rfl rfl).after
    (by rw [leadRoundStart_rounds]; simp)

theorem firstRound_mayApply (d : Device) : MayApply d (firstRound d) := by
  unfold firstRound
  split
  · exact leadRoundStart_mayApply d
  · exact .of_rounds rfl

theorem activateLead_mayApply (d : Device) : MayApply d (activateLead d) := by
  unfold activateLead
  split
  · exact leadRoundStart_mayApply d
  · exact (firstRound_mayApply _).before rfl rfl

/-- At a completed settings read the copy it brought is the one that may be applied (R41, R53). -/
theorem settingsTaken_mayApply (seq : Half) (b : List Byte) (d : Device) :
    MayApply { d with rounds := { d.rounds with staged := some (seq, settingsOf b) } } (settingsTaken seq b d) := by
  unfold settingsTaken readSettings
  dsimp only
  split
  · exact (firstRound_mayApply _).before (by simp) (by simp)
  · exact firstRound_mayApply _

@[simp] theorem endFollowerRound_keeps (d : Device) :
    (endFollowerRound d).rounds = d.rounds ∧ (endFollowerRound d).now = d.now := by
  unfold endFollowerRound
  split <;> simp

/-- An accepted mark takes its own round, period and guard and then applies the staged copy (R48, R54). -/
theorem acceptMark_rounds (m : MarkBody) (d : Device) : ∃ y : Device,
    (acceptMark m d).rounds = (applyStaged y).rounds ∧ y.rounds = { d.rounds with
      number := m.round, leadState := .following, lastMark := some ⟨d.now, m.period, m.guardTime⟩
      phase := .scheduled (d.now + m.guardTime) (d.now + m.period) } := by
  simp only [acceptMark, commonRoundStart_keeps]
  exact ⟨_, rfl, by simp⟩

theorem acceptMark_mayApply (m : MarkBody) (d : Device) : MayApply d (acceptMark m d) := by
  obtain ⟨y, h, hy⟩ := acceptMark_rounds m d
  exact ((applyStaged_mayApply y).before (by rw [hy]) (by rw [hy])).after (by rw [h])

theorem takeMark_mayApply (source : Fin 16) (m : MarkBody) (d : Device) : MayApply d (takeMark source m d) := by
  unfold takeMark
  split
  · exact .of_copies (by simp [ignoreForeign, journalMark, copies])
  · split
    · exact .of_copies (by simp [ignoreForeign, journalMark, copies])
    · split
      · exact .of_copies (by simp [ignoreTooClose, journalMark, copies])
      · exact acceptMark_mayApply m d

@[simp] theorem loseLead_copies (d : Device) : copies (loseLead d).rounds = copies d.rounds := by
  simp [loseLead, copies]

/-! ### Frames: of all of them only a mark may apply the staged copy (R48, R98 to R100) -/

@[simp] theorem countMalformed_rounds (kind : Nat) (source : Byte) (f : FrameFault) (d : Device) :
    (countMalformed kind source f d).rounds = d.rounds := by
  unfold countMalformed countMalformedArrival
  dsimp only
  (repeat' split) <;> simp

theorem takeRunning_mayApply (kind : Nat) (source : Byte) (toAll : Bool) (body : List Byte) (d : Device) :
    MayApply d (takeRunning kind source toAll body d) := by
  unfold takeRunning
  split
  · exact .of_rounds (by simp [takeMalformed])
  · rename_i m _
    cases m with
    | mark source body => exact takeMark_mayApply source body d
    | watchList round entries => exact .of_rounds (takeWatchList_rounds round entries d)
    | sighting source body => exact .of_rounds (takeSighting_rounds source body d)
    | hello source body => exact .of_rounds (takeHello_rounds source body d)

@[simp] theorem takeStopped_rounds (kind : Nat) (source : Byte) (d : Device) :
    (takeStopped kind source d).rounds = d.rounds := by
  unfold takeStopped
  (repeat' split) <;> simp

theorem receive_mayApply (frame : List Byte) (d : Device) : MayApply d (receive frame d) := by
  unfold receive takeFrame
  split
  · split
    · exact .of_rounds rfl
    · split
      · exact .of_rounds rfl
      · split
        · exact takeRunning_mayApply _ _ _ _ d
        · split
          · exact .of_rounds (takeStopped_rounds _ _ d)
          · exact .of_rounds rfl
        · exact .of_rounds rfl
  · exact .of_rounds rfl

/-! ### Starts -/

theorem startMode2_mayApply (m : Mode) (d : Device) : MayApply d (startMode2 m d) := by
  unfold startMode2
  split
  · have resumed : ((List.finRange 8).foldl resumeAtStart d).rounds = d.rounds :=
      foldl_keeps (·.rounds) _ (fun d n => by unfold resumeAtStart; split <;> simp) _ _
    exact (activateLead_mayApply _).start (by rw [resumed])
  · exact .of_rounds (foldl_keeps (·.rounds) _ (fun d n => by unfold drainAtFollowStart; split <;> simp) _ _)

theorem completeStart_mayApply (st : Start) (d : Device) : MayApply d (completeStart st d) := by
  unfold completeStart
  split
  · exact .of_rounds rfl
  · refine (startMode2_mayApply _ _).start ?_
    have windows : ∀ d : Device, ((List.finRange 4).foldl (fun d w => owe (.window w) d) d).rounds = d.rounds :=
      foldl_keeps (·.rounds) _ (by simp) _
    simp [windows, enterRunning]

theorem startHeaderWritten_mayApply (st : Start) (d : Device) : MayApply d (startHeaderWritten st d) := by
  unfold startHeaderWritten
  split
  · exact .of_rounds (foldl_keeps (·.rounds) _ (by simp) _ _)
  · exact completeStart_mayApply st d

theorem startShadowWritten_mayApply (st : Start) (d : Device) : MayApply d (startShadowWritten st d) := by
  unfold startShadowWritten
  split
  · exact .of_rounds rfl
  · exact completeStart_mayApply st d

theorem withStart_mayApply {f : Start → Device → Device} (h : ∀ st d, MayApply d (f st d)) (d : Device) :
    MayApply d (withStart f d) := by
  unfold withStart
  split
  · exact h _ d
  · exact .of_rounds rfl

/-! ### Timers, completions and the register window -/

theorem settleAt_mayApply {f : Nat → Device → Device} (h : ∀ t d, MayApply d (f t d)) (timer : Option Nat) (d : Device) :
    MayApply d (settleAt timer f d) := by
  unfold settleAt atTimer
  split
  · rename_i t
    exact ((h t (d.advance t)).start rfl).settled
  · exact .of_rounds rfl

/-- A completion may apply the staged copy where its action may; a discarded or failed one applies nothing. -/
theorem complete_mayApply {act : AccessKind → Device → Device} (h : ∀ k d, MayApply d (act k d)) (tag : Nat)
    (sel : AccessKind → Bool) (ok : Bool) (s : State) : MayApply s.dev (complete tag sel ok act s).dev := by
  unfold complete completed
  split
  · exact .of_rounds rfl
  · rename_i a _
    dsimp only
    split
    · exact .of_rounds rfl
    · split
      · exact ((h a.kind (dropAccess s.dev tag)).start rfl).settled
      · exact .of_copies (by simp)

theorem completeRead_mayApply {act : List Byte → AccessKind → Device → Device} (h : ∀ b k d, MayApply d (act b k d))
    (tag : Nat) (sel : AccessKind → Bool) (r : ReadResult) (s : State) :
    MayApply s.dev (completeRead tag sel r act s).dev := by
  cases r with
  | failed => exact complete_mayApply (fun _ _ => .of_rounds rfl) tag sel false s
  | bytes b => exact complete_mayApply (h b) tag sel true s

@[simp] theorem runSet_copies (d : Device) : copies (runSet d).rounds = copies d.rounds := by
  unfold runSet
  split <;> simp

@[simp] theorem runClear_copies (d : Device) : copies (runClear d).rounds = copies d.rounds := by
  unfold runClear
  (repeat' split) <;> simp [abandonStart]

@[simp] theorem nudge_copies (d : Device) : copies (nudge d).rounds = copies d.rounds := by
  unfold nudge
  split <;> simp

@[simp] theorem boardReset_rounds (d : Device) : (boardReset d).rounds = Rounds.cold := rfl

@[simp] theorem coldReset_rounds (d : Device) : (coldReset d).rounds = Rounds.cold := rfl

/-- A register write that is no board reset leaves the settings alone. -/
theorem writeBar_copies (offset : BitVec 12) (size : Nat) (v : Word) (d : Device)
    (h : resets (.registerWrite offset size v) = false) :
    copies (writeBar offset.toNat size v d).rounds = copies d.rounds := by
  unfold writeBar
  split
  · rename_i hw
    unfold writeRegister
    split
    · rename_i ho
      have control : offset = 0x004#12 := BitVec.eq_of_toNat_eq ho
      have run : v.getLsbD 1 = false := by simpa [resets, control, hw.1] using h
      unfold writeControl
      rw [run]
      simp only [Bool.false_eq_true, if_false]
      split <;> simp
    · simp
    all_goals rfl
  · rfl

/-- CONTROL written as a whole word with BOARD_RESET = 1 is the board reset (R3, R9). -/
theorem writeBar_boardReset (offset : BitVec 12) (size : Nat) (v : Word) (d : Device)
    (h : resets (.registerWrite offset size v) = true) : writeBar offset.toNat size v d = boardReset d := by
  simp only [resets, Bool.and_eq_true, beq_iff_eq] at h
  obtain ⟨⟨ho, hs⟩, hv⟩ := h
  subst ho hs
  simp [writeBar, writeRegister, writeControl, hv]

/-! ### Steps -/

/-- A reset empties the settings in force. -/
theorem exec_resets {c : Instr} {s t : State} (h : exec c s = .next t) (hr : resets c = true) :
    t.dev.rounds.inForce = none := by
  cases c with
  | coldReset => cases h; rfl
  | boardReset run => cases h; rfl
  | registerWrite offset size v =>
    cases h
    show (writeBar offset.toNat size v s.dev).rounds.inForce = none
    rw [writeBar_boardReset offset size v s.dev hr]
    rfl
  | _ => cases hr

/-! ### The actions of the completions -/

@[simp] theorem descriptorTaken_rounds (b : List Byte) (k : AccessKind) (d : Device) :
    (descriptorTaken b k d).rounds = d.rounds := by
  unfold descriptorTaken
  split <;> simp

@[simp] theorem notRunTaken_rounds (k : AccessKind) (d : Device) : (notRunTaken k d).rounds = d.rounds := by
  unfold notRunTaken
  split <;> simp

@[simp] theorem summaryTaken_rounds (k : AccessKind) (d : Device) : (summaryTaken k d).rounds = d.rounds := by
  unfold summaryTaken
  split <;> simp

@[simp] theorem fetchTaken_rounds (b : List Byte) (k : AccessKind) (d : Device) :
    (fetchTaken b k d).rounds = d.rounds := by
  unfold fetchTaken
  split <;> simp

@[simp] theorem verdictTaken_rounds (k : AccessKind) (d : Device) : (verdictTaken k d).rounds = d.rounds := by
  unfold verdictTaken
  split <;> simp

@[simp] theorem walkTaken_rounds (b : List Byte) (k : AccessKind) (d : Device) :
    (walkTaken b k d).rounds = d.rounds := by
  unfold walkTaken
  split <;> simp

/-- The completion of a coalesced write applies nothing. -/
theorem channelComplete_mayApply (tag : Nat) (sel : AccessKind → Bool) (ok : Bool) (s : State) :
    MayApply s.dev (complete tag sel ok channelLanded s).dev :=
  complete_mayApply (fun k d => .of_rounds (channelLanded_rounds k d)) tag sel ok s

/-! ### Steps -/

/-- The command is the successful completion of a settings read (R53). -/
def bringsSettings : Instr → Bool
  | .settingsReadDone _ (.bytes _) => true
  | _ => false

/-- No command but a reset and a completed settings read changes the settings in force otherwise than by an application of the
copy staged before it. -/
theorem exec_mayApply {c : Instr} {s t : State} (h : exec c s = .next t) (hr : resets c = false)
    (hb : bringsSettings c = false) : MayApply s.dev t.dev := by
  cases c with
  | coldReset => cases hr
  | boardReset run => cases hr
  | registerWrite offset size v => cases h; exact .of_copies (writeBar_copies offset size v s.dev hr)
  | runSet => cases h; exact .of_copies (runSet_copies s.dev)
  | runClear => cases h; exact .of_copies (runClear_copies s.dev)
  | nudge v => cases h; exact .of_copies (nudge_copies s.dev)
  | windowSizeWrite v => cases h; exact .of_rounds rfl
  | irqCauseWrite v => cases h; exact .of_rounds rfl
  | irqMaskWrite v => cases h; exact .of_rounds rfl
  | startHeaderReadDone tag r =>
    cases h
    exact completeRead_mayApply
      (fun b _ => withStart_mayApply (fun _ d => .of_copies (startHeaderTaken_copies b d))) tag _ r s
  | startRequestReadDone tag r =>
    cases h
    exact completeRead_mayApply
      (fun b _ => withStart_mayApply (fun st d => .of_rounds (startRequestTaken_rounds st b d))) tag _ r s
  | startHeaderWriteDone tag ok =>
    cases h; exact complete_mayApply (fun _ => withStart_mayApply startHeaderWritten_mayApply) tag _ ok s
  | startShadowWriteDone tag ok =>
    cases h; exact complete_mayApply (fun _ => withStart_mayApply startShadowWritten_mayApply) tag _ ok s
  | scanTimerExpiry => cases h; exact settleAt_mayApply (fun t d => .of_rounds (by simp [scanTimerExpired])) _ s.dev
  | scanReadDone tag r =>
    cases h; exact completeRead_mayApply (fun b _ d => .of_copies (scanTaken_copies b d)) tag _ r s
  | descriptorReadDone tag r =>
    cases h; exact completeRead_mayApply (fun b k d => .of_rounds (descriptorTaken_rounds b k d)) tag _ r s
  | shadowWriteDone tag ok => cases h; exact channelComplete_mayApply tag _ ok s
  | windowStatusWriteDone tag ok => cases h; exact channelComplete_mayApply tag _ ok s
  | markCounterWriteDone tag ok => cases h; exact channelComplete_mayApply tag _ ok s
  | linkCounterWriteDone tag ok => cases h; exact channelComplete_mayApply tag _ ok s
  | sightingCounterWriteDone tag ok => cases h; exact channelComplete_mayApply tag _ ok s
  | settingsAckWriteDone tag ok => cases h; exact channelComplete_mayApply tag _ ok s
  | peerStatusWriteDone tag ok => cases h; exact channelComplete_mayApply tag _ ok s
  | producedCountWriteDone tag ok => cases h; exact channelComplete_mayApply tag _ ok s
  | notRunWriteDone tag ok =>
    cases h; exact complete_mayApply (fun k d => .of_rounds (notRunTaken_rounds k d)) tag _ ok s
  | summaryWriteDone tag ok =>
    cases h; exact complete_mayApply (fun k d => .of_rounds (summaryTaken_rounds k d)) tag _ ok s
  | settingsReadDone tag r =>
    cases r with
    | failed => cases h; exact complete_mayApply (fun _ _ => .of_rounds rfl) tag _ false s
    | bytes b => cases hb
  | journalEntryWriteDone tag ok =>
    cases h; exact complete_mayApply (fun _ d => .of_rounds (journalWritten_rounds d)) tag _ ok s
  | consumedReadDone tag r =>
    cases h; exact completeRead_mayApply (fun b _ d => .of_rounds (consumedTaken_rounds (word b 0) d)) tag _ r s
  | circuitFetchDone tag r =>
    cases h; exact completeRead_mayApply (fun b k d => .of_rounds (fetchTaken_rounds b k d)) tag _ r s
  | verdictWriteDone tag ok =>
    cases h; exact complete_mayApply (fun k d => .of_rounds (verdictTaken_rounds k d)) tag _ ok s
  | walkReadDone tag r =>
    cases h; exact completeRead_mayApply (fun b k d => .of_rounds (walkTaken_rounds b k d)) tag _ r s
  | commandSent => cases h; exact .of_rounds (commandDone_rounds s.dev)
  | ackOn p => cases h; exact .of_copies (onReply_copies p _ _ s.dev (by simp) rfl)
  | ackOff p => cases h; exact .of_copies (onReply_copies p _ _ s.dev (by simp) (by simp))
  | nack p => cases h; exact .of_copies (onReply_copies p _ _ s.dev (by simp) (by simp))
  | modulatorFault p => cases h; exact .of_copies (onReply_copies p _ _ s.dev (by simp) rfl)
  | replyTimerExpiry ctx => cases h; exact settleAt_mayApply (fun _ d => .of_rounds (replyTimeout_rounds ctx d)) _ s.dev
  | roundStart =>
    cases h
    dsimp only [whenLeading]
    split
    · exact settleAt_mayApply (fun _ => leadRoundStart_mayApply) _ s.dev
    · exact .of_rounds rfl
  | watchIssue =>
    cases h
    dsimp only [whenLeading, atTimer]
    (repeat' split) <;> exact .of_copies (by simp)
  | lookOpen => cases h; exact .of_copies (lookOpened_copies s.dev)
  | lookEnd i found => cases h; exact .of_copies (lookEnded_copies i found s.dev)
  | lookDeadline => cases h; exact .of_copies (lookDeadlineTaken_copies s.dev)
  | roundMarkReceived time source dest body =>
    cases h; exact ((receive_mayApply _ (s.dev.advance time)).start rfl).settled
  | watchListReceived time source dest body =>
    cases h; exact ((receive_mayApply _ (s.dev.advance time)).start rfl).settled
  | sightingReceived source dest body => cases h; exact (receive_mayApply _ s.dev).settled
  | helloReceived source dest body => cases h; exact (receive_mayApply _ s.dev).settled
  | unknownFrameReceived frame => cases h; exact (receive_mayApply _ s.dev).settled
  | framerReady => cases h; exact .of_rounds (handOver_rounds s.dev)
  | leadLostTimerExpiry =>
    cases h
    exact settleAt_mayApply (fun _ d => .of_copies (by unfold leadLostExpired; split <;> simp)) _ s.dev
  | classifySighting => cases h; exact .of_copies (by simp)
  | sweepStep area => cases h; exact .of_copies (by simp)

/-- A completed settings read leaves the settings in force alone, or applies the copy it brings (R41, R53). -/
theorem exec_settingsReadDone {tag : Nat} {b : List Byte} {s t : State}
    (h : exec (.settingsReadDone tag (.bytes b)) s = .next t) :
    t.dev.rounds.inForce = s.dev.rounds.inForce ∨
      ∃ (a : Access) (seq : Half), a.tag = tag ∧ awaited s.dev a isSettingsRead ∧ a.kind = .settingsRead seq ∧
        Applies { s.dev with rounds := { s.dev.rounds with staged := some (seq, settingsOf b) } } t.dev := by
  cases h
  show (complete tag isSettingsRead true (settingsLanded b) s).dev.rounds.inForce = _ ∨ ∃ a seq, _ ∧ _ ∧ _ ∧
    Applies _ (complete tag isSettingsRead true (settingsLanded b) s).dev
  unfold complete
  split
  · exact .inl rfl
  · rename_i a ha
    have found : a.tag = tag ∧ isSettingsRead a.kind = true := by
      simpa using List.find?_some ha
    dsimp only [completed]
    split
    · exact .inl rfl
    · rename_i hd
      obtain ⟨seq, hk⟩ : ∃ seq, a.kind = .settingsRead seq := by
        have hs := found.2
        unfold isSettingsRead at hs
        split at hs
        · exact ⟨_, by assumption⟩
        · cases hs
      rw [hk]
      rcases (settingsTaken_mayApply seq b (dropAccess s.dev tag)).settled with kept | applied
      · exact .inl kept
      · exact .inr ⟨a, seq, found.1, ⟨by rw [found.1]; exact ha, by simpa using hd⟩, hk, applied⟩

theorem step_next {s t : State} (h : step s = .next t) :
    (s.pending = [] ∧ t = idle s) ∨ ∃ c rest, s.pending = c :: rest ∧ exec c { s with pending := rest } = .next t := by
  unfold step at h
  split at h
  · rename_i hp; cases h; exact .inl ⟨hp, rfl⟩
  · rename_i c rest hp; exact .inr ⟨c, rest, hp, h⟩

/-- Of the period and guard in force: a step changes them by a reset, or by applying a copy staged before it or read by it. -/
theorem step_inForce {s t : State} (h : step s = .next t) :
    t.dev.rounds.inForce = s.dev.rounds.inForce ∨
    (t.dev.rounds.inForce = none ∧ ∃ c rest, s.pending = c :: rest ∧ resets c = true) ∨
    ∃ (seq : Half) (x : Settings),
      (s.dev.rounds.staged = some (seq, x) ∨ ∃ (a : Access) (b : List Byte) (rest : List Instr),
        s.pending = .settingsReadDone a.tag (.bytes b) :: rest ∧ awaited s.dev a isSettingsRead ∧
        a.kind = .settingsRead seq ∧ x = settingsOf b) ∧
      t.dev.rounds.inForce = some x.derived ∧ t.dev.rounds.staged = none ∧
      t.dev.rounds.applied = some (seq, t.dev.rounds.number) := by
  rcases step_next h with ⟨_, rfl⟩ | ⟨c, rest, hp, he⟩
  · exact .inl rfl
  · cases hr : resets c with
    | true => exact .inr (.inl ⟨exec_resets he hr, c, rest, hp, hr⟩)
    | false =>
      cases hb : bringsSettings c with
      | false =>
        rcases exec_mayApply he hr hb with kept | ⟨seq, x, hs, applied⟩
        · exact .inl kept
        · exact .inr (.inr ⟨seq, x, .inl hs, applied⟩)
      | true =>
        unfold bringsSettings at hb
        split at hb
        · rename_i tag b
          rcases exec_settingsReadDone he with kept | ⟨a, seq, rfl, ha, hk, seq', x, hs, applied⟩
          · exact .inl kept
          · cases hs
            exact .inr (.inr ⟨seq, _, .inr ⟨a, b, rest, hp, ha, hk, rfl⟩, applied⟩)
        · cases hb

/-! ### The derivation of R39 -/

theorem derivePeriod_eq (p : Nat) : derivePeriod p = max 100 (min 2000 (p / 10 * 10)) := rfl

/-- The period in force is a multiple of 10 within 100 to 2000. -/
theorem derivePeriod_range (p : Nat) :
    derivePeriod p % 10 = 0 ∧ 100 ≤ derivePeriod p ∧ derivePeriod p ≤ 2000 := by
  rw [derivePeriod_eq]
  omega

/-- A guard that fits the period twice is the staged one, rounded down and clamped. -/
theorem deriveGuard_fits {p g : Nat} (h : 2 * max 10 (min 500 (g / 10 * 10)) ≤ p) :
    deriveGuard p g = max 10 (min 500 (g / 10 * 10)) := by
  unfold deriveGuard clampNat
  exact if_neg (by omega)

/-- A longer guard is lowered to half the period, rounded down to a multiple of 10. -/
theorem deriveGuard_lowered {p g : Nat} (h : p < 2 * max 10 (min 500 (g / 10 * 10))) :
    deriveGuard p g = p / 2 / 10 * 10 := by
  unfold deriveGuard clampNat
  exact if_pos h

theorem deriveGuard_range {p : Nat} (g : Nat) (hp : 100 ≤ p) :
    deriveGuard p g % 10 = 0 ∧ 10 ≤ deriveGuard p g ∧ deriveGuard p g ≤ 500 ∧ 2 * deriveGuard p g ≤ p := by
  rcases Nat.lt_or_ge p (2 * max 10 (min 500 (g / 10 * 10))) with h | h
  · rw [deriveGuard_lowered h]
    omega
  · rw [deriveGuard_fits h]
    omega

/-! ### The acknowledgment (R55) -/

/-- A write put in flight or refused is live. -/
theorem live_issue {q : AccessKind → Bool} {k : AccessKind} (a l : Nat) (b : List Byte) (o : Bool) (d : Device)
    (hc : canAccess d = true) (hk : q k = true) : live (issue k a l b o d) q = true := by
  cases hw : inWindow d.iface.bounds a l with
  | true => rw [issue_inWindow _ _ _ _ _ _ hc hw]; simp [live, hk]
  | false => rw [issue_refused _ _ _ _ _ _ hc hw]; simp [live, hk]

/-- A channel whose write is owed has one in flight, its own or the one it waits behind. -/
theorem live_owe (ch : Channel) (d : Device) (hc : canAccess d = true) : live (owe ch d) (ofChannel ch) = true := by
  unfold owe
  cases hl : live d (ofChannel ch) with
  | true => rw [oweAs_live _ _ _ hc hl]; exact hl
  | false =>
    rw [oweAs_issues _ _ _ hc hl]
    obtain ⟨c, b, hk⟩ := channelKind_shape ch d
    have issued := live_issue (q := ofChannel ch) (channelExtent ch d).1 (channelExtent ch d).2.length
      (channelExtent ch d).2 false d hc (k := channelKind ch d) (by rw [hk]; simp [ofChannel])
    unfold issueChannel noteChannel
    dsimp only
    split <;> exact issued

/-- Where R54 allows it, the application puts the derived settings in force and owes the acknowledgment. -/
theorem applyStaged_allowed {d : Device} {seq : Half} {x : Settings} (hs : d.rounds.staged = some (seq, x))
    (hset : settled d = true) (hold : d.rounds.hold = false ∨ d.rounds.inForce = none) :
    (applyStaged d).rounds.inForce = some x.derived ∧
    (canAccess d = true → live (applyStaged d) (ofChannel .acknowledgment) = true) := by
  have allowed : (settled d && (!d.rounds.hold || d.rounds.inForce.isNone)) = true := by
    rcases hold with h | h <;> simp [hset, h]
  unfold applyStaged
  rw [hs]
  dsimp only
  rw [if_pos allowed]
  refine ⟨by simp, fun hc => live_owe _ _ ?_⟩
  simpa [canAccess] using hc

/-! ### What a round is timed by -/

/-- A follower's round is timed by its mark, whatever is applied with it (R48). -/
theorem acceptMark_phase (m : MarkBody) (d : Device) :
    (acceptMark m d).rounds.phase = .scheduled (d.now + m.guardTime) (d.now + m.period) := by
  obtain ⟨y, h, hy⟩ := acceptMark_rounds m d
  rw [h, applyStaged_phase, hy]

/-- A lead's round with nothing staged is timed by the period and guard already in force (R42, R43). -/
theorem leadRoundStart_unstaged {d : Device} (h : d.rounds.staged = none) :
    (leadRoundStart d).rounds.inForce = d.rounds.inForce ∧
    (leadRoundStart d).rounds.nextAt = some (d.now + d.rounds.period) ∧
    (leadRoundStart d).rounds.phase = .scheduled (d.now + d.rounds.guardTime) (d.now + d.rounds.period) := by
  rw [leadRoundStart_rounds, applyStaged_none]
  · exact ⟨rfl, rfl, rfl⟩
  · exact h

/-- Settles O41: R39, with the step lemma `step_inForce` and the lemmas on the derivation, the acknowledgment and the two
modes' timing. -/
theorem periodAndGuardDerived : Obligations.PeriodAndGuardDerived := by
  unfold Obligations.PeriodAndGuardDerived
  refine ⟨fun s t h => step_inForce h, fun d seq x hs hset hold => ?_, fun p g => ?_, by decide,
    fun d m => acceptMark_phase m d, fun d h => leadRoundStart_unstaged h⟩
  · obtain ⟨force, acknowledged⟩ := applyStaged_allowed hs hset hold
    exact ⟨by simp [Rounds.period, force, Settings.derived], by simp [Rounds.guardTime, force, Settings.derived],
      acknowledged⟩
  · obtain ⟨tens, least, -⟩ := derivePeriod_range p
    obtain ⟨guardTens, guardLeast, guardMost, guardHalf⟩ := deriveGuard_range g least
    exact ⟨derivePeriod_eq p, tens, guardTens, guardLeast, guardMost, guardHalf, deriveGuard_fits, deriveGuard_lowered⟩

end Sys2Proof.Machine.SettingsInForce

/-! ## The hop power and the verdict around it (O55, R157)

The evaluator's functions in the order of Evaluate.lean: what an accepted look leaves, the rounded mean and its range, spread
and status, margins and spans, path patterns, the key hop. Then the verdict record, read back field by field. -/

namespace Sys2Proof.Machine.HopVerdicts

/-! ### An accepted look (R154, R155) -/

/-- A stored look counts as a power exactly if its value is one. -/
theorem mem_validPowers (a : Accumulator) (v : Int) :
    v ∈ validPowers a ↔ ∃ l ∈ a.stored, l.value = .power v := by
  simp only [validPowers, List.mem_filterMap]
  refine exists_congr fun l => and_congr_right fun _ => ?_
  cases l.value <;> simp

theorem depthConstant_eq (depth : Nat) :
    depthConstant depth = if depth = 1 then 170 else if depth = 2 then 140 else 110 := by
  unfold depthConstant
  split <;> simp_all

theorem lookValue_of_found {x : Sighting} {l : Nat} (hl : x.level = some l) (dark : l ≠ 0) (saturated : l ≠ 1023) (hop : Hop)
    (depth : Nat) :
    lookValue hop depth x = if hop.role ≠ .guarded ∧ hop.powerCheck ∧ x.capLevel
      then .power (clampInt (-500) 200 (rawPower l x.loss depth)) else .noLevel := by
  simp [lookValue, hl, dark, saturated]

/-- R155's clamp: every look power lies in −500..+200. -/
theorem lookValue_power_range {hop : Hop} {depth : Nat} {x : Sighting} {v : Int}
    (h : lookValue hop depth x = .power v) : -500 ≤ v ∧ v ≤ 200 := by
  unfold lookValue at h
  split at h
  · cases h
  · (repeat' split at h) <;> cases h
    unfold clampInt
    omega

/-- An accepted look keeps the powers of a hop in the range of R155. -/
theorem accept_powers_range {a : Accumulator} (h : ∀ v ∈ validPowers a, -500 ≤ v ∧ v ≤ 200) (hop : Hop) (depth : Nat)
    (x : Sighting) : ∀ v ∈ validPowers (a.accept hop depth x), -500 ≤ v ∧ v ≤ 200 := by
  intro v hv
  obtain ⟨l, hl, value⟩ := (mem_validPowers _ v).1 hv
  rcases List.mem_append.1 (show l ∈ a.stored ++ [⟨x.round, lookValue hop depth x⟩] from hl) with old | new
  · exact h v ((mem_validPowers a v).2 ⟨l, old, value⟩)
  · obtain rfl := List.mem_singleton.1 new
    exact lookValue_power_range value

/-- A look whose value is a power is marked CLAMPED exactly if the power lay outside −500..+200. -/
theorem setsClamped_iff {hop : Hop} {depth : Nat} {x : Sighting} {l : Nat} (hl : x.level = some l)
    (value : lookValue hop depth x = .power (clampInt (-500) 200 (rawPower l x.loss depth))) :
    setsClamped hop depth x = true ↔ ¬(-500 ≤ rawPower l x.loss depth ∧ rawPower l x.loss depth ≤ 200) := by
  simp only [setsClamped, hl, value, bne_iff_ne, clampInt]
  omega

theorem accept_counts (a : Accumulator) (hop : Hop) (depth : Nat) (x : Sighting) :
    (a.accept hop depth x).looksDone = a.looksDone + 1 ∧
    (a.accept hop depth x).looksSeen = a.looksSeen + (if x.level.isSome then 1 else 0) := by
  cases h : x.level <;> simp [Accumulator.accept, h]

theorem accept_overload (a : Accumulator) (hop : Hop) (depth : Nat) (x : Sighting) :
    (a.accept hop depth x).overload = true ↔
      a.overload = true ∨ (x.level = some 1023 ∧ hop.role ≠ .guarded ∧ x.capLevel = true) := by
  simp [Accumulator.accept, setsOverload, and_assoc]

theorem accept_foundOnly (a : Accumulator) (hop : Hop) (depth : Nat) (x : Sighting) :
    (a.accept hop depth x).foundOnly = true ↔ a.foundOnly = true ∨ (x.level.isSome ∧ x.capEmpty = false) := by
  cases h : x.level <;> simp [Accumulator.accept, h]

/-- The look value of R155 with its CLAMPED mark, spelled out over the level code. -/
theorem accept_value (a : Accumulator) (hop : Hop) (depth : Nat) (x : Sighting) {v : LookValue}
    (hv : v = lookValue hop depth x) :
    (x.level = none → v = .empty) ∧ (x.level = some 0 → v = .dark) ∧ (x.level = some 1023 → v = .over) ∧
    (∀ l, x.level = some l → l ≠ 0 → l ≠ 1023 →
      ((hop.role = .guarded ∨ hop.powerCheck = false ∨ x.capLevel = false) → v = .noLevel) ∧
      (hop.role ≠ .guarded → hop.powerCheck = true → x.capLevel = true →
        v = .power (max (-500) (min 200 (rawPower l x.loss depth))) ∧
        ((a.accept hop depth x).clamped = true ↔ a.clamped = true ∨
          ¬(-500 ≤ rawPower l x.loss depth ∧ rawPower l x.loss depth ≤ 200)))) := by
  subst hv
  refine ⟨fun h => by simp [lookValue, h], fun h => by simp [lookValue, h], fun h => by simp [lookValue, h],
    fun l hl dark saturated => ⟨fun h => ?_, fun role check level => ?_⟩⟩
  · rw [lookValue_of_found hl dark saturated, if_neg]
    rintro ⟨role, check, level⟩
    simp_all
  · have value := lookValue_of_found hl dark saturated hop depth
    rw [if_pos ⟨role, check, level⟩] at value
    refine ⟨value, ?_⟩
    simp only [Accumulator.accept, Bool.or_eq_true, setsClamped_iff hl value]

/-! ### The hop power (R157) -/

/-- The rounded mean is within half a tenth of the mean, a half going down. -/
theorem roundedMean_nearest (sum : Int) {n : Nat} (hn : 0 < n) :
    2 * sum - n ≤ 2 * (n : Int) * roundedMean sum n ∧ 2 * (n : Int) * roundedMean sum n < 2 * sum + n := by
  have positive : (0 : Int) < 2 * n := by omega
  have division := Int.mul_ediv_add_emod (n - 2 * sum) (2 * n)
  have least := Int.emod_nonneg (n - 2 * sum) positive.ne'
  have most := Int.emod_lt_of_pos (n - 2 * sum) positive
  simp only [roundedMean, mul_neg]
  omega

/-- A mean of values in a range rounds to a value in the range. -/
theorem roundedMean_range {sum lo hi : Int} {n : Nat} (hn : 0 < n) (least : n * lo ≤ sum) (most : sum ≤ n * hi) :
    lo ≤ roundedMean sum n ∧ roundedMean sum n ≤ hi := by
  obtain ⟨above, below⟩ := roundedMean_nearest sum hn
  have positive : (0 : Int) < n := by omega
  constructor <;> by_contra! outside <;> nlinarith

theorem hopPower_guarded {hop : Hop} (h : hop.role = .guarded) (a : Accumulator) : hopPower hop a = none := by
  simp [hopPower, h]

theorem hopPower_of_none (hop : Hop) {a : Accumulator} (h : validPowers a = []) : hopPower hop a = none := by
  simp [hopPower, h]

theorem hopPower_mean {hop : Hop} {a : Accumulator} (role : hop.role ≠ .guarded) (some_power : validPowers a ≠ []) :
    hopPower hop a = some (roundedMean (validPowers a).sum (validPowers a).length) := by
  unfold hopPower
  rw [if_neg role]
  split <;> simp_all

/-- R157's range: the hop power of accepted looks' powers lies in −500..+200. -/
theorem hopPower_range {hop : Hop} {a : Accumulator} {ph : Int} (powers : ∀ v ∈ validPowers a, -500 ≤ v ∧ v ≤ 200)
    (h : hopPower hop a = some ph) : -500 ≤ ph ∧ ph ≤ 200 := by
  by_cases role : hop.role = .guarded
  · simp [hopPower_guarded role] at h
  by_cases none_valid : validPowers a = []
  · simp [hopPower_of_none hop none_valid] at h
  rw [hopPower_mean role none_valid, Option.some.injEq] at h
  subst h
  refine roundedMean_range (List.length_pos_iff.2 none_valid) ?_ ?_
  · simpa using List.card_nsmul_le_sum _ _ fun v hv => (powers v hv).1
  · simpa using List.sum_le_card_nsmul _ _ fun v hv => (powers v hv).2

/-! ### Spread and status (R158 to R160) -/

/-- The folds of the spread are the list's greatest and least element. -/
theorem foldl_max_spec (p : Int) (ps : List Int) :
    ps.foldl max p ∈ p :: ps ∧ ∀ v ∈ p :: ps, v ≤ ps.foldl max p :=
  List.max?_eq_some_iff.1 List.max?_cons'

theorem foldl_min_spec (p : Int) (ps : List Int) :
    ps.foldl min p ∈ p :: ps ∧ ∀ v ∈ p :: ps, ps.foldl min p ≤ v :=
  List.min?_eq_some_iff.1 List.min?_cons'

/-- The difference of greatest and least passes a limit exactly if some difference does. -/
theorem range_exceeds_iff (p : Int) (ps : List Int) (limit : Int) :
    limit < ps.foldl max p - ps.foldl min p ↔ ∃ u ∈ p :: ps, ∃ v ∈ p :: ps, limit < u - v := by
  obtain ⟨max_mem, le_max⟩ := foldl_max_spec p ps
  obtain ⟨min_mem, min_le⟩ := foldl_min_spec p ps
  constructor
  · exact fun h => ⟨_, max_mem, _, min_mem, h⟩
  · rintro ⟨u, hu, v, hv, h⟩
    have := le_max u hu
    have := min_le v hv
    omega

theorem spreadExceeded_iff (hop : Hop) (a : Accumulator) {limit : Int} (hlimit : 0 ≤ limit) :
    spreadExceeded hop a limit = true ↔
      hop.role ≠ .guarded ∧ ∃ u ∈ validPowers a, ∃ v ∈ validPowers a, limit < u - v := by
  unfold spreadExceeded
  match validPowers a with
  | [] => simp
  | [p] => simpa using fun _ => hlimit
  | p :: q :: rest =>
    simp only [Bool.and_eq_true, bne_iff_ne, decide_eq_true_eq, gt_iff_lt, range_exceeds_iff]

theorem hopStatus_unguarded {hop : Hop} (role : hop.role ≠ .guarded) (a : Accumulator) {looks : Nat} (hlooks : 0 < looks) :
    (a.looksDone = looks → a.looksSeen = looks → hopStatus hop a looks = .present) ∧
    (a.looksDone = looks → 0 < a.looksSeen → a.looksSeen < looks → hopStatus hop a looks = .intermittent) ∧
    (a.looksDone = looks → a.looksSeen = 0 → hopStatus hop a looks = .missing) ∧
    (a.looksDone < looks → a.foundOnly = true → 0 < a.looksSeen → hopStatus hop a looks = .present) ∧
    (a.looksDone < looks → a.foundOnly = false ∨ a.looksSeen = 0 → hopStatus hop a looks = .unobserved) := by
  simp only [hopStatus, if_neg role]
  refine ⟨fun done all => ?_, fun done seen few => ?_, fun done dark => ?_, fun less found seen => ?_,
    fun less unseen => ?_⟩
  · simp [done, all]
  · simp [done, few.ne, seen]
  · simp [done, dark, hlooks.ne]
  · simp [less.ne, found, seen]
  · rw [if_neg less.ne, if_neg]
    rintro ⟨found, seen⟩
    rcases unseen with h | h
    · simp [h] at found
    · omega

theorem hopStatus_guarded {hop : Hop} (role : hop.role = .guarded) (a : Accumulator) (looks : Nat) :
    (0 < a.looksSeen → hopStatus hop a looks = .leak) ∧
    (a.looksDone = looks → a.looksSeen = 0 → hopStatus hop a looks = .darkOk) ∧
    (a.looksDone ≠ looks → a.looksSeen = 0 → hopStatus hop a looks = .guardUnobserved) := by
  simp only [hopStatus, if_pos role]
  exact ⟨fun seen => by simp [seen], fun done dark => by simp [done, dark], fun less dark => by simp [less, dark]⟩

/-! ### Margins and spans (R161 to R163) -/

theorem margins_of_noPower {r : HopResult} (h : r.power = none) : r.margin = none ∧ r.low = false ∧ r.high = false := by
  simp [HopResult.margin, HopResult.low, HopResult.high, h]

theorem margins_of_power {r : HopResult} {ph : Int} (h : r.power = some ph) :
    r.margin = some (min (ph - (r.hop.expected - r.hop.tolLow)) ((r.hop.expected + r.hop.tolHigh) - ph)) ∧
    (r.low = true ↔ ph - (r.hop.expected - r.hop.tolLow) < 0) ∧
    (r.high = true ↔ (r.hop.expected + r.hop.tolHigh) - ph < 0) := by
  simp [HopResult.margin, HopResult.low, HopResult.high, h, lowMargin, highMargin]

/-- With tolerances that are not negative no hop is both LOW and HIGH. -/
theorem not_low_and_high {r : HopResult} {ph : Int} (h : r.power = some ph) (low : 0 ≤ r.hop.tolLow)
    (high : 0 ≤ r.hop.tolHigh) : ¬(r.low = true ∧ r.high = true) := by
  obtain ⟨-, low_iff, high_iff⟩ := margins_of_power h
  rw [low_iff, high_iff]
  omega

theorem mem_poweredHops (rs : List HopResult) (i : Nat) (hop : Hop) (ph : Int) :
    (i, hop, ph) ∈ poweredHops rs ↔ ∃ r ∈ rs, r.number = i ∧ r.hop = hop ∧ r.power = some ph := by
  simp only [poweredHops, List.mem_filterMap, Option.map_eq_some_iff, Prod.mk.injEq]
  constructor
  · rintro ⟨r, hr, _, power, number, rhop, rfl⟩
    exact ⟨r, hr, number, rhop, power⟩
  · rintro ⟨r, hr, number, rhop, power⟩
    exact ⟨r, hr, ph, power, number, rhop, rfl⟩

theorem poweredHops_numbers (rs : List HopResult) :
    (poweredHops rs).map (·.1) = (rs.filter (·.power.isSome)).map (·.number) := by
  induction rs with
  | nil => rfl
  | cons r rs ih => cases h : r.power <;> simp_all [poweredHops]

theorem spansOf_length (ps : List (Nat × Hop × Int)) : (spansOf ps).length = ps.length - 1 := by
  induction ps with
  | nil => rfl
  | cons p ps ih => cases ps <;> simp_all [spansOf]

/-- Span k joins powered hops k and k + 1. -/
theorem spansOf_getElem? {ps : List (Nat × Hop × Int)} {k i j : Nat} {hi hj : Hop} {pi pj : Int}
    (first : ps[k]? = some (i, hi, pi)) (second : ps[k + 1]? = some (j, hj, pj)) :
    (spansOf ps)[k]? = some ⟨j, pi - pj, hj.budget, hj.gain⟩ := by
  induction ps generalizing k with
  | nil => simp at first
  | cons p ps ih =>
    cases ps with
    | nil => simp at second
    | cons q ps =>
      cases k with
      | zero => simp_all [spansOf]
      | succ k => simpa [spansOf] using ih first second

theorem leastOf_eq_min? (l : List Int) : leastOf l = l.min? := by
  cases l with
  | nil => rfl
  | cons x xs => exact List.min?_cons'.symm

theorem worstMargin_eq_none_iff (rs : List HopResult) :
    worstMargin rs = none ↔ rs.filterMap HopResult.margin ++ (spansOf (poweredHops rs)).map Span.margin = [] := by
  rw [worstMargin, leastOf_eq_min?, Option.map_eq_none_iff, List.min?_eq_none_iff]

/-- The worst margin is the least hop or span margin, clamped to ±999. -/
theorem worstMargin_least {rs : List HopResult} {m : Int} (h : worstMargin rs = some m) :
    ∃ x ∈ rs.filterMap HopResult.margin ++ (spansOf (poweredHops rs)).map Span.margin, m = max (-999) (min 999 x) ∧
      ∀ y ∈ rs.filterMap HopResult.margin ++ (spansOf (poweredHops rs)).map Span.margin, x ≤ y := by
  rw [worstMargin, leastOf_eq_min?, Option.map_eq_some_iff] at h
  obtain ⟨x, least, rfl⟩ := h
  obtain ⟨mem, le⟩ := List.min?_eq_some_iff.1 least
  exact ⟨x, mem, rfl, le⟩

theorem marginBin_spec (m : Int) :
    (m < 0 → marginBin m = 0) ∧ (140 ≤ m → marginBin m = 15) ∧
    (∀ k : Nat, 1 ≤ k → k ≤ 14 → 10 * ((k : Int) - 1) ≤ m → m ≤ 10 * ((k : Int) - 1) + 9 → (marginBin m).val = k) := by
  refine ⟨fun low => if_pos low, fun high => ?_, fun k first last least most => ?_⟩
  · rw [marginBin, if_neg (by omega), if_pos high]
  · rw [marginBin, if_neg (by omega), if_neg (by omega), dif_pos (by omega)]
    dsimp only
    omega

/-! ### The first hop a test holds of -/

/-- The first hop found in hop order has the least number. -/
theorem find?_least {rs : List HopResult} (order : (rs.map (·.number)).Pairwise (· < ·)) {f : HopResult → Bool}
    {r : HopResult} (h : rs.find? f = some r) : r ∈ rs ∧ f r = true ∧ ∀ x ∈ rs, f x = true → r.number ≤ x.number := by
  obtain ⟨holds, before, after, rfl, none_before⟩ := List.find?_eq_some_iff_append.1 h
  refine ⟨by simp, holds, fun x hx hfx => ?_⟩
  rw [List.pairwise_map, List.pairwise_append, List.pairwise_cons] at order
  obtain ⟨-, ⟨rises, -⟩, -⟩ := order
  rcases List.mem_append.1 hx with early | late
  · simpa [hfx] using none_before x early
  · rcases List.mem_cons.1 late with rfl | late
    · exact le_rfl
    · exact (rises x late).le

theorem firstHop_eq {rs : List HopResult} (order : (rs.map (·.number)).Pairwise (· < ·)) {f : HopResult → Bool}
    {r : HopResult} (hr : r ∈ rs) (holds : f r = true) (least : ∀ x ∈ rs, f x = true → r.number ≤ x.number) :
    firstHop f rs = r.number := by
  obtain ⟨y, found⟩ := Option.isSome_iff_exists.1 (List.find?_isSome.2 ⟨r, hr, holds⟩)
  obtain ⟨hy, holds_y, least_y⟩ := find?_least order found
  rw [firstHop, found]
  exact le_antisymm (least_y r hr holds) (least y hy holds_y)

/-! ### Path patterns (R164) -/

/-- No MISSING hop, or the first one, which every MISSING hop follows. -/
theorem firstMissing_cases {rs : List HopResult} (order : (rs.map (·.number)).Pairwise (· < ·)) :
    (firstMissing rs = none ∧ ∀ r ∈ rs, r.status ≠ .missing) ∨
    ∃ r ∈ rs, firstMissing rs = some r.number ∧ r.status = .missing ∧
      ∀ x ∈ rs, x.status = .missing → r.number ≤ x.number := by
  unfold firstMissing
  cases h : rs.find? (·.status == .missing) with
  | none => exact .inl ⟨rfl, by simpa using List.find?_eq_none.1 h⟩
  | some r =>
    obtain ⟨hr, missing, least⟩ := find?_least order h
    exact .inr ⟨r, hr, rfl, by simpa using missing, by simpa using least⟩

theorem unseen_iff (r : HopResult) : r.unseen = true ↔ r.status = .unobserved ∨ r.status = .guardUnobserved := by
  simp [HopResult.unseen]

section
variable {rs : List HopResult} (order : (rs.map (·.number)).Pairwise (· < ·))
include order

theorem pathBroken_iff :
    pathBroken rs = true ↔ ∃ r ∈ rs, r.status = .missing ∧ ∀ x ∈ rs, (x.number < r.number → x.status ≠ .missing) ∧
      (r.number < x.number → x.hop.role ≠ .guarded → x.status = .missing ∨ x.status = .unobserved) := by
  rcases firstMissing_cases order with ⟨first, absent⟩ | ⟨r, hr, first, missing, least⟩
  · simp only [pathBroken, first, Bool.false_eq_true, false_iff]
    rintro ⟨r, hr, missing, -⟩
    exact absent r hr missing
  · have broken_iff : pathBroken rs = true ↔ ∀ x ∈ rs, r.number < x.number → x.hop.role ≠ .guarded →
        x.status = .missing ∨ x.status = .unobserved := by
      simp only [pathBroken, first, List.all_eq_true, Bool.or_eq_true, decide_eq_true_eq, beq_iff_eq]
      refine forall₂_congr fun x _ => ?_
      rw [← not_le]
      tauto
    rw [broken_iff]
    constructor
    · exact fun rest => ⟨r, hr, missing, fun x hx => ⟨fun lt m => absurd (least x hx m) (by omega), rest x hx⟩⟩
    · rintro ⟨s, hs, missing_s, rest⟩ x hx
      have same : s.number = r.number :=
        le_antisymm (not_lt.1 fun lt => (rest r hr).1 lt missing) (least s hs missing_s)
      exact same ▸ (rest x hx).2

theorem pathGap_iff :
    pathGap rs = true ↔ ∃ r ∈ rs, r.status = .missing ∧ ∃ x ∈ rs, r.number < x.number ∧
      (x.status = .present ∨ x.status = .intermittent) := by
  rcases firstMissing_cases order with ⟨first, absent⟩ | ⟨r, hr, first, missing, least⟩
  · simp only [pathGap, first, Bool.false_eq_true, false_iff]
    rintro ⟨r, hr, missing, -⟩
    exact absent r hr missing
  · simp only [pathGap, first, List.any_eq_true, Bool.and_eq_true, decide_eq_true_eq, Bool.or_eq_true, beq_iff_eq]
    constructor
    · exact fun later => ⟨r, hr, missing, later⟩
    · rintro ⟨s, hs, missing_s, x, hx, lt, seen⟩
      exact ⟨x, hx, (least s hs missing_s).trans_lt lt, seen⟩

theorem pathIncomplete_iff :
    pathIncomplete rs = true ↔ ∃ x ∈ rs, (x.status = .unobserved ∨ x.status = .guardUnobserved) ∧
      ∀ r ∈ rs, r.status = .missing → x.number < r.number := by
  rcases firstMissing_cases order with ⟨first, absent⟩ | ⟨r, hr, first, missing, least⟩
  · simp only [pathIncomplete, first, List.any_eq_true, unseen_iff]
    refine exists_congr fun x => and_congr_right fun _ => ?_
    exact ⟨fun unseen => ⟨unseen, fun r hr m => absurd m (absent r hr)⟩, fun h => h.1⟩
  · simp only [pathIncomplete, first, List.any_eq_true, Bool.and_eq_true, decide_eq_true_eq, unseen_iff]
    refine exists_congr fun x => and_congr_right fun _ => ?_
    exact ⟨fun ⟨lt, unseen⟩ => ⟨unseen, fun s hs m => lt.trans_le (least s hs m)⟩,
      fun ⟨unseen, before⟩ => ⟨before r hr missing, unseen⟩⟩

end

/-! ### Primary code and key hop (R166, R167) -/

/-- The primary code is the place of the first condition of R166 that applies, and 10 where none does. -/
theorem primary_eq_findIdx (f : Findings) :
    f.primary.val = [f.planError, f.launchFault, f.crossed, f.misrouted, f.broken, f.leak, f.gap, f.incomplete, f.unsteady,
      f.low || f.high || f.spanLoss || f.spanGain || f.overload].findIdx id := by
  change _ = [_, _, _, _, _, _, _, _, _, f.degraded].findIdx id
  simp only [Findings.primary, List.findIdx_cons, List.findIdx_nil, id]
  (repeat' split) <;> simp_all

theorem degradedHop_iff (spans : List Span) (r : HopResult) :
    degradedHop spans r = true ↔ r.low = true ∨ r.high = true ∨ r.overload = true ∨
      ∃ x ∈ spans, x.later = r.number ∧ (x.tooMuchLoss = true ∨ x.tooMuchGain = true) := by
  simp [degradedHop, or_assoc]

/-- The test whose first hop is the key hop of a code that has one. -/
def keyTest (code : Fin 12) (rs : List HopResult) : HopResult → Bool :=
  if code = 4 ∨ code = 6 then (·.status == .missing)
  else if code = 7 then HopResult.unseen
  else if code = 8 then (·.unsteady)
  else degradedHop (spansOf (poweredHops rs))

theorem keyHop_eq_firstHop {code : Fin 12} (h : code = 4 ∨ (6 ≤ code.val ∧ code.val ≤ 9)) (p : Probe)
    (rs : List HopResult) : keyHop code p rs = firstHop (keyTest code rs) rs := by
  have listed : code = 4 ∨ code = 6 ∨ code = 7 ∨ code = 8 ∨ code = 9 := by omega
  rcases listed with rfl | rfl | rfl | rfl | rfl <;> rfl

theorem keyTest_iff {code : Fin 12} (h : code = 4 ∨ (6 ≤ code.val ∧ code.val ≤ 9)) (rs : List HopResult)
    (r : HopResult) : keyTest code rs r = true ↔ keyMark code rs r := by
  have listed : code = 4 ∨ code = 6 ∨ code = 7 ∨ code = 8 ∨ code = 9 := by omega
  rcases listed with rfl | rfl | rfl | rfl | rfl <;> simp [keyTest, keyMark, unseen_iff, degradedHop_iff]

theorem keyHop_of_noMark {code : Fin 12} (h : code.val < 4 ∨ 9 < code.val) (p : Probe) (rs : List HopResult) :
    keyHop code p rs = 15 := by
  simp only [keyHop, Fin.ext_iff]
  repeat rw [if_neg (by simp; omega)]

theorem keyHop_least {code : Fin 12} (hcode : code = 4 ∨ (6 ≤ code.val ∧ code.val ≤ 9)) (p : Probe) {rs : List HopResult}
    (order : (rs.map (·.number)).Pairwise (· < ·)) {r : HopResult} (hr : r ∈ rs) (marked : keyMark code rs r)
    (least : ∀ x ∈ rs, keyMark code rs x → r.number ≤ x.number) : keyHop code p rs = r.number := by
  rw [keyHop_eq_firstHop hcode]
  exact firstHop_eq order hr ((keyTest_iff hcode rs r).2 marked) fun x hx hfx => least x hx ((keyTest_iff hcode rs x).1 hfx)

/-! ### The verdict (R156, R165) -/

/-- Hop k's result is made of hop k and its accumulator. -/
theorem hopResults_getElem? {p : Probe} {k : Nat} {r : HopResult} :
    (hopResults p)[k]? = some r ↔ ∃ hop a, p.record.hops[k]? = some hop ∧ p.accums[k]? = some a ∧
      hopResult p.record.looks p.record.spread k hop a = r := by
  simp [hopResults, List.getElem?_zipIdx, Option.map_eq_some_iff, List.getElem?_zip_eq_some, and_assoc]

theorem hopResults_numbers (p : Probe) :
    (hopResults p).map (·.number) = List.range (min p.record.hops.length p.accums.length) := by
  rw [← List.length_zip, List.range_eq_range', ← List.zipIdx_map_snd 0, hopResults, List.map_map]
  rfl

theorem hopResults_found {p : Probe} {k : Nat} {r : HopResult} (h : (hopResults p)[k]? = some r) :
    p.record.hops[k]? = some r.hop ∧ ∃ a, p.accums[k]? = some a ∧ r.status = hopStatus r.hop a p.record.looks ∧
      r.power = hopPower r.hop a ∧ r.overload = a.overload ∧ r.clamped = a.clamped ∧
      (r.unsteady = true ↔ spreadExceeded r.hop a p.record.spread = true ∨ r.status = .intermittent) := by
  obtain ⟨hop, a, hhop, ha, rfl⟩ := hopResults_getElem?.1 h
  exact ⟨hhop, a, ha, rfl, rfl, rfl, rfl, by simp [hopResult]⟩

/-- Every power of a verdict lies in −500..+200 where those of its accumulators do. -/
theorem evaluate_powers_range {p : Probe} (h : ∀ a ∈ p.accums, ∀ v ∈ validPowers a, -500 ≤ v ∧ v ≤ 200) {ph : Int}
    (hph : some ph ∈ (evaluate p).powers) : -500 ≤ ph ∧ ph ≤ 200 := by
  obtain ⟨r, hr, power⟩ := List.mem_map.1 (show some ph ∈ (hopResults p).map (·.power) from hph)
  obtain ⟨k, hk⟩ := List.getElem?_of_mem hr
  obtain ⟨hop, a, -, ha, rfl⟩ := hopResults_getElem?.1 hk
  exact hopPower_range (h a (List.mem_of_getElem? ha)) power

/-- The finding flags that gather a mark over the hops or the spans. -/
theorem findingsOf_gathered (p : Probe) (rs : List HopResult) :
    ((findingsOf p rs).unsteady = true ↔ ∃ r ∈ rs, r.unsteady = true) ∧
    ((findingsOf p rs).intermittent = true ↔ ∃ r ∈ rs, r.status = .intermittent) ∧
    ((findingsOf p rs).low = true ↔ ∃ r ∈ rs, r.low = true) ∧
    ((findingsOf p rs).high = true ↔ ∃ r ∈ rs, r.high = true) ∧
    ((findingsOf p rs).spanLoss = true ↔ ∃ x ∈ spansOf (poweredHops rs), x.tooMuchLoss = true) ∧
    ((findingsOf p rs).spanGain = true ↔ ∃ x ∈ spansOf (poweredHops rs), x.tooMuchGain = true) ∧
    ((findingsOf p rs).overload = true ↔ ∃ r ∈ rs, r.overload = true) ∧
    ((findingsOf p rs).clamped = true ↔ ∃ r ∈ rs, r.clamped = true) := by
  simp [findingsOf]

/-! ### Reading fields back (11.2) -/

@[simp] theorem length_put8 (n : Nat) : (put8 n).length = 1 := by simp [put8]
@[simp] theorem length_putHalf (x : Half) : (putHalf x).length = 2 := by simp [putHalf]
@[simp] theorem length_putWord (x : Word) : (putWord x).length = 4 := by simp [putWord]
@[simp] theorem length_put16 (n : Nat) : (put16 n).length = 2 := by simp [put16]
@[simp] theorem length_putPower (x : Option Int) : (putPower x).length = 2 := by simp [putPower]
@[simp] theorem length_locationBytes (l : Location) : (locationBytes l).length = 3 := by simp [locationBytes]
@[simp] theorem length_reserved (n : Nat) : (reserved n).length = n := List.length_replicate
@[simp] theorem length_statusBytes (ss : List HopStatus) : (statusBytes ss).length = 8 := by simp [statusBytes]

theorem byteAt_append_left {xs : List Byte} {i : Nat} (h : i < xs.length) (ys : List Byte) :
    byteAt (xs ++ ys) i = byteAt xs i :=
  List.getD_append _ _ _ _ h

theorem byteAt_append_right {xs : List Byte} {i : Nat} (h : xs.length ≤ i) (ys : List Byte) :
    byteAt (xs ++ ys) i = byteAt ys (i - xs.length) :=
  List.getD_append_right _ _ _ _ h

theorem half_append_right {xs : List Byte} {i : Nat} (h : xs.length ≤ i) (ys : List Byte) :
    half (xs ++ ys) i = half ys (i - xs.length) := by
  rw [half, half, byteAt_append_right h, byteAt_append_right (by omega), Nat.sub_add_comm h]

theorem word_append_right {xs : List Byte} {i : Nat} (h : xs.length ≤ i) (ys : List Byte) :
    word (xs ++ ys) i = word ys (i - xs.length) := by
  rw [word, word, half_append_right h, half_append_right (by omega), Nat.sub_add_comm h]

theorem byteAt_put8 (n : Nat) (ys : List Byte) : byteAt (put8 n ++ ys) 0 = BitVec.ofNat 8 n := rfl

theorem byteAt_reserved (n : Nat) (ys : List Byte) : byteAt (reserved (n + 1) ++ ys) 0 = 0#8 := rfl

theorem half_putHalf (x : Half) (ys : List Byte) : half (putHalf x ++ ys) 0 = x :=
  (BitVec.extractLsb'_append_extractLsb'_eq_extractLsb' rfl).trans BitVec.extractLsb'_eq_self

theorem word_putWord (x : Word) (ys : List Byte) : word (putWord x ++ ys) 0 = x := by
  rw [word, putWord, List.append_assoc, half_putHalf, half_append_right (by simp), length_putHalf, half_putHalf]
  exact (BitVec.extractLsb'_append_extractLsb'_eq_extractLsb' rfl).trans BitVec.extractLsb'_eq_self

theorem half_flatMap {α : Type} (f : α → Half) {l : List α} {k : Nat} {x : α} (h : l[k]? = some x) :
    half (l.flatMap fun i => putHalf (f i)) (2 * k) = f x := by
  induction l generalizing k with
  | nil => simp at h
  | cons y l ih =>
    rw [List.flatMap_cons]
    cases k with
    | zero =>
      obtain rfl : y = x := by simpa using h
      exact half_putHalf _ _
    | succ k =>
      rw [half_append_right (by simp [Nat.mul_succ]), length_putHalf]
      exact ih (by simpa using h)

theorem toNat_ofNat_byte {n : Nat} (h : n < 256) : (BitVec.ofNat 8 n).toNat = n :=
  Nat.mod_eq_of_lt h

theorem toInt_ofInt_half {x : Int} (least : -32768 ≤ x) (most : x < 32768) : (BitVec.ofInt 16 x).toInt = x :=
  BitVec.toInt_ofInt_eq_self (by decide) least most

/-- Bit k of bits listed from bit 0 on is the k-th. -/
theorem testBit_foldr_bits (bs : List Bool) (k : Nat) :
    (bs.foldr (fun b n => bit b + 2 * n) 0).testBit k = bs.getD k false := by
  induction bs generalizing k with
  | nil => simp
  | cons b bs ih =>
    cases k with
    | zero => cases b <;> simp [bit, Nat.testBit_zero, Nat.add_mod]
    | succ k =>
      have shifted : (bit b + 2 * bs.foldr (fun b n => bit b + 2 * n) 0) / 2 = bs.foldr (fun b n => bit b + 2 * n) 0 := by
        have small : bit b < 2 := by cases b <;> decide
        omega
      rw [List.foldr_cons, Nat.testBit_succ, shifted, ih]
      rfl

/-- Flag k of the order of R165 is bit k of the finding flags. -/
theorem findingBits_getLsbD (f : Findings) {k : Nat} (hk : k < 16) :
    [f.planError, f.launchFault, f.crossed, f.misrouted, f.broken, f.leak, f.gap, f.incomplete, f.unsteady, f.intermittent,
      f.low, f.high, f.spanLoss, f.spanGain, f.overload, f.clamped][k]? = some ((findingBits f).getLsbD k) := by
  rw [findingBits, BitVec.getLsbD_ofNat, testBit_foldr_bits, decide_eq_true hk, Bool.true_and,
    List.getD_eq_getElem _ _ (by simpa using hk)]
  exact List.getElem?_eq_getElem _

/-! ### The verdict record (11.2.3) -/

/-- The record's first 24 bytes, which stand before the hop statuses. -/
def recordHead (v : Verdict) : List Byte :=
  putWord v.circuitId ++ putHalf v.generation ++ put8 v.code.val ++ put8 (v.keyHop + 16 * v.leak.getD 15) ++
    putHalf (findingBits v.findings) ++ put8 ((v.cause.map LaunchCause.code).getD 0 + 4 * v.roundsListened) ++
    put8 v.voids ++ putPower v.margin ++ put16 (v.cross.getD 0) ++ putWord (v.listenFrom.getD 0#32) ++
    locationBytes (v.misroute.getD Location.zero) ++ reserved 1

theorem verdictBytes_eq (v : Verdict) : verdictBytes v = recordHead v ++
    (statusBytes v.statuses ++ (List.range 16).flatMap (fun i => putPower (v.powers.getD i none))) :=
  List.append_assoc _ _ _

@[simp] theorem length_recordHead (v : Verdict) : (recordHead v).length = 24 := by simp [recordHead]

theorem verdictBytes_length (v : Verdict) : (verdictBytes v).length = 64 := by
  simp [verdictBytes_eq]

/-- What stands at each offset of the head. -/
theorem verdictBytes_head (v : Verdict) :
    word (verdictBytes v) 0 = v.circuitId ∧ half (verdictBytes v) 4 = v.generation ∧
    byteAt (verdictBytes v) 6 = BitVec.ofNat 8 v.code.val ∧
    byteAt (verdictBytes v) 7 = BitVec.ofNat 8 (v.keyHop + 16 * v.leak.getD 15) ∧
    half (verdictBytes v) 8 = findingBits v.findings ∧
    byteAt (verdictBytes v) 0x0A = BitVec.ofNat 8 ((v.cause.map LaunchCause.code).getD 0 + 4 * v.roundsListened) ∧
    byteAt (verdictBytes v) 0x0B = BitVec.ofNat 8 v.voids ∧
    half (verdictBytes v) 0x0C = BitVec.ofInt 16 (v.margin.getD (-32768)) ∧
    half (verdictBytes v) 0x0E = BitVec.ofNat 16 (v.cross.getD 0) ∧
    word (verdictBytes v) 0x10 = v.listenFrom.getD 0#32 := by
  simp [verdictBytes_eq, recordHead, byteAt_append_right, half_append_right, word_append_right, byteAt_put8,
    half_putHalf, word_putWord, putPower, put16]

/-- The misroute location and the reserved byte that follows it. -/
theorem verdictBytes_misroute (v : Verdict) {l : Location} (h : v.misroute.getD Location.zero = l) :
    byteAt (verdictBytes v) 0x14 = BitVec.ofNat 8 l.node.val ∧ byteAt (verdictBytes v) 0x15 = BitVec.ofNat 8 l.port.val ∧
    byteAt (verdictBytes v) 0x16 = BitVec.ofNat 8 l.slot.val ∧ byteAt (verdictBytes v) 0x17 = 0#8 := by
  subst h
  simp [verdictBytes_eq, recordHead, byteAt_append_right, locationBytes, byteAt_put8, byteAt_reserved]

theorem verdictBytes_status (v : Verdict) {h : Nat} (hh : h < 8) :
    byteAt (verdictBytes v) (0x18 + h) =
      BitVec.ofNat 8 ((v.statuses.getD (2 * h) .noHop).code + 16 * (v.statuses.getD (2 * h + 1) .noHop).code) := by
  rw [verdictBytes_eq, byteAt_append_right (by simp), byteAt_append_left (by simpa using hh)]
  simp [byteAt, statusBytes, hh]

theorem verdictBytes_power (v : Verdict) {h : Nat} (hh : h < 16) :
    half (verdictBytes v) (0x20 + 2 * h) = BitVec.ofInt 16 ((v.powers.getD h none).getD (-32768)) := by
  rw [verdictBytes_eq, half_append_right (by simp; omega), half_append_right (by simp; omega), length_recordHead,
    length_statusBytes, show 0x20 + 2 * h - 24 - 8 = 2 * h by omega]
  exact half_flatMap (fun i => BitVec.ofInt 16 ((v.powers.getD i none).getD (-32768))) (List.getElem?_range hh)

theorem statusCode_lt (s : HopStatus) : s.code < 8 := by cases s <;> decide

theorem causeCode_lt (c : Option LaunchCause) : (c.map LaunchCause.code).getD 0 < 4 := by
  match c with
  | none | some .nack | some .timeout | some .fault => decide

theorem verdictBytes_code (v : Verdict) : u8 (verdictBytes v) 6 = v.code.val := by
  obtain ⟨-, -, code, -⟩ := verdictBytes_head v
  rw [u8, code, toNat_ofNat_byte (by omega)]

theorem verdictBytes_keyHop (v : Verdict) (key : v.keyHop < 16) (leak : v.leak.getD 15 < 16) :
    u8 (verdictBytes v) 7 % 16 = v.keyHop ∧ u8 (verdictBytes v) 7 / 16 = v.leak.getD 15 := by
  obtain ⟨-, -, -, packed, -⟩ := verdictBytes_head v
  rw [u8, packed, toNat_ofNat_byte (by omega)]
  omega

theorem verdictBytes_cause (v : Verdict) (rounds : v.roundsListened < 64) :
    u8 (verdictBytes v) 0x0A % 4 = (v.cause.map LaunchCause.code).getD 0 ∧
    u8 (verdictBytes v) 0x0A / 4 = v.roundsListened := by
  obtain ⟨-, -, -, -, -, packed, -⟩ := verdictBytes_head v
  have small := causeCode_lt v.cause
  rw [u8, packed, toNat_ofNat_byte (by omega)]
  omega

theorem verdictBytes_voids (v : Verdict) (h : v.voids < 256) : u8 (verdictBytes v) 0x0B = v.voids := by
  obtain ⟨-, -, -, -, -, -, voids, -⟩ := verdictBytes_head v
  rw [u8, voids, toNat_ofNat_byte h]

/-- The margin field reads as the margin, and as NO_MARGIN without one. -/
theorem verdictBytes_margin (v : Verdict) : (v.margin = none → s16 (verdictBytes v) 0x0C = -32768) ∧
    ∀ m, v.margin = some m → -999 ≤ m → m ≤ 999 → s16 (verdictBytes v) 0x0C = m := by
  obtain ⟨-, -, -, -, -, -, -, margin, -⟩ := verdictBytes_head v
  rw [s16, margin]
  refine ⟨fun h => by rw [h]; decide, fun m h least most => ?_⟩
  rw [h, Option.getD_some]
  exact toInt_ofInt_half (by omega) (by omega)

theorem verdictBytes_cross (v : Verdict) {c : Nat} (h : v.cross.getD 0 = c) (hc : c < 65536) :
    u16 (verdictBytes v) 0x0E = c := by
  obtain ⟨-, -, -, -, -, -, -, -, cross, -⟩ := verdictBytes_head v
  rw [u16, cross, h]
  exact Nat.mod_eq_of_lt hc

theorem verdictBytes_location (v : Verdict) {l : Location} (h : v.misroute.getD Location.zero = l) :
    u8 (verdictBytes v) 0x14 = l.node.val ∧ u8 (verdictBytes v) 0x15 = l.port.val ∧
    u8 (verdictBytes v) 0x16 = l.slot.val := by
  obtain ⟨node, port, slot, -⟩ := verdictBytes_misroute v h
  refine ⟨?_, ?_, ?_⟩
  · rw [u8, node, toNat_ofNat_byte (by omega)]
  · rw [u8, port, toNat_ofNat_byte (by omega)]
  · rw [u8, slot, toNat_ofNat_byte (by omega)]

theorem verdictBytes_statusPair (v : Verdict) {h : Nat} (hh : h < 8) :
    u8 (verdictBytes v) (0x18 + h) % 16 = (v.statuses.getD (2 * h) .noHop).code ∧
    u8 (verdictBytes v) (0x18 + h) / 16 = (v.statuses.getD (2 * h + 1) .noHop).code := by
  have even := statusCode_lt (v.statuses.getD (2 * h) .noHop)
  have odd := statusCode_lt (v.statuses.getD (2 * h + 1) .noHop)
  rw [u8, verdictBytes_status v hh, toNat_ofNat_byte (by omega)]
  omega

/-- A hop power's field reads as the power, and as NO_POWER without one. -/
theorem verdictBytes_hopPower (v : Verdict) {h : Nat} (hh : h < 16) :
    (v.powers.getD h none = none → s16 (verdictBytes v) (0x20 + 2 * h) = -32768) ∧
    ∀ ph, v.powers.getD h none = some ph → -500 ≤ ph → ph ≤ 200 → s16 (verdictBytes v) (0x20 + 2 * h) = ph := by
  rw [s16, verdictBytes_power v hh]
  refine ⟨fun none_valid => by rw [none_valid]; decide, fun ph power least most => ?_⟩
  rw [power, Option.getD_some]
  exact toInt_ofInt_half (by omega) (by omega)

/-! ### The statement -/

/-- Settles O55: R157 by `roundedMean_nearest` and `hopPower_range`, and around it one lemma for each function of the
evaluator, the path patterns and key hops by the first hop a test holds of, the record by its head, statuses and powers. -/
theorem hopPower : Obligations.HopPower := by
  unfold Obligations.HopPower
  refine ⟨fun hop a => ⟨fun role => hopPower_guarded role a, hopPower_of_none hop, fun role valid => ?_⟩, by decide, by decide,
    by decide, by decide, fun hop a depth x h => accept_powers_range h hop depth x,
    fun p h ph => evaluate_powers_range h, fun hop a b depth x hb => ?_,
    fun hop a limit hlimit => spreadExceeded_iff hop a hlimit,
    fun hop a looks hlooks => ⟨fun role => hopStatus_unguarded role a hlooks, fun role => hopStatus_guarded role a looks⟩,
    fun r => ⟨margins_of_noPower, fun ph h => ?_⟩,
    fun rs ps => ⟨poweredHops_numbers rs, mem_poweredHops rs, spansOf_length ps, fun _ _ _ _ _ _ _ => spansOf_getElem?⟩,
    fun x => ⟨rfl, by simp [Span.tooMuchLoss], by simp [Span.tooMuchGain]⟩,
    fun rs all h => ?_, marginBin_spec,
    fun rs order => ⟨pathBroken_iff order, pathGap_iff order, pathIncomplete_iff order⟩, primary_eq_findIdx,
    fun code p rs order => ⟨fun h => keyHop_of_noMark h p rs, fun h => by subst h; rfl,
      fun r hr marked least hcode => keyHop_least (by tauto) p order hr marked least⟩,
    fun p rs v hrs hv => ?_, fun v b hb => ?_⟩
  · exact ⟨_, _, hopPower_mean role valid, rfl, roundedMean_nearest _ (List.length_pos_iff.2 valid)⟩
  · subst hb
    obtain ⟨done, seen⟩ := accept_counts a hop depth x
    have value := accept_value a hop depth x rfl
    simp only [rawPower, depthConstant_eq] at value
    exact ⟨done, seen, ⟨_, rfl, value⟩, accept_overload a hop depth x, accept_foundOnly a hop depth x⟩
  · obtain ⟨margin, low, high⟩ := margins_of_power h
    exact ⟨margin, low, high, not_low_and_high h⟩
  · subst h
    exact ⟨worstMargin_eq_none_iff rs, fun m => worstMargin_least⟩
  · subst hrs hv
    -- the fields between the hop results and the gathered flags are `evaluate`'s and `findingsOf`'s own
    exact ⟨hopResults_numbers p, fun k r => hopResults_found, rfl, rfl, rfl, rfl, rfl, rfl, rfl, rfl, rfl, rfl, rfl, rfl, rfl,
      rfl, rfl, rfl, rfl, rfl, rfl, rfl, rfl, rfl, findingsOf_gathered p (hopResults p)⟩
  · subst hb
    obtain ⟨id, generation, -, -, flags, -, -, -, -, listenFrom⟩ := verdictBytes_head v
    obtain ⟨-, -, -, zero⟩ := verdictBytes_misroute v rfl
    exact ⟨verdictBytes_length v, id, generation, verdictBytes_code v, verdictBytes_keyHop v,
      fun k hk => flags ▸ findingBits_getLsbD v.findings hk, verdictBytes_cause v, verdictBytes_voids v,
      (verdictBytes_margin v).1, (verdictBytes_margin v).2, fun c => verdictBytes_cross v, listenFrom,
      fun l => verdictBytes_location v, by rw [u8, zero]; rfl, fun h => verdictBytes_statusPair v,
      fun h => verdictBytes_hopPower v⟩

end Sys2Proof.Machine.HopVerdicts

/-! ## What every step keeps (O56 to O59)

Two relations between a device and a later one carry every law from step to step: `Kept` for the laws that read one or two
parts of the device, `Lawful` for those and the laws of launched probes. Each reaction is shown `Lawful` once, from the reactions
it is made of; `exec_lawful` puts the commands together, and the statements are read off its fields. -/

namespace Sys2Proof.Machine.StepLaws

/-! ### The laws that stand together -/

/-- The laws of a lead's credit and of the sightings it admits to the queue (R93, R101, R102, R110). -/
structure AdmissionLaws (d : Device) : Prop where
  peer : peerLaw d
  reserve : reserveLaw d
  held : heldLaw d

/-- A launch context of the device; see `contextAt_eq`. -/
def contextAt (d : Device) (c : Fin 8) : Context := d.launch.contexts[c]

/-- The state of a tone; see `toneAt_eq`. -/
def toneAt (d : Device) (t : Fin 48) : ToneState := d.tones[t]

/-- The probe of a record; see `recordAt_eq`. -/
def recordAt (d : Device) (r : Fin 16) : Option Probe := d.probes.records[r]

theorem contextAt_eq (d : Device) (c : Fin 8) : contextAt d c = d.launch.contexts[c] := rfl
theorem toneAt_eq (d : Device) (t : Fin 48) : toneAt d t = d.tones[t] := rfl
theorem recordAt_eq (d : Device) (r : Fin 16) : recordAt d r = d.probes.records[r] := rfl

/-- The record holds a probe in LAUNCHING, ARMED, LISTENING or GRACE. -/
def Launched (d : Device) (r : Fin 16) (p : Probe) : Prop := recordAt d r = some p ∧ p.state ≠ .evaluating

/-- The law of R62 and what it rests on, inside a reaction as well: `due` is the round since which the tone of a GRACE probe of a
record is quarantined, and the contexts of `stops` may still be ON while the STOPs of the reaction are to come. -/
structure Sound (due : Fin 16 → Round) (stops : Fin 8 → Prop) (d : Device) : Prop where
  owned : ∀ r p, Launched d r p → (contextAt d p.ctx).owner = some r
  named : ∀ r p, Launched d r p →
    (contextAt d p.ctx).point = p.record.point ∧ (contextAt d p.ctx).tone = p.tone
  fits : ∀ r p, Launched d r p → stateFits p.state (contextAt d p.ctx).state ∨
    (stops p.ctx ∧ p.state = .grace ∧ (contextAt d p.ctx).state = .on)
  toned : ∀ r p, Launched d r p →
    (p.state ≠ .grace ∧ toneAt d p.tone = .held r) ∨
    (p.state = .grace ∧ ∃ q, toneAt d p.tone = .quarantined q ∧ q.release = due r ∧
      ((contextAt d p.ctx).state ≠ .idle → q.stopConfirmed = false)) ∨
    (p.state = .grace ∧ (contextAt d p.ctx).state = .idle ∧ toneAt d p.tone = .stuck)
  unheard : ∀ r p, Launched d r p → (p.state = .launching ∨ p.state = .armed) → p.listenFrom = none
  toneAlone : ∀ r p, Launched d r p → ∀ c, c ≠ p.ctx → (contextAt d c).state ≠ .idle →
    (contextAt d c).tone ≠ p.tone
  tonesApart : ∀ r p q x, Launched d r p → Launched d q x → q ≠ r → x.tone ≠ p.tone
  pointsApart : ∀ r p q x, Launched d r p → Launched d q x → q ≠ r → p.holdsPoint = true → x.holdsPoint = true →
    x.record.point ≠ p.record.point
  letGo : ∀ r p, Launched d r p → p.holdsPoint = false → p.state = .grace ∧ (contextAt d p.ctx).state = .idle
  pointAlone : ∀ r p, Launched d r p → p.holdsPoint = true → isStuck d p.record.point = false ∧
    ∀ c, c ≠ p.ctx → (contextAt d c).state ≠ .idle → (contextAt d c).point ≠ p.record.point
  owner : ∀ (c : Fin 8) r, (contextAt d c).owner = some r → ∃ p, Launched d r p ∧ p.ctx = c
  ownerless : ∀ c : Fin 8, (contextAt d c).state ≠ .idle → (contextAt d c).owner = none →
    ((contextAt d c).state ≠ .on ∨ stops c) ∧
    ∃ q, toneAt d (contextAt d c).tone = .quarantined q ∧ q.stopConfirmed = false
  contextTones : ∀ b c : Fin 8, b ≠ c → (contextAt d b).state ≠ .idle → (contextAt d c).state ≠ .idle →
    (contextAt d b).tone ≠ (contextAt d c).tone
  contextPoints : ∀ b c : Fin 8, b ≠ c → (contextAt d b).state ≠ .idle → (contextAt d c).state ≠ .idle →
    (contextAt d b).point ≠ (contextAt d c).point
  unstuck : ∀ c : Fin 8, (contextAt d c).state ≠ .idle → isStuck d (contextAt d c).point = false
  stuckTones : ∀ e ∈ d.launch.stuck, toneAt d e.tone = .stuck
  stuckOnce : (d.launch.stuck.map (·.tone)).Nodup ∧ (d.launch.stuck.map (·.point)).Nodup
  stuck : stuckLaw d
  verdict : verdictLaw d

/-- The law of R62 and what it rests on, between reactions; launched probes exist in a RUNNING lead only. -/
structure ProbeLaws (d : Device) : Prop where
  sound : Sound (fun _ => d.rounds.number) (fun _ => False) d
  leading : ∀ r p, Launched d r p → d.leading = true

/-- The laws of the statement are those of `ProbeLaws`. -/
theorem probeLaws_iff (d : Device) : ProbeLaws d ↔
    probeLaw d ∧ contextLaw d ∧ ownerLaw d ∧ toneLaw d ∧ pointLaw d ∧ stuckLaw d ∧ verdictLaw d := by
  constructor
  · rintro ⟨law, leading⟩
    refine ⟨fun r p hr hp => ?_, fun r p hr hp => ?_, fun c r hc => ?_,
      ⟨fun c busy none_of => ?_, law.contextTones, law.stuckTones, law.stuckOnce.1⟩,
      ⟨fun r p hr hp => ⟨law.letGo r p ⟨hr, hp⟩, law.pointAlone r p ⟨hr, hp⟩⟩, law.contextPoints, law.unstuck,
        law.stuckOnce.2⟩, law.stuck, law.verdict⟩
    · refine ⟨law.owned r p ⟨hr, hp⟩, ?_, fun q x hq hx launched => ⟨law.tonesApart r p q x ⟨hr, hp⟩ ⟨hx, launched⟩ hq, ?_,
        law.pointsApart r p q x ⟨hr, hp⟩ ⟨hx, launched⟩ hq⟩⟩
      · obtain ⟨-, held⟩ | ⟨-, q, quarantined, -⟩ | ⟨-, -, stuck⟩ := law.toned r p ⟨hr, hp⟩
        · rw [← toneAt_eq, held]; simp
        · rw [← toneAt_eq, quarantined]; simp
        · rw [← toneAt_eq, stuck]; simp
      · intro same
        have mine := law.owned r p ⟨hr, hp⟩
        have its := law.owned q x ⟨hx, launched⟩
        rw [same, mine] at its
        exact hq (Option.some.inj its).symm
    · obtain ⟨point, tone⟩ := law.named r p ⟨hr, hp⟩
      have fits : stateFits p.state (contextAt d p.ctx).state := by
        simpa using law.fits r p ⟨hr, hp⟩
      refine ⟨leading r p ⟨hr, hp⟩, point, tone, fits, ?_, law.unheard r p ⟨hr, hp⟩, law.toneAlone r p ⟨hr, hp⟩⟩
      obtain held | ⟨grace, q, quarantined, release, unconfirmed⟩ | stuck := law.toned r p ⟨hr, hp⟩
      · exact .inl held
      · exact .inr (.inl ⟨grace, q, quarantined, release, fun stopping => unconfirmed (by rw [contextAt_eq, stopping]; simp)⟩)
      · exact .inr (.inr stuck)
    · obtain ⟨p, ⟨hr, hp⟩, ctx⟩ := law.owner c r hc
      exact ⟨p, hr, hp, ctx⟩
    · obtain ⟨off, quarantined⟩ := law.ownerless c busy none_of
      exact ⟨off.resolve_right id, quarantined⟩
  · rintro ⟨probe, context, owner, ⟨ownerless, contextTones, stuckTones, onceTone⟩, ⟨points, contextPoints, unstuck,
      oncePoint⟩, stuck, verdict⟩
    refine ⟨{
      owned := fun r p h => (probe r p h.1 h.2).1
      named := fun r p h => ⟨(context r p h.1 h.2).2.1, (context r p h.1 h.2).2.2.1⟩
      fits := fun r p h => .inl (context r p h.1 h.2).2.2.2.1
      toned := fun r p h => ?_
      unheard := fun r p h => (context r p h.1 h.2).2.2.2.2.2.1
      toneAlone := fun r p h => (context r p h.1 h.2).2.2.2.2.2.2
      tonesApart := fun r p q x h g hq => ((probe r p h.1 h.2).2.2 q x hq g.1 g.2).1
      pointsApart := fun r p q x h g hq => ((probe r p h.1 h.2).2.2 q x hq g.1 g.2).2.2
      letGo := fun r p h => (points r p h.1 h.2).1
      pointAlone := fun r p h => (points r p h.1 h.2).2
      owner := fun c r hc => ?_
      ownerless := fun c busy none_of => ?_
      contextTones := contextTones
      contextPoints := contextPoints
      unstuck := unstuck
      stuckTones := stuckTones
      stuckOnce := ⟨onceTone, oncePoint⟩
      stuck := stuck
      verdict := verdict }, fun r p h => (context r p h.1 h.2).1⟩
    · obtain ⟨-, -, -, fits, toned, -⟩ := context r p h.1 h.2
      obtain held | ⟨grace, q, quarantined, release, unconfirmed⟩ | stuck := toned
      · exact .inl held
      · refine .inr (.inl ⟨grace, q, quarantined, release, fun busy => unconfirmed ?_⟩)
        simp only [stateFits, grace, reduceCtorEq, false_and, false_or, or_self, true_and] at fits
        exact fits.resolve_right busy
      · exact .inr (.inr stuck)
    · obtain ⟨p, hr, hp, ctx⟩ := owner c r hc
      exact ⟨p, ⟨hr, hp⟩, ctx⟩
    · exact ⟨.inl (ownerless c busy none_of).1, (ownerless c busy none_of).2⟩

/-! ### A law holds on where what it reads stands -/

section Congruence
variable {d e : Device}

theorem credit_of_lead (h : e.lead = d.lead) : creditLaw d ∧ lentLaw d → creditLaw e ∧ lentLaw e := by
  intro law
  simpa only [creditLaw, lentLaw, h] using law

theorem admission_of_eq (hp : ∀ p : Fin 16, e.lead.peers[p] = d.lead.peers[p])
    (hq : e.classifier.queue = d.classifier.queue) (hd : e.taps.detectors = d.taps.detectors) :
    AdmissionLaws d → AdmissionLaws e := by
  intro law
  have peers : e.lead.peers = d.lead.peers := by
    ext i hi
    exact hp ⟨i, hi⟩
  refine ⟨?_, ?_, ?_⟩
  · simpa only [peerLaw, inQueue, hq, hp] using law.peer
  · simpa only [reserveLaw, LeadLink.reserves, peers] using law.reserve
  · simpa only [heldLaw, hd] using law.held

theorem hold_of_le (h : e.follower.hold.length ≤ d.follower.hold.length) : holdLaw d → holdLaw e :=
  fun law => Nat.le_trans h law

theorem requests_of_le (h : e.journal.requests.length ≤ d.journal.requests.length) : requestLaw d → requestLaw e :=
  fun law => Nat.le_trans h law

theorem share_of_queue (h : e.classifier.queue = d.classifier.queue) : localLaw d → localLaw e := by
  simp only [localLaw, localCount, h, imp_self]

theorem start_of_iface (h : e.iface = d.iface) : startLaw d → startLaw e := by
  simp only [startLaw, h, imp_self]

theorem faulted_of_eq (h : e.iface = d.iface) (hr : e.regs.run = d.regs.run) :
    startLaw d → faultedLaw d → faultedLaw e := by
  simp only [faultedLaw, h, hr]
  exact fun _ law => law

theorem summary_of_counts (h : ∀ n : Fin 8, e.slots[n].summary = d.slots[n].summary ∧
    e.slots[n].verdicts = d.slots[n].verdicts) : summaryLaw d → summaryLaw e := by
  intro law n
  rw [(h n).1, (h n).2]
  exact law n

theorem summary_of_slots (h : e.slots = d.slots) : summaryLaw d → summaryLaw e :=
  summary_of_counts (fun n => by simp only [h, and_self])

theorem bus_of_sameBus (h : SameBus d e) : busLaw d → busLaw e := by
  intro law c
  have same : outstanding e c = outstanding d c := by
    simp only [outstanding, h.sending, h.waiting, h.issued]
  obtain ⟨state, timer, -⟩ := h.context c
  obtain ⟨one, own, running⟩ := law c
  rw [same, state, timer]
  refine ⟨one, fun b hb => ?_, running⟩
  have awaited := own b hb
  unfold awaitsReply at awaited ⊢
  split
  all_goals simp_all

theorem bus_of_launch (h : e.launch = d.launch) : busLaw d → busLaw e :=
  bus_of_sameBus (SameBus.of_eq h)

theorem area_of_areas (h : e.areas = d.areas) : areaLaw d → areaLaw e := by
  simp only [areaLaw, h, imp_self]

theorem verdictRecords_congr (h : e.dma = d.dma) : verdictRecords e = verdictRecords d := by
  simp only [verdictRecords, h]

theorem busyContexts_congr (h : ∀ c, (contextAt e c).state = (contextAt d c).state) :
    busyContexts e = busyContexts d := by
  have states : e.launch.contexts.toList.map (·.state) = d.launch.contexts.toList.map (·.state) := by
    refine List.ext_getElem (by simp) (fun i hi _ => ?_)
    have at_i := h ⟨i, by simpa using hi⟩
    simpa [contextAt] using at_i
  have count : ∀ x : Device, busyContexts x = (x.launch.contexts.toList.map (·.state)).countP (· != .idle) := fun x => by
    rw [busyContexts, List.countP_map]
    rfl
  rw [count, count, states]

/-- The laws of launched probes read the probe records, of each context its state, owner, point and tone, the stuck list, the
tones and the verdict record writes. -/
theorem Sound.congr {due : Fin 16 → Round} {stops : Fin 8 → Prop}
    (hr : ∀ r, recordAt e r = recordAt d r)
    (hc : ∀ c, (contextAt e c).state = (contextAt d c).state ∧ (contextAt e c).owner = (contextAt d c).owner ∧
      (contextAt e c).point = (contextAt d c).point ∧ (contextAt e c).tone = (contextAt d c).tone)
    (hs : e.launch.stuck = d.launch.stuck) (ht : ∀ t, toneAt e t = toneAt d t)
    (hv : (verdictRecords e).Sublist (verdictRecords d)) (law : Sound due stops d) : Sound due stops e := by
  have launched : ∀ r p, Launched e r p ↔ Launched d r p := fun r p => by rw [Launched, Launched, hr]
  have state := fun c => (hc c).1
  have owner := fun c => (hc c).2.1
  have point := fun c => (hc c).2.2.1
  have tone := fun c => (hc c).2.2.2
  have isStuck : ∀ x, isStuck e x = isStuck d x := fun x => by rw [Machine.isStuck, Machine.isStuck, hs]
  constructor
  case verdict =>
    refine ⟨law.verdict.1.sublist hv, fun r mem => ?_⟩
    obtain ⟨p, hp, evaluating⟩ := law.verdict.2 r (hv.subset mem)
    exact ⟨p, (hr r).trans hp, evaluating⟩
  case stuck => simpa only [stuckLaw, hs, busyContexts_congr state] using law.stuck
  all_goals simp only [launched, state, owner, point, tone, isStuck, hs, ht]
  · exact law.owned
  · exact law.named
  · exact law.fits
  · exact law.toned
  · exact law.unheard
  · exact law.toneAlone
  · exact law.tonesApart
  · exact law.pointsApart
  · exact law.letGo
  · exact law.pointAlone
  · exact law.owner
  · exact law.ownerless
  · exact law.contextTones
  · exact law.contextPoints
  · exact law.unstuck
  · exact law.stuckTones
  · exact law.stuckOnce

theorem probes_of_sublist (hv : (verdictRecords e).Sublist (verdictRecords d)) (hi : e.iface = d.iface)
    (hn : e.rounds.number = d.rounds.number) (hr : e.probes.records = d.probes.records) (hl : e.launch = d.launch)
    (ht : e.tones = d.tones) : startLaw d → ProbeLaws d → ProbeLaws e := by
  rintro - ⟨law, leading⟩
  refine ⟨?_, fun r p launched => ?_⟩
  · rw [hn]
    exact law.congr (by simp only [recordAt, hr, implies_true]) (by simp only [contextAt, hl, and_self, implies_true]) (by rw [hl])
      (by simp only [toneAt, ht, implies_true]) hv
  · rw [Launched, recordAt, hr] at launched
    simpa only [Device.leading, Device.running, hi] using leading r p launched

theorem probes_of_dma (hd : e.dma = d.dma) (hi : e.iface = d.iface) (hn : e.rounds.number = d.rounds.number)
    (hr : e.probes.records = d.probes.records) (hl : e.launch = d.launch) (ht : e.tones = d.tones) :
    startLaw d → ProbeLaws d → ProbeLaws e :=
  probes_of_sublist (verdictRecords_congr hd ▸ List.Sublist.refl _) hi hn hr hl ht

/-- The access writes the verdict of a probe. -/
def writesVerdict : AccessKind → Bool
  | .verdictWrite _ _ _ r _ _ => r.isSome
  | _ => false

theorem verdictRecord_eq_none {a : Access} (h : writesVerdict a.kind = false) : verdictRecord a = none := by
  unfold verdictRecord
  split
  · rename_i hk
    simpa [writesVerdict, hk] using h
  · rfl

theorem filterMap_verdictRecord {xs : List Access} (h : ∀ a ∈ xs, writesVerdict a.kind = false) :
    xs.filterMap verdictRecord = [] := by
  rw [List.filterMap_eq_nil_iff]
  exact fun a mem => verdictRecord_eq_none (h a mem)

theorem verdictRecords_of_adds (h : Adds writesVerdict d e) : verdictRecords e = verdictRecords d := by
  obtain ⟨xs, inFlight, none_of⟩ := h.inFlight
  obtain ⟨ys, refused, none_of'⟩ := h.refused
  have xs_nil : (xs.filter (fun a => !a.discarded)).filterMap verdictRecord = [] :=
    filterMap_verdictRecord (fun a mem => none_of a (List.mem_of_mem_filter mem))
  simp only [verdictRecords, inFlight, refused, List.filter_append, List.filterMap_append, xs_nil,
    filterMap_verdictRecord none_of', List.append_nil]

end Congruence

/-! ### The two relations -/

/-- Every law but those of launched probes holds on. What a reaction does not touch is filled in by its frame lemmas. -/
structure Kept (d e : Device) : Prop where
  credit : creditLaw d ∧ lentLaw d → creditLaw e ∧ lentLaw e := by exact credit_of_lead (by simp)
  admission : AdmissionLaws d → AdmissionLaws e := by exact admission_of_eq (by simp) (by simp) (by simp)
  hold : holdLaw d → holdLaw e := by exact hold_of_le (by simp)
  requests : requestLaw d → requestLaw e := by exact requests_of_le (by simp)
  share : localLaw d → localLaw e := by exact share_of_queue (by simp)
  start : startLaw d → startLaw e := by exact start_of_iface (by simp)
  faulted : startLaw d → faultedLaw d → faultedLaw e := by exact faulted_of_eq (by simp) (by simp)
  summary : summaryLaw d → summaryLaw e := by exact summary_of_slots (by simp)
  bus : busLaw d → busLaw e := by exact bus_of_launch (by simp)
  area : areaLaw d → areaLaw e := by exact area_of_areas (by simp)

/-- Every law holds on. -/
structure Lawful (d e : Device) : Prop extends Kept d e where
  probes : startLaw d → ProbeLaws d → ProbeLaws e := by
    exact probes_of_dma (by simp) (by simp) (by simp) (by simp) (by simp) (by simp)

theorem Kept.trans {d e f : Device} (h : Kept d e) (k : Kept e f) : Kept d f where
  credit law := k.credit (h.credit law)
  admission law := k.admission (h.admission law)
  hold law := k.hold (h.hold law)
  requests law := k.requests (h.requests law)
  share law := k.share (h.share law)
  start law := k.start (h.start law)
  faulted start law := k.faulted (h.start start) (h.faulted start law)
  summary law := k.summary (h.summary law)
  bus law := k.bus (h.bus law)
  area law := k.area (h.area law)

theorem Lawful.trans {d e f : Device} (h : Lawful d e) (k : Lawful e f) : Lawful d f where
  toKept := h.toKept.trans k.toKept
  probes start law := k.probes (h.start start) (h.probes start law)

theorem Lawful.refl (d : Device) : Lawful d d where

theorem Lawful.foldl {β : Type} {f : Device → β → Device} (h : ∀ d b, Lawful d (f d b)) (xs : List β) (d : Device) :
    Lawful d (xs.foldl f d) := by
  induction xs generalizing d with
  | nil => exact .refl d
  | cons x xs ih => exact (h d x).trans (ih (f d x))

/-- The laws of launched probes after a reaction that begins accesses but no verdict write of a probe, and touches nothing else
those laws read. -/
theorem probes_of_adds {d e : Device} (h : Adds writesVerdict d e)
    (hn : e.rounds.number = d.rounds.number := by simp) (hr : e.probes.records = d.probes.records := by simp)
    (hl : e.launch = d.launch := by simp) (ht : e.tones = d.tones := by simp) :
    startLaw d → ProbeLaws d → ProbeLaws e :=
  probes_of_sublist (verdictRecords_of_adds h ▸ List.Sublist.refl _) h.iface hn hr hl ht

/-! ### Board accesses -/

theorem issue_lawful (k : AccessKind) (a l : Nat) (b : List Byte) (o : Bool) (d : Device) (h : writesVerdict k = false) :
    Lawful d (issue k a l b o d) where
  probes := probes_of_adds (issue_adds k a l b o d h)

theorem oweAs_lawful (o : Bool) (ch : Channel) (d : Device) : Lawful d (oweAs o ch d) where
  summary := summary_of_counts (fun n => by
    obtain ⟨x, v, eq, same⟩ := oweAs_frame o ch d
    obtain ⟨k, b, slot⟩ := same n
    rw [eq]
    dsimp only
    rw [slot]
    exact ⟨rfl, rfl⟩)
  probes := probes_of_adds (oweAs_adds o ch d (fun _ _ => rfl))

theorem owe_lawful (ch : Channel) (d : Device) : Lawful d (owe ch d) := oweAs_lawful false ch d

/-- A reaction of the accesses alone that begins no verdict write of a probe. -/
theorem dma_lawful (x : Dma) (d : Device) (h : (verdictRecords { d with dma := x }).Sublist (verdictRecords d)) :
    Lawful d { d with dma := x } where
  probes := probes_of_sublist h rfl rfl rfl rfl rfl

theorem noteChannel_lawful (ch : Channel) (d : Device) : Lawful d (noteChannel ch d) := by
  unfold noteChannel
  split
  · rename_i n
    exact { summary := summary_of_counts (fun m => by rw [Device.setSlot_slots_get]; split <;> simp_all) }
  · exact .refl d

theorem channelKind_writesVerdict (ch : Channel) (d : Device) : writesVerdict (channelKind ch d) = false := by
  obtain ⟨c, b, h⟩ := channelKind_shape ch d
  rw [h]
  rfl

theorem issueChannel_lawful (ch : Channel) (o : Bool) (d : Device) : Lawful d (issueChannel ch o d) := by
  unfold issueChannel
  exact (issue_lawful _ _ _ _ _ d (channelKind_writesVerdict ch d)).trans (noteChannel_lawful ch _)

theorem reissue_lawful (ch : Channel) (d : Device) : Lawful d (reissue ch d) := by
  unfold reissue
  split
  · refine (dma_lawful (d.dma.settleOwed ch) d ?_).trans (issueChannel_lawful ch _ _)
    exact List.Sublist.refl _
  · exact .refl d

theorem dropAccess_lawful (d : Device) (tag : Nat) : Lawful d (dropAccess d tag) := by
  refine dma_lawful _ d ?_
  exact ((List.filter_sublist.filter _).append (List.Sublist.refl _)).filterMap _

/-- Marking accesses as discarded leaves fewer that count. -/
theorem marked_sublist (p : Access → Bool) (xs : List Access) :
    ((xs.map (fun a => if p a then { a with discarded := true } else a)).filter (fun a => !a.discarded)).Sublist
      (xs.filter (fun a => !a.discarded)) := by
  induction xs with
  | nil => exact List.Sublist.refl _
  | cons a xs ih =>
    cases hp : p a with
    | false => cases hd : a.discarded <;> simpa [hp, hd] using ih
    | true => cases hd : a.discarded <;> simp [hp, hd, ih, List.Sublist.cons]

theorem discardWhere_lawful (p : Access → Bool) (d : Device) : Lawful d (discardWhere p d) := by
  refine dma_lawful _ d ?_
  exact ((marked_sublist p _).append (List.Sublist.refl _)).filterMap _

theorem dropStartAccesses_lawful (d : Device) : Lawful d (dropStartAccesses d) :=
  (dma_lawful { d.dma with owed := _, startOwed := [] } d (List.Sublist.refl _)).trans (discardWhere_lawful _ _)

theorem releaseStartAccesses_lawful (d : Device) : Lawful d (releaseStartAccesses d) := by
  refine dma_lawful _ d ?_
  simp only [verdictRecords, List.filterMap_append]
  refine List.Sublist.append ?_ (List.Sublist.refl _)
  rw [List.filter_map, List.filterMap_map]
  exact List.Sublist.refl _

/-! ### The journal writer -/

theorem raise_lawful (c : Cause) (d : Device) : Lawful d (raise c d) where

theorem serveJournal_writes (d : Device) : Adds writesVerdict d (serveJournal d) :=
  serveJournal_adds (fun _ _ => rfl) rfl d

theorem journalRequest_writes (e : JournalEntry) (k : Option CoalesceKey) (d : Device) :
    Adds writesVerdict d (journalRequest e k d) :=
  journalRequest_adds (fun _ _ => rfl) rfl e k d

theorem serveJournal_lawful (d : Device) : Lawful d (serveJournal d) := by
  obtain ⟨j, x, c, eq, shorter⟩ := serveJournal_frame d
  exact {
    requests := requests_of_le (by rw [eq]; exact shorter)
    faulted := faulted_of_eq (by simp) (by rw [eq])
    probes := probes_of_adds (serveJournal_writes d) }

theorem enqueueJournal_requests (e : JournalEntry) (d : Device) (law : requestLaw d) :
    requestLaw (enqueueJournal e d) := by
  unfold enqueueJournal
  split
  · obtain ⟨j, x, c, eq, same⟩ := journalOverflow_frame d
    exact requests_of_le (by rw [eq]; exact Nat.le_of_eq (congrArg _ same)) law
  · rename_i room
    refine (serveJournal_lawful _).requests ?_
    simp only [requestLaw, List.length_append, List.length_cons, List.length_nil]
    omega

theorem journalRequest_requests (e : JournalEntry) (k : Option CoalesceKey) (d : Device) (law : requestLaw d) :
    requestLaw (journalRequest e k d) := by
  unfold journalRequest
  split
  · split
    · exact enqueueJournal_requests e d law
    · split
      · exact law
      · exact enqueueJournal_requests e _ law
  · exact law

theorem journalRequest_lawful (e : JournalEntry) (k : Option CoalesceKey) (d : Device) :
    Lawful d (journalRequest e k d) where
  requests := journalRequest_requests e k d
  probes := probes_of_adds (journalRequest_writes e k d)

theorem journalWritten_lawful (d : Device) : Lawful d (journalWritten d) := by
  have counted : Lawful d { d with journal := { d.journal with produced := d.journal.produced + 1#32 } } := { }
  unfold journalWritten
  dsimp only
  refine Lawful.trans (Lawful.trans ?_ (owe_lawful _ _)) (serveJournal_lawful _)
  split
  · exact counted.trans (raise_lawful _ _)
  · exact counted

theorem readConsumed_lawful (d : Device) : Lawful d (readConsumed d) := by
  unfold readConsumed
  split
  · exact { }
  · exact issue_lawful _ _ _ _ _ d rfl

theorem consumedTaken_lawful (v : Word) (d : Device) : Lawful d (consumedTaken v d) := by
  have cached : Lawful d { d with journal := { d.journal with consumed := v, readPending := false } } := { }
  unfold consumedTaken
  dsimp only
  refine Lawful.trans ?_ (serveJournal_lawful _)
  split
  · exact cached.trans (issue_lawful _ _ _ _ _ _ rfl)
  · exact cached

end Sys2Proof.Machine.StepLaws

namespace Sys2Proof.Machine.StepLaws

/-! ### The launched probes: counting contexts, and who is launched -/

/-- The laws of launched probes read of the records which probes are launched, and the verdict writes. -/
theorem Sound.of_launched_iff {due : Fin 16 → Round} {stops : Fin 8 → Prop} {d : Device} {r : Fin 16} {x : Option Probe}
    (law : Sound due stops d) (h : ∀ k y, Launched (d.setRecord r x) k y ↔ Launched d k y)
    (verdict : verdictLaw (d.setRecord r x)) : Sound due stops (d.setRecord r x) := by
  have was : ∀ k y, Launched (d.setRecord r x) k y → Launched d k y := fun k y => (h k y).1
  exact {
    owned := fun k y hy => law.owned k y (was k y hy)
    named := fun k y hy => law.named k y (was k y hy)
    fits := fun k y hy => law.fits k y (was k y hy)
    toned := fun k y hy => law.toned k y (was k y hy)
    unheard := fun k y hy => law.unheard k y (was k y hy)
    toneAlone := fun k y hy => law.toneAlone k y (was k y hy)
    tonesApart := fun k y l z hy hz => law.tonesApart k y l z (was k y hy) (was l z hz)
    pointsApart := fun k y l z hy hz => law.pointsApart k y l z (was k y hy) (was l z hz)
    letGo := fun k y hy => law.letGo k y (was k y hy)
    pointAlone := fun k y hy => law.pointAlone k y (was k y hy)
    owner := fun c k hc => by
      obtain ⟨y, hy, ctx⟩ := law.owner c k hc
      exact ⟨y, (h k y).2 hy, ctx⟩
    ownerless := law.ownerless
    contextTones := law.contextTones
    contextPoints := law.contextPoints
    unstuck := law.unstuck
    stuckTones := law.stuckTones
    stuckOnce := law.stuckOnce
    stuck := law.stuck
    verdict := verdict }

/-- The launch contexts in use. -/
def busySet (d : Device) : Finset (Fin 8) := Finset.univ.filter (fun c => (contextAt d c).state ≠ .idle)

theorem mem_busySet (d : Device) (c : Fin 8) : c ∈ busySet d ↔ (contextAt d c).state ≠ .idle := by
  simp [busySet]

theorem busyContexts_eq_card (d : Device) : busyContexts d = (busySet d).card := by
  have listed : d.launch.contexts.toList = (List.finRange 8).map (contextAt d) := by
    refine List.ext_getElem (by simp) (fun i _ _ => ?_)
    simp [contextAt]
  have set : busySet d = ((List.finRange 8).filter (fun c => (contextAt d c).state != .idle)).toFinset := by
    ext c
    simp [busySet]
  rw [busyContexts, listed, List.countP_map, List.countP_eq_length_filter, set,
    List.toFinset_card_of_nodup ((List.nodup_finRange 8).filter _)]
  rfl

theorem busyContexts_le {d e : Device} (h : ∀ c, (contextAt e c).state ≠ .idle → (contextAt d c).state ≠ .idle) :
    busyContexts e ≤ busyContexts d := by
  rw [busyContexts_eq_card, busyContexts_eq_card]
  exact Finset.card_le_card (fun c hc => (mem_busySet d c).2 (h c ((mem_busySet e c).1 hc)))

/-- The laws read of a context its state, owner, point and tone. -/
def SameContext (x y : Context) : Prop :=
  x.state = y.state ∧ x.owner = y.owner ∧ x.point = y.point ∧ x.tone = y.tone

/-- Two launched probes have two contexts. -/
theorem Sound.ctx_ne {due : Fin 16 → Round} {stops : Fin 8 → Prop} {d : Device} (law : Sound due stops d) {r q : Fin 16}
    {p x : Probe} (hp : Launched d r p) (hx : Launched d q x) (hq : q ≠ r) : x.ctx ≠ p.ctx := by
  intro same
  have mine := law.owned r p hp
  rw [← same, law.owned q x hx] at mine
  exact hq (Option.some.inj mine)

theorem Launched.unique {d : Device} {r : Fin 16} {p x : Probe} (hp : Launched d r p) (hx : Launched d r x) : x = p := by
  have := hx.1.symm.trans hp.1
  exact Option.some.inj this

/-- A launched probe ends: its record is emptied or EVALUATING, its context is left without owner and, where it stays in use,
with its tone quarantined and its stop not confirmed. -/
theorem Sound.ends {due : Fin 16 → Round} {stops stops' : Fin 8 → Prop} {d e : Device} {r : Fin 16} {p : Probe}
    (law : Sound due stops d) (hp : Launched d r p) (wider : ∀ c, stops c → stops' c)
    (records : ∀ q, q ≠ r → recordAt e q = recordAt d q) (gone : ∀ x, recordAt e r = some x → x.state = .evaluating)
    (others : ∀ c, c ≠ p.ctx → SameContext (contextAt e c) (contextAt d c))
    (mine : (contextAt e p.ctx).owner = none ∧ (contextAt e p.ctx).point = (contextAt d p.ctx).point ∧
      (contextAt e p.ctx).tone = (contextAt d p.ctx).tone)
    (busy : (contextAt e p.ctx).state ≠ .idle → (contextAt d p.ctx).state ≠ .idle ∧
      ((contextAt e p.ctx).state ≠ .on ∨ stops' p.ctx) ∧ ∃ q, toneAt e p.tone = .quarantined q ∧ q.stopConfirmed = false)
    (stuck : e.launch.stuck = d.launch.stuck) (tones : ∀ t, t ≠ p.tone → toneAt e t = toneAt d t)
    (stays : toneAt d p.tone = .stuck → toneAt e p.tone = .stuck) (verdict : verdictLaw e) : Sound due stops' e := by
  have launched : ∀ q x, Launched e q x → Launched d q x ∧ q ≠ r := by
    rintro q x ⟨hx, running⟩
    by_cases hq : q = r
    · subst hq
      exact absurd (gone x hx) running
    · exact ⟨⟨(records q hq) ▸ hx, running⟩, hq⟩
  have inUse : ∀ c, (contextAt e c).state ≠ .idle → (contextAt d c).state ≠ .idle := by
    intro c hc
    by_cases h : c = p.ctx
    · subst h
      exact (busy hc).1
    · rwa [← (others c h).1]
  have point : ∀ c, (contextAt e c).point = (contextAt d c).point := fun c =>
    if h : c = p.ctx then h ▸ mine.2.1 else (others c h).2.2.1
  have tone : ∀ c, (contextAt e c).tone = (contextAt d c).tone := fun c =>
    if h : c = p.ctx then h ▸ mine.2.2 else (others c h).2.2.2
  have same : ∀ q x, Launched e q x → SameContext (contextAt e x.ctx) (contextAt d x.ctx) ∧ toneAt e x.tone = toneAt d x.tone :=
    fun q x hx => ⟨others _ (law.ctx_ne hp (launched q x hx).1 (launched q x hx).2),
      tones _ (law.tonesApart r p q x hp (launched q x hx).1 (launched q x hx).2)⟩
  have stuckAt : ∀ y, isStuck e y = isStuck d y := fun y => by rw [isStuck, isStuck, stuck]
  constructor
  case owned => intro q x hx; rw [(same q x hx).1.2.1]; exact law.owned q x (launched q x hx).1
  case named => intro q x hx; rw [point, tone]; exact law.named q x (launched q x hx).1
  case fits =>
    intro q x hx
    rw [(same q x hx).1.1]
    exact (law.fits q x (launched q x hx).1).imp_right (fun ⟨h, rest⟩ => ⟨wider _ h, rest⟩)
  case toned => intro q x hx; rw [(same q x hx).1.1, (same q x hx).2]; exact law.toned q x (launched q x hx).1
  case unheard => intro q x hx; exact law.unheard q x (launched q x hx).1
  case toneAlone => intro q x hx c hc inuse; rw [tone]; exact law.toneAlone q x (launched q x hx).1 c hc (inUse c inuse)
  case tonesApart => intro q x k y hx hy; exact law.tonesApart q x k y (launched q x hx).1 (launched k y hy).1
  case pointsApart => intro q x k y hx hy; exact law.pointsApart q x k y (launched q x hx).1 (launched k y hy).1
  case letGo => intro q x hx; rw [(same q x hx).1.1]; exact law.letGo q x (launched q x hx).1
  case pointAlone =>
    intro q x hx holds
    obtain ⟨free, alone⟩ := law.pointAlone q x (launched q x hx).1 holds
    exact ⟨(stuckAt _).trans free, fun c hc inuse => point c ▸ alone c hc (inUse c inuse)⟩
  case owner =>
    intro c q hc
    by_cases h : c = p.ctx
    · subst h
      rw [mine.1] at hc
      cases hc
    · rw [(others c h).2.1] at hc
      obtain ⟨x, hx, ctx⟩ := law.owner c q hc
      have hq : q ≠ r := fun hq => by
        subst hq
        exact h (ctx ▸ congrArg Probe.ctx (hp.unique hx))
      exact ⟨x, ⟨(records q hq).trans hx.1, hx.2⟩, ctx⟩
  case ownerless =>
    intro c inuse none_of
    by_cases h : c = p.ctx
    · subst h
      rw [mine.2.2, (law.named r p hp).2]
      exact (busy inuse).2
    · rw [(others c h).1, (others c h).2.2.2] at *
      rw [(others c h).2.1] at none_of
      rw [tones _ (law.toneAlone r p hp c h inuse)]
      exact ⟨(law.ownerless c inuse none_of).1.imp_right (wider c), (law.ownerless c inuse none_of).2⟩
  case contextTones => intro b c hbc hb hc; rw [tone, tone]; exact law.contextTones b c hbc (inUse b hb) (inUse c hc)
  case contextPoints => intro b c hbc hb hc; rw [point, point]; exact law.contextPoints b c hbc (inUse b hb) (inUse c hc)
  case unstuck => intro c hc; rw [stuckAt, point]; exact law.unstuck c (inUse c hc)
  case stuckTones =>
    intro x hx
    rw [stuck] at hx
    by_cases h : x.tone = p.tone
    · exact h ▸ stays (h ▸ law.stuckTones x hx)
    · exact (tones _ h).trans (law.stuckTones x hx)
  case stuckOnce => rw [stuck]; exact law.stuckOnce
  case stuck =>
    have fewer := busyContexts_le inUse
    have most : d.launch.stuck.length + busyContexts d ≤ 8 := law.stuck
    show e.launch.stuck.length + busyContexts e ≤ 8
    rw [stuck]
    omega
  case verdict => exact verdict

/-- A launched probe goes on in another state, its context in another state as well. -/
theorem Sound.turns {due due' : Fin 16 → Round} {stops stops' : Fin 8 → Prop} {d e : Device} {r : Fin 16} {p q : Probe}
    (law : Sound due stops d) (hp : Launched d r p) (hq : Launched e r q) (wider : ∀ c, c ≠ p.ctx → stops c → stops' c)
    (same : q.tone = p.tone ∧ q.ctx = p.ctx ∧ q.record.point = p.record.point ∧ q.holdsPoint = p.holdsPoint)
    (dues : ∀ k, k ≠ r → due' k = due k) (records : ∀ k, k ≠ r → recordAt e k = recordAt d k)
    (others : ∀ c, c ≠ p.ctx → SameContext (contextAt e c) (contextAt d c))
    (mine : (contextAt e p.ctx).owner = (contextAt d p.ctx).owner ∧ (contextAt e p.ctx).point = (contextAt d p.ctx).point ∧
      (contextAt e p.ctx).tone = (contextAt d p.ctx).tone)
    (busy : (contextAt e p.ctx).state ≠ .idle → (contextAt d p.ctx).state ≠ .idle)
    (stuck : e.launch.stuck = d.launch.stuck) (tones : ∀ t, t ≠ p.tone → toneAt e t = toneAt d t)
    (stays : toneAt d p.tone = .stuck → toneAt e p.tone = .stuck)
    (fits : stateFits q.state (contextAt e q.ctx).state ∨
      (stops' q.ctx ∧ q.state = .grace ∧ (contextAt e q.ctx).state = .on))
    (toned : (q.state ≠ .grace ∧ toneAt e q.tone = .held r) ∨
      (q.state = .grace ∧ ∃ x, toneAt e q.tone = .quarantined x ∧ x.release = due' r ∧
        ((contextAt e q.ctx).state ≠ .idle → x.stopConfirmed = false)) ∨
      (q.state = .grace ∧ (contextAt e q.ctx).state = .idle ∧ toneAt e q.tone = .stuck))
    (unheard : (q.state = .launching ∨ q.state = .armed) → q.listenFrom = none)
    (letGo : q.holdsPoint = false → q.state = .grace ∧ (contextAt e q.ctx).state = .idle)
    (verdict : verdictLaw e) : Sound due' stops' e := by
  obtain ⟨sameTone, sameCtx, samePoint, sameHold⟩ := same
  have inUse : ∀ c, (contextAt e c).state ≠ .idle → (contextAt d c).state ≠ .idle := by
    intro c hc
    by_cases h : c = p.ctx
    · subst h
      exact busy hc
    · rwa [← (others c h).1]
  have owner : ∀ c, (contextAt e c).owner = (contextAt d c).owner := fun c =>
    if h : c = p.ctx then h ▸ mine.1 else (others c h).2.1
  have point : ∀ c, (contextAt e c).point = (contextAt d c).point := fun c =>
    if h : c = p.ctx then h ▸ mine.2.1 else (others c h).2.2.1
  have tone : ∀ c, (contextAt e c).tone = (contextAt d c).tone := fun c =>
    if h : c = p.ctx then h ▸ mine.2.2 else (others c h).2.2.2
  have was : ∀ k x, Launched e k x → ∃ y, Launched d k y ∧ x.tone = y.tone ∧ x.ctx = y.ctx ∧
      x.record.point = y.record.point ∧ x.holdsPoint = y.holdsPoint := by
    intro k x hx
    by_cases hk : k = r
    · subst hk
      obtain rfl := hq.unique hx
      exact ⟨p, hp, sameTone, sameCtx, samePoint, sameHold⟩
    · exact ⟨x, ⟨(records k hk) ▸ hx.1, hx.2⟩, rfl, rfl, rfl, rfl⟩
  have stood : ∀ k x, k ≠ r → Launched e k x → Launched d k x ∧ SameContext (contextAt e x.ctx) (contextAt d x.ctx) ∧
      toneAt e x.tone = toneAt d x.tone := by
    intro k x hk hx
    have hx' : Launched d k x := ⟨(records k hk) ▸ hx.1, hx.2⟩
    exact ⟨hx', others _ (law.ctx_ne hp hx' hk), tones _ (law.tonesApart r p k x hp hx' hk)⟩
  have stuckAt : ∀ y, isStuck e y = isStuck d y := fun y => by rw [isStuck, isStuck, stuck]
  constructor
  case owned =>
    intro k x hx
    obtain ⟨y, hy, -, ctx, -⟩ := was k x hx
    rw [owner, ctx]
    exact law.owned k y hy
  case named =>
    intro k x hx
    obtain ⟨y, hy, toneEq, ctx, pointEq, -⟩ := was k x hx
    rw [point, tone, ctx, toneEq, pointEq]
    exact law.named k y hy
  case fits =>
    intro k x hx
    by_cases hk : k = r
    · subst hk
      obtain rfl := hq.unique hx
      exact fits
    · obtain ⟨hx', ctx, -⟩ := stood k x hk hx
      rw [ctx.1]
      exact (law.fits k x hx').imp_right (fun ⟨h, rest⟩ => ⟨wider _ (law.ctx_ne hp hx' hk) h, rest⟩)
  case toned =>
    intro k x hx
    by_cases hk : k = r
    · subst hk
      obtain rfl := hq.unique hx
      exact toned
    · obtain ⟨hx', ctx, toneEq⟩ := stood k x hk hx
      rw [ctx.1, toneEq, dues k hk]
      exact law.toned k x hx'
  case unheard =>
    intro k x hx
    by_cases hk : k = r
    · subst hk
      obtain rfl := hq.unique hx
      exact unheard
    · exact law.unheard k x (stood k x hk hx).1
  case toneAlone =>
    intro k x hx c hc inuse
    obtain ⟨y, hy, toneEq, ctx, -⟩ := was k x hx
    rw [tone, toneEq]
    exact law.toneAlone k y hy c (ctx ▸ hc) (inUse c inuse)
  case tonesApart =>
    intro k x l y hx hy hl
    obtain ⟨x', hx', toneX, -⟩ := was k x hx
    obtain ⟨y', hy', toneY, -⟩ := was l y hy
    rw [toneX, toneY]
    exact law.tonesApart k x' l y' hx' hy' hl
  case pointsApart =>
    intro k x l y hx hy hl
    obtain ⟨x', hx', -, -, pointX, holdX⟩ := was k x hx
    obtain ⟨y', hy', -, -, pointY, holdY⟩ := was l y hy
    rw [pointX, pointY, holdX, holdY]
    exact law.pointsApart k x' l y' hx' hy' hl
  case letGo =>
    intro k x hx
    by_cases hk : k = r
    · subst hk
      obtain rfl := hq.unique hx
      exact letGo
    · obtain ⟨hx', ctx, -⟩ := stood k x hk hx
      rw [ctx.1]
      exact law.letGo k x hx'
  case pointAlone =>
    intro k x hx holds
    obtain ⟨y, hy, -, ctx, pointEq, holdEq⟩ := was k x hx
    obtain ⟨free, alone⟩ := law.pointAlone k y hy (holdEq ▸ holds)
    rw [pointEq]
    exact ⟨(stuckAt _).trans free, fun c hc inuse => point c ▸ alone c (ctx ▸ hc) (inUse c inuse)⟩
  case owner =>
    intro c k hc
    rw [owner] at hc
    obtain ⟨x, hx, ctx⟩ := law.owner c k hc
    by_cases hk : k = r
    · subst hk
      obtain rfl := hp.unique hx
      exact ⟨q, hq, sameCtx.trans ctx⟩
    · exact ⟨x, ⟨(records k hk).trans hx.1, hx.2⟩, ctx⟩
  case ownerless =>
    intro c inuse none_of
    rw [owner] at none_of
    have hc : c ≠ p.ctx := by
      rintro rfl
      rw [law.owned r p hp] at none_of
      cases none_of
    rw [(others c hc).1] at inuse ⊢
    rw [tone, tones _ (law.toneAlone r p hp c hc inuse)]
    exact ⟨(law.ownerless c inuse none_of).1.imp_right (wider c hc), (law.ownerless c inuse none_of).2⟩
  case contextTones => intro b c hbc hb hc; rw [tone, tone]; exact law.contextTones b c hbc (inUse b hb) (inUse c hc)
  case contextPoints => intro b c hbc hb hc; rw [point, point]; exact law.contextPoints b c hbc (inUse b hb) (inUse c hc)
  case unstuck => intro c hc; rw [stuckAt, point]; exact law.unstuck c (inUse c hc)
  case stuckTones =>
    intro x hx
    rw [stuck] at hx
    by_cases h : x.tone = p.tone
    · exact h ▸ stays (h ▸ law.stuckTones x hx)
    · exact (tones _ h).trans (law.stuckTones x hx)
  case stuckOnce => rw [stuck]; exact law.stuckOnce
  case stuck =>
    have fewer := busyContexts_le inUse
    have most : d.launch.stuck.length + busyContexts d ≤ 8 := law.stuck
    show e.launch.stuck.length + busyContexts e ≤ 8
    rw [stuck]
    omega
  case verdict => exact verdict

/-- A context in use without owner goes to another state. -/
theorem Sound.unowned {due : Fin 16 → Round} {stops stops' : Fin 8 → Prop} {d e : Device} {c : Fin 8}
    (law : Sound due stops d) (used : (contextAt d c).state ≠ .idle) (free : (contextAt d c).owner = none)
    (wider : ∀ b, b ≠ c → stops b → stops' b)
    (records : ∀ r, recordAt e r = recordAt d r)
    (others : ∀ b, b ≠ c → SameContext (contextAt e b) (contextAt d b))
    (mine : (contextAt e c).owner = none ∧ (contextAt e c).point = (contextAt d c).point ∧
      (contextAt e c).tone = (contextAt d c).tone)
    (busy : (contextAt e c).state ≠ .idle → ((contextAt e c).state ≠ .on ∨ stops' c) ∧
      toneAt e (contextAt d c).tone = toneAt d (contextAt d c).tone)
    (stuck : e.launch.stuck = d.launch.stuck) (tones : ∀ t, t ≠ (contextAt d c).tone → toneAt e t = toneAt d t)
    (verdict : verdictRecords e = verdictRecords d) : Sound due stops' e := by
  have launched : ∀ r p, Launched e r p → Launched d r p := fun r p h => ⟨(records r) ▸ h.1, h.2⟩
  have apart : ∀ r p, Launched d r p → p.ctx ≠ c := by
    rintro r p hp rfl
    rw [law.owned r p hp] at free
    cases free
  have same : ∀ r p, Launched e r p → SameContext (contextAt e p.ctx) (contextAt d p.ctx) ∧
      toneAt e p.tone = toneAt d p.tone := fun r p hp =>
    ⟨others _ (apart r p (launched r p hp)),
      tones _ (Ne.symm (law.toneAlone r p (launched r p hp) c (Ne.symm (apart r p (launched r p hp))) used))⟩
  have inUse : ∀ b, (contextAt e b).state ≠ .idle → (contextAt d b).state ≠ .idle := by
    intro b hb
    by_cases h : b = c
    · exact h ▸ used
    · rwa [← (others b h).1]
  have owner : ∀ b, (contextAt e b).owner = (contextAt d b).owner := fun b =>
    if h : b = c then h ▸ mine.1.trans free.symm else (others b h).2.1
  have point : ∀ b, (contextAt e b).point = (contextAt d b).point := fun b =>
    if h : b = c then h ▸ mine.2.1 else (others b h).2.2.1
  have tone : ∀ b, (contextAt e b).tone = (contextAt d b).tone := fun b =>
    if h : b = c then h ▸ mine.2.2 else (others b h).2.2.2
  have stuckAt : ∀ y, isStuck e y = isStuck d y := fun y => by rw [isStuck, isStuck, stuck]
  constructor
  case owned => intro r p hp; rw [owner]; exact law.owned r p (launched r p hp)
  case named => intro r p hp; rw [point, tone]; exact law.named r p (launched r p hp)
  case fits =>
    intro r p hp
    rw [(same r p hp).1.1]
    exact (law.fits r p (launched r p hp)).imp_right
      (fun ⟨h, rest⟩ => ⟨wider _ (apart r p (launched r p hp)) h, rest⟩)
  case toned => intro r p hp; rw [(same r p hp).1.1, (same r p hp).2]; exact law.toned r p (launched r p hp)
  case unheard => intro r p hp; exact law.unheard r p (launched r p hp)
  case toneAlone => intro r p hp b hb inuse; rw [tone]; exact law.toneAlone r p (launched r p hp) b hb (inUse b inuse)
  case tonesApart => intro r p k x hp hx; exact law.tonesApart r p k x (launched r p hp) (launched k x hx)
  case pointsApart => intro r p k x hp hx; exact law.pointsApart r p k x (launched r p hp) (launched k x hx)
  case letGo => intro r p hp; rw [(same r p hp).1.1]; exact law.letGo r p (launched r p hp)
  case pointAlone =>
    intro r p hp holds
    obtain ⟨free, alone⟩ := law.pointAlone r p (launched r p hp) holds
    exact ⟨(stuckAt _).trans free, fun b hb inuse => point b ▸ alone b hb (inUse b inuse)⟩
  case owner =>
    intro b r hb
    rw [owner] at hb
    obtain ⟨p, hp, ctx⟩ := law.owner b r hb
    exact ⟨p, ⟨(records r).trans hp.1, hp.2⟩, ctx⟩
  case ownerless =>
    intro b inuse none_of
    rw [owner] at none_of
    obtain ⟨off, quarantined⟩ := law.ownerless b (inUse b inuse) none_of
    by_cases h : b = c
    · subst h
      rw [tone, (busy inuse).2]
      exact ⟨(busy inuse).1, quarantined⟩
    · rw [tone, (others b h).1, tones _ (law.contextTones b c h (inUse b inuse) used)]
      exact ⟨off.imp_right (wider b h), quarantined⟩
  case contextTones => intro a b hab ha hb; rw [tone, tone]; exact law.contextTones a b hab (inUse a ha) (inUse b hb)
  case contextPoints => intro a b hab ha hb; rw [point, point]; exact law.contextPoints a b hab (inUse a ha) (inUse b hb)
  case unstuck => intro b hb; rw [stuckAt, point]; exact law.unstuck b (inUse b hb)
  case stuckTones =>
    intro x hx
    rw [stuck] at hx
    have isStuck := law.stuckTones x hx
    obtain ⟨-, q, quarantined, -⟩ := law.ownerless c used free
    rw [tones _ (fun h => by rw [h, quarantined] at isStuck; cases isStuck)]
    exact isStuck
  case stuckOnce => rw [stuck]; exact law.stuckOnce
  case stuck =>
    have fewer := busyContexts_le inUse
    have most : d.launch.stuck.length + busyContexts d ≤ 8 := law.stuck
    show e.launch.stuck.length + busyContexts e ≤ 8
    rw [stuck]
    omega
  case verdict =>
    refine ⟨verdict ▸ law.verdict.1, fun r mem => ?_⟩
    obtain ⟨p, hp, evaluating⟩ := law.verdict.2 r (verdict ▸ mem)
    exact ⟨p, (records r).trans hp, evaluating⟩

end Sys2Proof.Machine.StepLaws

namespace Sys2Proof.Machine.StepLaws

/-! ### What the operations on contexts, tones and records leave to read -/

theorem contextAt_of_launch {d e : Device} (h : e.launch = d.launch) (c : Fin 8) : contextAt e c = contextAt d c := by
  simp only [contextAt, h]

theorem toneAt_of_tones {d e : Device} (h : e.tones = d.tones) (t : Fin 48) : toneAt e t = toneAt d t := by
  simp only [toneAt, h]

theorem recordAt_of_probes {d e : Device} (h : e.probes = d.probes) (r : Fin 16) : recordAt e r = recordAt d r := by
  simp only [recordAt, h]

theorem contextAt_setContext (c : Fin 8) (x : Context) (d : Device) (b : Fin 8) :
    contextAt (d.setContext c x) b = if b = c then x else contextAt d b := Device.setContext_contexts_get d c b x

theorem toneAt_setTone (t : Fin 48) (x : ToneState) (d : Device) (u : Fin 48) :
    toneAt (d.setTone t x) u = if u = t then x else toneAt d u := Device.setTone_tones_get d t u x

theorem recordAt_setRecord (r : Fin 16) (x : Option Probe) (d : Device) (k : Fin 16) :
    recordAt (d.setRecord r x) k = if k = r then x else recordAt d k := Device.setRecord_records_get d r k x

theorem recordAt_freeRecord (r k : Fin 16) (d : Device) :
    recordAt (freeRecord r d) k = if k = r then none else recordAt d k := recordAt_setRecord r none d k

theorem contextAt_issueStop (c b : Fin 8) (d : Device) :
    contextAt (issueStop c d) b = if b = c then { contextAt d c with state := .stopping, timer := none } else contextAt d b :=
  contextAt_setContext c _ d b

theorem contextAt_requestStop (c b : Fin 8) (d : Device) : contextAt (requestStop c d) b =
    if b = c ∧ (contextAt d c).state = .on then { contextAt d c with state := .stopping, timer := none }
    else contextAt d b := by
  unfold requestStop
  split
  · rename_i on
    rw [← contextAt_eq] at on
    simp only [contextAt_issueStop, on, and_true]
  · rename_i off
    rw [← contextAt_eq] at off
    simp only [off, and_false, if_false]

theorem contextAt_releaseOwner (c b : Fin 8) (r : Fin 16) (d : Device) : contextAt (releaseOwner c r d) b =
    if b = c ∧ (contextAt d c).owner = some r then { contextAt d c with owner := none } else contextAt d b := by
  unfold releaseOwner
  split
  · rename_i own
    rw [← contextAt_eq] at own
    rw [contextAt_setContext]
    simp only [own, and_true]
    rfl
  · rename_i other
    rw [← contextAt_eq] at other
    simp only [other, and_false, if_false]

theorem contextAt_stopConfirmed (c b : Fin 8) (d : Device) : contextAt (stopConfirmed c d) b =
    if b = c then { contextAt d c with state := .idle, timer := none } else contextAt d b := by
  have idle : contextAt (stopConfirmed c d) b = contextAt (idleContext c (withdraw c d)) b :=
    contextAt_of_launch (by simp [stopConfirmed]) b
  rw [idle]
  exact contextAt_setContext c _ _ b

theorem releaseOwner_stuck (c : Fin 8) (r : Fin 16) (d : Device) : (releaseOwner c r d).launch.stuck = d.launch.stuck := by
  unfold releaseOwner
  split
  · simp
  · rfl

/-- A tone released with its stop unconfirmed or confirmed is in quarantine since this round. -/
theorem toneAt_releaseTone (t u : Fin 48) (h : Option (Fin 16)) (st : HolderStatus) (l : Option Round) (k : Bool)
    (d : Device) : toneAt (releaseTone t h st l k d) u =
      if u = t then .quarantined ⟨d.rounds.number, h, st, l, k⟩ else toneAt d u := toneAt_setTone t _ d u

theorem toneAt_endGrace_other {t u : Fin 48} (r : Fin 16) (st : HolderStatus) (d : Device) (h : u ≠ t) :
    toneAt (endGrace t r st d) u = toneAt d u := by
  unfold endGrace
  split
  · split
    · rw [toneAt_setTone, if_neg h]
    · rfl
  · rfl

/-- The end of a GRACE changes the holder status of a quarantined tone and of no other. -/
theorem toneAt_endGrace (t : Fin 48) (r : Fin 16) (st : HolderStatus) (d : Device) :
    (toneAt (endGrace t r st d) t = toneAt d t) ∨ ∃ q, toneAt d t = .quarantined q ∧
      toneAt (endGrace t r st d) t = .quarantined { q with status := st } := by
  unfold endGrace
  split
  · rename_i q hq
    split
    · exact .inr ⟨q, hq, by rw [toneAt_setTone, if_pos rfl]⟩
    · exact .inl rfl
  · exact .inl rfl

theorem toneAt_confirmStop_other {t u : Fin 48} (d : Device) (h : u ≠ t) : toneAt (confirmStop t d) u = toneAt d u := by
  unfold confirmStop
  split
  · rw [toneAt_setTone, if_neg h]
  · rfl

/-- A stop confirmed marks a quarantined tone and no other. -/
theorem toneAt_confirmStop (t : Fin 48) (d : Device) :
    (toneAt (confirmStop t d) t = toneAt d t ∧ ∀ q, toneAt d t ≠ .quarantined q) ∨ ∃ q, toneAt d t = .quarantined q ∧
      toneAt (confirmStop t d) t = .quarantined { q with stopConfirmed := true } := by
  unfold confirmStop
  split
  · rename_i q hq
    exact .inr ⟨q, hq, by rw [toneAt_setTone, if_pos rfl]⟩
  · rename_i other
    exact .inl ⟨rfl, other⟩

theorem toneAt_stopConfirmed (c : Fin 8) (u : Fin 48) (d : Device) :
    toneAt (stopConfirmed c d) u = toneAt (confirmStop (contextAt d c).tone d) u := by
  rw [stopConfirmed, ← contextAt_eq]
  unfold confirmStop
  have stands : (idleContext c (withdraw c d)).tones = d.tones := by simp
  rw [← toneAt_eq, ← toneAt_eq, toneAt_of_tones stands]
  split
  · rw [toneAt_setTone, toneAt_setTone, toneAt_of_tones stands]
  · exact toneAt_of_tones stands u

/-! ### The verdict record writes -/

theorem journalRequest_verdictRecords (e : JournalEntry) (k : Option CoalesceKey) (d : Device) :
    verdictRecords (journalRequest e k d) = verdictRecords d :=
  verdictRecords_of_adds (journalRequest_writes e k d)

/-- A verdict write issued is the only one of its probe. -/
theorem issueVerdict_verdictRecords (n : Fin 8) (c : Nat) (r : Fin 16) (v : Verdict) (d : Device) :
    ∃ xs, (verdictRecords (issueVerdict n c (some r) v d)).Perm xs ∧ xs.Sublist (r :: verdictRecords d) := by
  unfold issueVerdict issueWrite issue
  split
  · refine ⟨r :: verdictRecords d, ?_, List.Sublist.refl _⟩
    split
    · simp only [verdictRecords, List.filter_append, List.filterMap_append, List.append_assoc]
      exact List.perm_middle
    · simp only [verdictRecords, List.filterMap_append, ← List.append_assoc]
      exact List.perm_append_singleton _ _
  · exact ⟨verdictRecords d, List.Perm.refl _, List.sublist_cons_self _ _⟩

theorem verdictLaw_issueVerdict {n : Fin 8} {c : Nat} {r : Fin 16} {v : Verdict} {d : Device}
    (nodup : (verdictRecords d).Nodup) (fresh : r ∉ verdictRecords d)
    (others : ∀ k ∈ verdictRecords d, ∃ p, recordAt d k = some p ∧ p.state = .evaluating)
    (mine : ∃ p, recordAt d r = some p ∧ p.state = .evaluating) : verdictLaw (issueVerdict n c (some r) v d) := by
  obtain ⟨xs, perm, sub⟩ := issueVerdict_verdictRecords n c r v d
  refine ⟨perm.nodup_iff.2 ((List.nodup_cons.2 ⟨fresh, nodup⟩).sublist sub), fun k mem => ?_⟩
  have stands : recordAt (issueVerdict n c (some r) v d) k = recordAt d k := recordAt_of_probes (by simp) k
  show ∃ p, recordAt (issueVerdict n c (some r) v d) k = some p ∧ p.state = .evaluating
  rw [stands]
  rcases List.mem_cons.1 (sub.subset (perm.subset mem)) with rfl | old
  · exact mine
  · exact others k old

theorem Sound.launched_fresh {due : Fin 16 → Round} {stops : Fin 8 → Prop} {d : Device} {r : Fin 16} {p : Probe}
    (law : Sound due stops d) (hp : Launched d r p) : r ∉ verdictRecords d := by
  intro mem
  obtain ⟨x, hx, evaluating⟩ := law.verdict.2 r mem
  have := hx.symm.trans hp.1
  exact hp.2 (Option.some.inj this ▸ evaluating)

/-! ### A probe ends -/

/-- What a reaction has left of a launched probe's context and tone where the probe is about to end. -/
structure Ending (d e : Device) (p : Probe) (stops : Fin 8 → Prop) : Prop where
  records : ∀ k, recordAt e k = recordAt d k
  others : ∀ c, c ≠ p.ctx → SameContext (contextAt e c) (contextAt d c)
  mine : (contextAt e p.ctx).owner = (contextAt d p.ctx).owner ∧ (contextAt e p.ctx).point = (contextAt d p.ctx).point ∧
    (contextAt e p.ctx).tone = (contextAt d p.ctx).tone
  busy : (contextAt e p.ctx).state ≠ .idle → (contextAt d p.ctx).state ≠ .idle ∧
    ((contextAt e p.ctx).state ≠ .on ∨ stops p.ctx) ∧ ∃ q, toneAt e p.tone = .quarantined q ∧ q.stopConfirmed = false
  stuck : e.launch.stuck = d.launch.stuck
  tones : ∀ t, t ≠ p.tone → toneAt e t = toneAt d t
  stays : toneAt d p.tone = .stuck → toneAt e p.tone = .stuck
  verdicts : verdictRecords e = verdictRecords d

/-- An ending probe's record is emptied or EVALUATING and its context left without owner. -/
theorem Sound.finish {due : Fin 16 → Round} {stops stops' : Fin 8 → Prop} {d e f : Device} {r : Fin 16} {p : Probe}
    (law : Sound due stops d) (hp : Launched d r p) (wider : ∀ c, stops c → stops' c) (ending : Ending d e p stops')
    (records : ∀ q, q ≠ r → recordAt f q = recordAt e q) (gone : ∀ x, recordAt f r = some x → x.state = .evaluating)
    (contexts : ∀ c, contextAt f c = contextAt (releaseOwner p.ctx r e) c) (tones : f.tones = e.tones)
    (stuck : f.launch.stuck = e.launch.stuck) (verdict : verdictLaw f) : Sound due stops' f := by
  have owned : (contextAt e p.ctx).owner = some r := ending.mine.1.trans (law.owned r p hp)
  have mine : contextAt f p.ctx = { contextAt e p.ctx with owner := none } := by
    rw [contexts, contextAt_releaseOwner, if_pos ⟨rfl, owned⟩]
  refine law.ends hp wider (fun q hq => (records q hq).trans (ending.records q)) gone (fun c hc => ?_) ?_ ?_
    (stuck.trans ending.stuck) (fun t ht => (toneAt_of_tones tones t).trans (ending.tones t ht))
    (fun h => (toneAt_of_tones tones _).trans (ending.stays h)) verdict
  · rw [contexts, contextAt_releaseOwner, if_neg (fun h => hc h.1)]
    exact ending.others c hc
  · rw [mine]
    exact ⟨rfl, ending.mine.2⟩
  · rw [mine, toneAt_of_tones tones]
    exact ending.busy

theorem Sound.evaluate {due : Fin 16 → Round} {stops stops' : Fin 8 → Prop} {d e : Device} {r : Fin 16} {p q : Probe}
    (law : Sound due stops d) (hp : Launched d r p) (wider : ∀ c, stops c → stops' c) (ending : Ending d e p stops')
    (ctx : q.ctx = p.ctx) : Sound due stops' (evaluateRecord r q e) := by
  have fresh : r ∉ verdictRecords e := ending.verdicts ▸ law.launched_fresh hp
  have evaluating : ∀ k ∈ verdictRecords e, ∃ x, recordAt e k = some x ∧ x.state = .evaluating := fun k mem => by
    rw [ending.records k]
    exact law.verdict.2 k (ending.verdicts ▸ mem)
  have nodup : (verdictRecords e).Nodup := ending.verdicts ▸ law.verdict.1
  unfold evaluateRecord
  dsimp only
  have dma : ((releaseOwner q.ctx r e).setRecord r (some { q with state := .evaluating })).dma = e.dma := by simp
  have tones : ((releaseOwner q.ctx r e).setRecord r (some { q with state := .evaluating })).tones = e.tones := by simp
  have launch : ((releaseOwner q.ctx r e).setRecord r (some { q with state := .evaluating })).launch =
    (releaseOwner p.ctx r e).launch := by rw [ctx]; rfl
  have own : recordAt ((releaseOwner q.ctx r e).setRecord r (some { q with state := .evaluating })) r =
    some { q with state := .evaluating } := by rw [recordAt_setRecord, if_pos rfl]
  have stands : ∀ k, k ≠ r → recordAt ((releaseOwner q.ctx r e).setRecord r (some { q with state := .evaluating })) k =
      recordAt e k := fun k hk => by
    rw [recordAt_setRecord, if_neg hk]
    exact recordAt_of_probes (by simp) k
  generalize (releaseOwner q.ctx r e).setRecord r (some { q with state := .evaluating }) = m at *
  have old : verdictRecords m = verdictRecords e := verdictRecords_congr dma
  have stuck : m.launch.stuck = e.launch.stuck := by rw [launch, releaseOwner_stuck]
  split
  · refine law.finish hp wider ending (fun k hk => ?_) (fun x hx => ?_) (fun c => contextAt_of_launch (by simp [launch]) c)
      (by simp [tones]) (by simp [stuck]) ⟨?_, fun k mem => ?_⟩
    · rw [recordAt_freeRecord, if_neg hk, stands k hk]
    · rw [recordAt_freeRecord, if_pos rfl] at hx
      cases hx
    · rw [verdictRecords_congr (d := m) (by simp), old]
      exact nodup
    · rw [verdictRecords_congr (d := m) (by simp), old] at mem
      have hk : k ≠ r := fun h => fresh (h ▸ mem)
      show ∃ x, recordAt _ k = some x ∧ _
      rw [recordAt_freeRecord, if_neg hk, stands k hk]
      exact evaluating k mem
  · have records : ∀ k, recordAt (issueVerdict q.slot q.circuit (some r) (Machine.evaluate q) m) k = recordAt m k :=
      recordAt_of_probes (by simp)
    refine law.finish hp wider ending (fun k hk => ?_) (fun x hx => ?_) (fun c => contextAt_of_launch (by simp [launch]) c)
      (by simp [tones]) (by simp [stuck]) (verdictLaw_issueVerdict (old ▸ nodup) (old ▸ fresh) (fun k mem => ?_) ⟨_, own, rfl⟩)
    · rw [records, stands k hk]
    · rw [records, own] at hx
      rw [← Option.some.inj hx]
    · rw [old] at mem
      rw [stands k (fun h => fresh (h ▸ mem))]
      exact evaluating k mem

end Sys2Proof.Machine.StepLaws

namespace Sys2Proof.Machine.StepLaws

/-! ### Reactions of one context -/

/-- A reaction that touches one context's state and timer, and of the rest of what the laws of launched probes read only tones. -/
structure AtContext (d e : Device) (c : Fin 8) : Prop where
  records : ∀ k, recordAt e k = recordAt d k
  others : ∀ b, b ≠ c → SameContext (contextAt e b) (contextAt d b)
  mine : (contextAt e c).owner = (contextAt d c).owner ∧ (contextAt e c).point = (contextAt d c).point ∧
    (contextAt e c).tone = (contextAt d c).tone
  stuck : e.launch.stuck = d.launch.stuck
  verdicts : verdictRecords e = verdictRecords d

theorem SameContext.refl (x : Context) : SameContext x x := ⟨rfl, rfl, rfl, rfl⟩

theorem AtContext.refl (d : Device) (c : Fin 8) : AtContext d d c :=
  ⟨fun _ => rfl, fun _ _ => .refl _, ⟨rfl, rfl, rfl⟩, rfl, rfl⟩

theorem issueStop_at (c : Fin 8) (d : Device) : AtContext d (issueStop c d) c where
  records := recordAt_of_probes (by simp)
  others b hb := by rw [contextAt_issueStop, if_neg hb]; exact .refl _
  mine := by rw [contextAt_issueStop, if_pos rfl]; exact ⟨rfl, rfl, rfl⟩
  stuck := rfl
  verdicts := verdictRecords_congr (by simp)

theorem requestStop_at (c : Fin 8) (d : Device) : AtContext d (requestStop c d) c := by
  unfold requestStop
  split
  · exact issueStop_at c d
  · exact .refl d c

theorem withdraw_at (c b : Fin 8) (d : Device) : AtContext d (withdraw c d) b :=
  ⟨fun _ => rfl, fun _ _ => .refl _, ⟨rfl, rfl, rfl⟩, rfl, rfl⟩

theorem stopConfirmed_at (c : Fin 8) (d : Device) : AtContext d (stopConfirmed c d) c where
  records := recordAt_of_probes (by simp)
  others b hb := by rw [contextAt_stopConfirmed, if_neg hb]; exact .refl _
  mine := by rw [contextAt_stopConfirmed, if_pos rfl]; exact ⟨rfl, rfl, rfl⟩
  stuck := by
    have idle : (stopConfirmed c d).launch = (idleContext c (withdraw c d)).launch := by simp [stopConfirmed]
    rw [idle]
    rfl
  verdicts := verdictRecords_congr (by simp)

/-- The tone of a probe that ends before GRACE is released, its stop unconfirmed while its context stays in use. -/
theorem releaseTone_ending {d e : Device} {p : Probe} {stops : Fin 8 → Prop} (at_ : AtContext d e p.ctx)
    (tones : ∀ t, t ≠ p.tone → toneAt e t = toneAt d t) (unstuck : toneAt d p.tone ≠ .stuck) (h : Option (Fin 16))
    (st : HolderStatus) (l : Option Round) (k : Bool)
    (busy : (contextAt e p.ctx).state ≠ .idle → (contextAt d p.ctx).state ≠ .idle ∧
      ((contextAt e p.ctx).state ≠ .on ∨ stops p.ctx) ∧ k = false) :
    Ending d (releaseTone p.tone h st l k e) p stops where
  records := at_.records
  others := at_.others
  mine := at_.mine
  busy inuse := by
    obtain ⟨used, off, unconfirmed⟩ := busy inuse
    exact ⟨used, off, _, by rw [toneAt_releaseTone, if_pos rfl], unconfirmed⟩
  stuck := at_.stuck
  tones t ht := by rw [toneAt_releaseTone, if_neg ht]; exact tones t ht
  stays h := absurd h unstuck
  verdicts := at_.verdicts

/-- The tone of a probe that ends in GRACE stays in quarantine or STUCK, with another holder status. -/
theorem endGrace_ending {due : Fin 16 → Round} {stops stops' : Fin 8 → Prop} {d : Device} {r : Fin 16} {p : Probe}
    (law : Sound due stops d) (wider : ∀ c, stops c → stops' c) (hp : Launched d r p) (grace : p.state = .grace)
    (k : Fin 16) (st : HolderStatus) : Ending d (endGrace p.tone k st d) p stops' where
  records := recordAt_of_probes (by simp)
  others c _ := by rw [contextAt_of_launch (d := d) (by simp)]; exact .refl _
  mine := by rw [contextAt_of_launch (d := d) (by simp)]; exact ⟨rfl, rfl, rfl⟩
  busy := by
    rw [contextAt_of_launch (d := d) (by simp)]
    refine fun inuse => ⟨inuse, ?_, ?_⟩
    · obtain fits | ⟨waits, -⟩ := law.fits r p hp
      · refine .inl (fun on => ?_)
        simp [stateFits, grace, on] at fits
      · exact .inr (wider _ waits)
    · obtain ⟨no, -⟩ | ⟨-, q, quarantined, -, unconfirmed⟩ | ⟨-, idle, -⟩ := law.toned r p hp
      · exact absurd grace no
      · obtain same | ⟨x, hx, same⟩ := toneAt_endGrace p.tone k st d
        · exact ⟨q, same.trans quarantined, unconfirmed inuse⟩
        · rw [quarantined] at hx
          exact ⟨_, same, (ToneState.quarantined.inj hx) ▸ unconfirmed inuse⟩
      · exact absurd idle inuse
  stuck := by rw [(by simp : (endGrace p.tone k st d).launch = d.launch)]
  tones t ht := toneAt_endGrace_other k st d ht
  stays h := by
    obtain same | ⟨x, hx, -⟩ := toneAt_endGrace p.tone k st d
    · exact same.trans h
    · rw [h] at hx
      cases hx
  verdicts := verdictRecords_congr (by simp)

theorem Ending.journaled {d e : Device} {p : Probe} {stops : Fin 8 → Prop} (h : Ending d e p stops) (x : JournalEntry)
    (k : Option CoalesceKey) : Ending d (journalRequest x k e) p stops where
  records q := (recordAt_of_probes (by simp) q).trans (h.records q)
  others c hc := by rw [contextAt_of_launch (d := e) (by simp)]; exact h.others c hc
  mine := by rw [contextAt_of_launch (d := e) (by simp)]; exact h.mine
  busy := by rw [contextAt_of_launch (d := e) (by simp), toneAt_of_tones (d := e) (by simp)]; exact h.busy
  stuck := by rw [(by simp : (journalRequest x k e).launch = e.launch)]; exact h.stuck
  tones t ht := (toneAt_of_tones (by simp) t).trans (h.tones t ht)
  stays s := (toneAt_of_tones (by simp) _).trans (h.stays s)
  verdicts := (journalRequest_verdictRecords x k e).trans h.verdicts

/-- A launched probe that is not in GRACE holds its tone. -/
theorem Sound.holds {due : Fin 16 → Round} {stops : Fin 8 → Prop} {d : Device} {r : Fin 16} {p : Probe}
    (law : Sound due stops d) (hp : Launched d r p) (h : p.state ≠ .grace) : toneAt d p.tone = .held r := by
  obtain ⟨-, held⟩ | ⟨grace, -⟩ | ⟨grace, -⟩ := law.toned r p hp
  · exact held
  · exact absurd grace h
  · exact absurd grace h

theorem launchFault_sound {due : Fin 16 → Round} {stops : Fin 8 → Prop} {d e : Device} {r : Fin 16} {p q : Probe}
    (law : Sound due stops d) (hp : Launched d r p) (early : p.state ≠ .grace) (same : q.tone = p.tone ∧ q.ctx = p.ctx)
    (at_ : AtContext d e p.ctx) (tones : ∀ t, t ≠ p.tone → toneAt e t = toneAt d t) (cause : LaunchCause) (k : Bool)
    (busy : (contextAt e p.ctx).state ≠ .idle → (contextAt d p.ctx).state ≠ .idle ∧
      ((contextAt e p.ctx).state ≠ .on ∨ stops p.ctx) ∧ k = false) : Sound due stops (launchFault r q cause k e) := by
  unfold launchFault
  dsimp only
  rw [same.1]
  refine law.evaluate hp (fun _ => id) (Ending.journaled (releaseTone_ending at_ tones ?_ _ _ _ _ busy) _ _) same.2
  rw [law.holds hp early]
  simp

/-- A reaction that begins where a probe is launched, and so in a RUNNING lead, keeps the law that they exist there only. -/
theorem ProbeLaws.of_launched {d e : Device} {r : Fin 16} {p : Probe} (law : ProbeLaws d) (hp : Launched d r p)
    (hi : e.iface = d.iface) (hn : e.rounds.number = d.rounds.number)
    (sound : Sound (fun _ => d.rounds.number) (fun _ => False) e) : ProbeLaws e :=
  ⟨hn ▸ sound, fun _ _ _ => by
    simpa only [Device.leading, Device.running, hi] using law.leading r p hp⟩

/-! ### Early completion -/

theorem completeEarly_probes {d : Device} {r : Fin 16} {p : Probe} (h : d.probes.records[r] = some p) (hs : p.launched)
    (hl : p.listenFrom.isSome) (laws : ProbeLaws d) : ProbeLaws (completeEarly r p d) := by
  have law := laws.sound
  have hp : Launched d r p := ⟨h, hs⟩
  have heard : p.state ≠ .launching ∧ p.state ≠ .armed := by
    constructor <;> intro state <;> simp [law.unheard r p hp (by simp [state])] at hl
  refine laws.of_launched hp (by simp) (by simp) ?_
  unfold completeEarly
  split
  · rename_i listening
    have early : p.state ≠ .grace := by rw [listening]; simp
    have on : (contextAt d p.ctx).state = .on := by simpa [stateFits, listening] using law.fits r p hp
    have at_ := requestStop_at p.ctx (releaseTone p.tone (some r) .ended p.lastListen false d)
    have tone : ∀ t, toneAt (requestStop p.ctx (releaseTone p.tone (some r) .ended p.lastListen false d)) t =
        if t = p.tone then .quarantined ⟨d.rounds.number, some r, .ended, p.lastListen, false⟩ else toneAt d t := fun t => by
      rw [toneAt_of_tones (d := releaseTone p.tone (some r) .ended p.lastListen false d) (by simp)]
      exact toneAt_releaseTone _ t _ _ _ _ d
    refine law.evaluate hp (fun _ => id) {
      records := at_.records
      others := at_.others
      mine := at_.mine
      busy := fun _ => ?_
      stuck := at_.stuck
      tones := fun t ht => by rw [tone, if_neg ht]
      stays := fun stuck => by rw [law.holds hp early] at stuck; cases stuck
      verdicts := at_.verdicts } rfl
    refine ⟨by rw [on]; simp, .inl ?_, _, by rw [tone, if_pos rfl], rfl⟩
    rw [contextAt_requestStop, if_pos ⟨rfl, on⟩]
    simp
  · rename_i other
    have grace : p.state = .grace := by
      cases hst : p.state <;> simp_all
    exact law.evaluate hp (fun _ => id) (endGrace_ending law (fun _ => id) hp grace r .ended) rfl

/-! ### A probe record changed -/

/-- A probe's record changed in what the laws of launched probes do not read. -/
theorem setRecord_probes {d : Device} {r : Fin 16} {p q : Probe} (h : d.probes.records[r] = some p)
    (state : q.state = p.state) (tone : q.tone = p.tone) (ctx : q.ctx = p.ctx) (point : q.record.point = p.record.point)
    (holds : q.holdsPoint = p.holdsPoint) (listens : q.listenFrom = p.listenFrom) (laws : ProbeLaws d) :
    ProbeLaws (d.setRecord r (some q)) := by
  have law := laws.sound
  have own : recordAt (d.setRecord r (some q)) r = some q := by rw [recordAt_setRecord, if_pos rfl]
  have others : ∀ k, k ≠ r → recordAt (d.setRecord r (some q)) k = recordAt d k := fun k hk => by
    rw [recordAt_setRecord, if_neg hk]
  have verdict : verdictLaw (d.setRecord r (some q)) := by
    refine ⟨law.verdict.1, fun k mem => ?_⟩
    obtain ⟨x, hx, evaluating⟩ := law.verdict.2 k mem
    by_cases hk : k = r
    · subst hk
      rw [h] at hx
      exact ⟨q, own, state.trans (Option.some.inj hx ▸ evaluating)⟩
    · exact ⟨x, (others k hk).trans hx, evaluating⟩
  by_cases hs : p.state = .evaluating
  · have launched : ∀ k x, Launched (d.setRecord r (some q)) k x ↔ Launched d k x := by
      intro k x
      by_cases hk : k = r
      · subst hk
        have same : ∀ y, recordAt d k = some y → y.state = .evaluating := fun y hy => by
          rw [recordAt_eq, h] at hy
          exact Option.some.inj hy ▸ hs
        constructor
        · rintro ⟨hx, running⟩
          rw [own] at hx
          exact absurd (state.trans hs) (Option.some.inj hx ▸ running)
        · rintro ⟨hx, running⟩
          exact absurd (same x hx) running
      · rw [Launched, Launched, others k hk]
    exact ⟨law.of_launched_iff launched verdict, fun k x hx => laws.leading k x ((launched k x).1 hx)⟩
  · have hp : Launched d r p := ⟨h, hs⟩
    refine laws.of_launched hp rfl rfl ?_
    refine law.turns hp ⟨own, state ▸ hs⟩ (fun _ _ => id) ⟨tone, ctx, point, holds⟩ (fun _ _ => rfl) others
      (fun _ _ => .refl _) ⟨rfl, rfl, rfl⟩ id rfl (fun _ _ => rfl) id ?_ ?_ ?_ ?_ verdict
    · rw [state, ctx]; exact law.fits r p hp
    · rw [state, ctx, tone]; exact law.toned r p hp
    · rw [state, listens]; exact law.unheard r p hp
    · rw [state, ctx, holds]; exact law.letGo r p hp

end Sys2Proof.Machine.StepLaws

namespace Sys2Proof.Machine.StepLaws

/-! ### STOPs requested -/

/-- A context that is not ON waits for no STOP. -/
theorem Sound.narrow {due : Fin 16 → Round} {stops stops' : Fin 8 → Prop} {d : Device} (law : Sound due stops d)
    (h : ∀ c, stops c → (contextAt d c).state = .on → stops' c) : Sound due stops' d :=
  { law with
    fits := fun r p hp => (law.fits r p hp).imp_right (fun ⟨hc, grace, on⟩ => ⟨h _ hc on, grace, on⟩)
    ownerless := fun c busy hc => by
      obtain ⟨off, quarantined⟩ := law.ownerless c busy hc
      by_cases on : (contextAt d c).state = .on
      · exact ⟨.inr (h c (off.resolve_left (not_not_intro on)) on), quarantined⟩
      · exact ⟨.inl on, quarantined⟩ }

/-- A context that takes STOP if it is ON: it is left without owner, or its probe is in GRACE. -/
def Ready (d : Device) (c : Fin 8) : Prop :=
  (contextAt d c).state = .on → (contextAt d c).owner = none ∨ ∃ r p, Launched d r p ∧ p.ctx = c ∧ p.state = .grace

theorem requestStop_sound {due : Fin 16 → Round} {stops : Fin 8 → Prop} {d : Device} {c : Fin 8} (law : Sound due stops d)
    (ready : Ready d c) : Sound due (fun b => stops b ∧ b ≠ c) (requestStop c d) := by
  unfold requestStop
  split
  · rename_i on
    have stopping : (contextAt (issueStop c d) c).state = .stopping := by rw [contextAt_issueStop, if_pos rfl]
    have tones : ∀ t, toneAt (issueStop c d) t = toneAt d t := toneAt_of_tones (by simp)
    have at_ := issueStop_at c d
    have used : (contextAt d c).state ≠ .idle := by rw [contextAt_eq, on]; simp
    obtain free | ⟨r, p, hp, rfl, grace⟩ := ready on
    · exact law.unowned used free (fun b hb h => ⟨h, hb⟩) at_.records at_.others
        ⟨at_.mine.1.trans free, at_.mine.2⟩ (fun _ => ⟨.inl (by rw [stopping]; simp), tones _⟩) at_.stuck
        (fun t _ => tones t) at_.verdicts
    · refine law.turns hp ⟨(at_.records r).trans hp.1, hp.2⟩ (fun b hb h => ⟨h, hb⟩) ⟨rfl, rfl, rfl, rfl⟩
        (fun _ _ => rfl) (fun k _ => at_.records k) at_.others at_.mine (fun _ => used) at_.stuck (fun t _ => tones t)
        (fun h => (tones _).trans h) (.inl (by simp [stateFits, grace, stopping])) ?_ (law.unheard r p hp)
        (fun gone => absurd (law.letGo r p hp gone).2 used) ⟨at_.verdicts ▸ law.verdict.1, fun k mem => ?_⟩
      · obtain ⟨no, -⟩ | ⟨-, q, quarantined, release, unconfirmed⟩ | ⟨-, idle, -⟩ := law.toned r p hp
        · exact absurd grace no
        · exact .inr (.inl ⟨grace, q, (tones _).trans quarantined, release, fun _ => unconfirmed used⟩)
        · exact absurd idle used
      · obtain ⟨x, hx, evaluating⟩ := law.verdict.2 k (at_.verdicts ▸ mem)
        exact ⟨x, (at_.records k).trans hx, evaluating⟩
  · rename_i off
    exact law.narrow (fun b h on => ⟨h, fun same => off (same ▸ on)⟩)

theorem requestStop_ready {d : Device} {b c : Fin 8} (h : Ready d b) : Ready (requestStop c d) b := by
  intro on
  rw [contextAt_requestStop] at on ⊢
  split at on
  · cases on
  · rename_i other
    rw [if_neg other]
    have records : ∀ k, recordAt (requestStop c d) k = recordAt d k := recordAt_of_probes (by simp)
    simpa only [Launched, records] using h on

/-- After the STOPs of a reaction no context waits for one of them. -/
theorem requestStops_sound {due : Fin 16 → Round} {cs : List (Fin 8)} {d : Device} (law : Sound due (· ∈ cs) d)
    (ready : ∀ c ∈ cs, Ready d c) : Sound due (fun _ => False) (requestStops cs d) := by
  have each : ∀ (xs : List (Fin 8)) (d : Device) (stops : Fin 8 → Prop), Sound due stops d → (∀ c ∈ cs, Ready d c) →
      Sound due (fun b => stops b ∧ ¬(b ∈ xs ∧ b ∈ cs)) (xs.foldl (fun d c => if c ∈ cs then requestStop c d else d) d) := by
    intro xs
    induction xs with
    | nil => exact fun d stops law _ => law.narrow (fun _ h _ => ⟨h, by simp⟩)
    | cons x xs ih =>
      intro d stops law ready
      rw [List.foldl_cons]
      by_cases hx : x ∈ cs
      · rw [if_pos hx]
        refine (ih _ _ (requestStop_sound law (ready x hx)) (fun c hc => requestStop_ready (ready c hc))).narrow
          (fun b h _ => ⟨h.1.1, ?_⟩)
        rintro ⟨mem, wanted⟩
        rcases List.mem_cons.1 mem with rfl | later
        · exact h.1.2 rfl
        · exact h.2 ⟨later, wanted⟩
      · rw [if_neg hx]
        refine (ih _ _ law ready).narrow (fun b h _ => ⟨h.1, ?_⟩)
        rintro ⟨mem, wanted⟩
        rcases List.mem_cons.1 mem with rfl | later
        · exact hx wanted
        · exact h.2 ⟨later, wanted⟩
  exact (each _ d _ law ready).narrow (fun b h _ => h.2 ⟨List.mem_finRange b, h.1⟩)

/-! ### Voids -/

theorem voidProbe_sound {due : Fin 16 → Round} {stops : Fin 8 → Prop} {d : Device} {r : Fin 16} {p : Probe}
    (law : Sound due stops d) (hp : Launched d r p) (waits : p.state.tonesOn = true → stops p.ctx) :
    Sound due stops (voidProbe r d) ∧ ∀ k, recordAt (voidProbe r d) k = if k = r then none else recordAt d k := by
  have ending : Ending d (voidTone r p d) p stops := by
    unfold voidTone
    split
    · rename_i early
      have notGrace : p.state ≠ .grace := fun h => by rw [h] at early; cases early
      refine releaseTone_ending (.refl d _) (fun _ _ => rfl) (by rw [law.holds hp notGrace]; simp) _ _ _ _
        (fun inuse => ⟨inuse, ?_, rfl⟩)
      by_cases sounding : p.state.tonesOn = true
      · exact .inr (waits sounding)
      · refine .inl (fun on => ?_)
        have fits := law.fits r p hp
        rw [on] at fits
        cases hs : p.state <;> simp_all [stateFits, ProbeState.tonesOn]
    · rename_i late
      refine endGrace_ending law (fun _ => id) hp ?_ r _
      have running := hp.2
      cases hs : p.state <;> simp_all [ProbeState.holdsTone]
  have shape : voidProbe r d = freeRecord r (requeue p.slot p.circuit (releaseOwner p.ctx r (voidTone r p d))) := by
    have record : d.probes.records[r] = some p := hp.1
    rw [voidProbe, record]
    exact if_neg hp.2
  have queue : ∀ e, (requeue p.slot p.circuit e).probes = e.probes ∧ (requeue p.slot p.circuit e).launch = e.launch ∧
      (requeue p.slot p.circuit e).tones = e.tones ∧ (requeue p.slot p.circuit e).dma = e.dma := fun e => by
    unfold requeue
    dsimp only
    split <;> simp
  obtain ⟨probes, launch, tones, dma⟩ := queue (releaseOwner p.ctx r (voidTone r p d))
  rw [shape]
  generalize requeue p.slot p.circuit (releaseOwner p.ctx r (voidTone r p d)) = m at *
  have records : ∀ k, recordAt (freeRecord r m) k = if k = r then none else recordAt d k := fun k => by
    rw [recordAt_freeRecord, recordAt_of_probes probes, recordAt_of_probes (d := voidTone r p d) (by simp), ending.records]
  refine ⟨law.finish hp (fun _ => id) ending (fun k hk => ?_) (fun x hx => ?_)
    (fun c => contextAt_of_launch (by simp [launch]) c) (by simp [tones]) (by simp [launch, releaseOwner_stuck])
    ⟨?_, fun k mem => ?_⟩, records⟩
  · rw [records, if_neg hk, ending.records]
  · rw [records, if_pos rfl] at hx
    cases hx
  · rw [verdictRecords_congr (d := voidTone r p d) (by simp [dma]), ending.verdicts]
    exact law.verdict.1
  · rw [verdictRecords_congr (d := voidTone r p d) (by simp [dma]), ending.verdicts] at mem
    obtain ⟨x, hx, evaluating⟩ := law.verdict.2 k mem
    refine ⟨x, (records k).trans ?_, evaluating⟩
    rw [if_neg (fun h : k = r => law.launched_fresh hp (h ▸ mem))]
    exact hx

theorem mem_soundingContexts (sel : Probe → Bool) (d : Device) (c : Fin 8) : c ∈ soundingContexts sel d ↔
    ∃ r p, recordAt d r = some p ∧ sel p = true ∧ p.state.tonesOn = true ∧ p.ctx = c := by
  simp only [soundingContexts, List.mem_filterMap, Vector.mem_toList_iff, Vector.mem_iff_getElem]
  constructor
  · rintro ⟨x, ⟨i, hi, rfl⟩, hx⟩
    split at hx
    · rename_i p hp
      split at hx
      · rename_i h
        simp only [Bool.and_eq_true] at h
        exact ⟨⟨i, hi⟩, p, hp, h.1, h.2, Option.some.inj hx⟩
      · cases hx
    · cases hx
  · rintro ⟨r, p, hp, picked, on, rfl⟩
    refine ⟨some p, ⟨r.val, r.isLt, hp⟩, ?_⟩
    simp [picked, on]

/-- Voiding the probes that pass a test leaves of the launched probes those that do not. -/
theorem voids_sound {due : Fin 16 → Round} (sel : Probe → Bool) {d : Device} (xs : List (Fin 16)) (nodup : xs.Nodup) :
    ∀ e, Sound due (· ∈ soundingContexts sel d) e → (∀ k ∈ xs, recordAt e k = recordAt d k) →
      (∀ k ∉ xs, ∀ p, Launched e k p → Launched d k p ∧ sel p = false) →
      Sound due (· ∈ soundingContexts sel d) (xs.foldl (voidIf sel) e) ∧
        ∀ k p, Launched (xs.foldl (voidIf sel) e) k p → Launched d k p ∧ sel p = false := by
  induction xs with
  | nil => exact fun e law _ spared => ⟨law, fun k p hp => spared k (by simp) p hp⟩
  | cons r xs ih =>
    obtain ⟨apart, nodup⟩ := List.nodup_cons.1 nodup
    intro e law stands spared
    rw [List.foldl_cons]
    have mine := stands r (by simp)
    have later : ∀ k ∈ xs, recordAt e k = recordAt d k := fun k hk => stands k (by simp [hk])
    have keep : (∀ p, Launched e r p → sel p = false) →
        ∀ k ∉ xs, ∀ p, Launched e k p → Launched d k p ∧ sel p = false := by
      intro spare k hk p hp
      by_cases h : k = r
      · subst h
        exact ⟨⟨mine ▸ hp.1, hp.2⟩, spare p hp⟩
      · exact spared k (by simp [h, hk]) p hp
    cases hr : recordAt e r with
    | none =>
      have same : voidIf sel e r = e := by
        rw [voidIf, ← recordAt_eq, hr]
      rw [same]
      exact ih nodup e law later (keep (fun p hp => by rw [Launched, hr] at hp; cases hp.1))
    | some p =>
      have unique : ∀ x, Launched e r x → x = p := fun x hx => by
        rw [Launched, hr] at hx
        exact (Option.some.inj hx.1).symm
      by_cases picked : sel p = true
      · have voided : voidIf sel e r = voidProbe r e := by
          rw [voidIf, ← recordAt_eq, hr]
          exact if_pos picked
        rw [voided]
        by_cases running : p.state = .evaluating
        · have same : voidProbe r e = e := by
            rw [voidProbe, ← recordAt_eq, hr]
            exact if_pos running
          rw [same]
          exact ih nodup e law later (keep (fun x hx => absurd running (unique x hx ▸ hx.2)))
        · obtain ⟨law', records⟩ := voidProbe_sound law ⟨hr, running⟩ (fun on =>
            (mem_soundingContexts sel d _).2 ⟨r, p, mine ▸ hr, picked, on, rfl⟩)
          refine ih nodup _ law' (fun k hk => ?_) (fun k hk x hx => ?_)
          · rw [records, if_neg (fun h : k = r => apart (h ▸ hk))]
            exact later k hk
          · rw [Launched, records] at hx
            split at hx
            · cases hx.1
            · rename_i other
              exact spared k (by simp [other, hk]) x hx
      · have same : voidIf sel e r = e := by
          rw [voidIf, ← recordAt_eq, hr]
          exact if_neg picked
        rw [same]
        exact ih nodup e law later (keep (fun x hx => by rw [unique x hx]; simpa using picked))

/-- Voids keep the laws of launched probes, and leave of them those that do not pass the test (R35, R80). -/
theorem voidProbes_sound {due : Fin 16 → Round} (sel : Probe → Bool) {d : Device} (law : Sound due (fun _ => False) d) :
    Sound due (fun _ => False) (voidProbes sel d) ∧
      ∀ k p, Launched (voidProbes sel d) k p → Launched d k p ∧ sel p = false := by
  obtain ⟨sound, spared⟩ := voids_sound sel (List.finRange 16) (List.nodup_finRange 16) d (law.narrow (by simp))
    (fun _ _ => rfl) (fun k hk => absurd (List.mem_finRange k) hk)
  refine ⟨requestStops_sound sound (fun c hc on => ?_), fun k p hp => spared k p ?_⟩
  · obtain ⟨r, p, hr, picked, tonesOn, rfl⟩ := (mem_soundingContexts sel d c).1 hc
    have hp : Launched d r p := ⟨hr, fun h => by rw [h] at tonesOn; cases tonesOn⟩
    refine .inl (Option.eq_none_iff_forall_ne_some.2 (fun k owned => ?_))
    obtain ⟨x, hx, ctx⟩ := sound.owner _ k owned
    obtain ⟨hx, spare⟩ := spared k x hx
    by_cases same : k = r
    · subst same
      rw [hp.unique hx, picked] at spare
      cases spare
    · exact law.ctx_ne hp hx same ctx
  · rw [Launched, ← recordAt_of_probes (requestStops_keeps (soundingContexts sel d) _).2.2.2.2.2.2.2.2.2.1]
    exact hp

theorem voidProbes_probes (sel : Probe → Bool) (d : Device) (laws : ProbeLaws d) : ProbeLaws (voidProbes sel d) := by
  obtain ⟨sound, spared⟩ := voidProbes_sound sel laws.sound
  refine ⟨?_, fun r p hp => ?_⟩
  · rw [(by simp : (voidProbes sel d).rounds = d.rounds)]
    exact sound
  · simpa only [Device.leading, Device.running, (by simp : (voidProbes sel d).iface = d.iface)] using
      laws.leading r p (spared r p hp).1

end Sys2Proof.Machine.StepLaws

namespace Sys2Proof.Machine.StepLaws

/-! ### Probes at a ROUND_START -/

/-- The round since which a tone is quarantined matters for probes in GRACE only. -/
theorem Sound.redue {due due' : Fin 16 → Round} {stops : Fin 8 → Prop} {d : Device} (law : Sound due stops d)
    (h : ∀ r p, Launched d r p → p.state = .grace → due' r = due r) : Sound due' stops d :=
  { law with
    toned := fun r p hp => by
      obtain held | ⟨grace, q, quarantined, release, rest⟩ | stuck := law.toned r p hp
      · exact .inl held
      · exact .inr (.inl ⟨grace, q, quarantined, release.trans (h r p hp grace).symm, rest⟩)
      · exact .inr (.inr stuck) }

theorem setRecord_self {d : Device} {r : Fin 16} {p : Probe} (h : recordAt d r = some p) : d.setRecord r (some p) = d := by
  have same : d.probes.records.set r (some p) = d.probes.records := by
    rw [← h]
    exact Vector.set_getElem_self _
  rw [Device.setRecord, same]

theorem mem_gracingContexts (d : Device) (c : Fin 8) : c ∈ gracingContexts d ↔ ∃ r p, recordAt d r = some p ∧
    p.state = .listening ∧ ¬p.roundsListened < p.record.nmaxEff ∧ p.ctx = c := by
  simp only [gracingContexts, List.mem_filterMap, Vector.mem_toList_iff, Vector.mem_iff_getElem]
  constructor
  · rintro ⟨x, ⟨i, hi, rfl⟩, hx⟩
    split at hx
    · rename_i p hp
      split at hx
      · rename_i h
        simp only [Bool.and_eq_true, beq_iff_eq, Bool.not_eq_true', decide_eq_false_iff_not] at h
        exact ⟨⟨i, hi⟩, p, hp, h.1, h.2, Option.some.inj hx⟩
      · cases hx
    · cases hx
  · rintro ⟨r, p, hp, listening, last, rfl⟩
    refine ⟨some p, ⟨r.val, r.isLt, hp⟩, ?_⟩
    simp [listening, last]

/-- What a ROUND_START leaves of a probe's record in the fields the laws of launched probes read (R76). -/
theorem Probe.atRound_same (n : Round) (p : Probe) : (p.atRound n).tone = p.tone ∧ (p.atRound n).ctx = p.ctx ∧
    (p.atRound n).record = p.record ∧ (p.atRound n).holdsPoint = p.holdsPoint := by
  unfold Probe.atRound
  split
  · exact ⟨rfl, rfl, rfl, rfl⟩
  · split <;> exact ⟨rfl, rfl, rfl, rfl⟩
  · exact ⟨rfl, rfl, rfl, rfl⟩

theorem Probe.atRound_other {n : Round} {p : Probe} (h : p.state ≠ .armed) (h' : p.state ≠ .listening) :
    p.atRound n = p := by
  unfold Probe.atRound
  split <;> simp_all

/-- What one record's move at a ROUND_START leaves: its probe is evaluated, or goes on as R76 says. -/
theorem moveProbe_sound {due : Fin 16 → Round} {stops : Fin 8 → Prop} {d : Device} (r : Fin 16) (law : Sound due stops d)
    (waits : ∀ p, recordAt d r = some p → p.state = .listening → ¬p.roundsListened < p.record.nmaxEff → stops p.ctx) :
    Sound (Function.update due r d.rounds.number) stops (moveProbe d r) ∧
      (∀ k, k ≠ r → recordAt (moveProbe d r) k = recordAt d k) ∧
      ∀ x, Launched (moveProbe d r) r x → ∃ p, Launched d r p ∧ x = p.atRound d.rounds.number := by
  have late : ∀ k, k ≠ r → Function.update due r d.rounds.number k = due k := fun k hk => Function.update_of_ne hk _ _
  have redue : (∀ p, Launched d r p → p.state ≠ .grace) → Sound (Function.update due r d.rounds.number) stops d :=
    fun h => law.redue (fun k p hp grace => late k (fun same => by subst same; exact h p hp grace))
  cases hr : recordAt d r with
  | none =>
    have same : moveProbe d r = d := by rw [moveProbe, ← recordAt_eq, hr]
    rw [same]
    refine ⟨redue (fun p hp => ?_), fun _ _ => rfl, fun x hx => ?_⟩
    · rw [Launched, hr] at hp
      cases hp.1
    · rw [Launched, hr] at hx
      cases hx.1
  | some p =>
    have unique : ∀ x, Launched d r x → x = p := fun x hx => by
      rw [Launched, hr] at hx
      exact (Option.some.inj hx.1).symm
    by_cases grace : p.state = .grace
    · have hp : Launched d r p := ⟨hr, by rw [grace]; simp⟩
      have shape : moveProbe d r = evaluateRecord r p (endGrace p.tone r .ended d) := by
        rw [moveProbe, ← recordAt_eq, hr]
        exact if_pos grace
      have ending := endGrace_ending law (stops' := stops) (fun _ => id) hp grace r .ended
      have gone : ∀ x, ¬Launched (evaluateRecord r p (endGrace p.tone r .ended d)) r x := fun x hx => by
        rw [Launched, recordAt, evaluateRecord_records, if_pos rfl] at hx
        split at hx
        · cases hx.1
        · exact hx.2 (Option.some.inj hx.1 ▸ rfl)
      rw [shape]
      refine ⟨(law.evaluate hp (fun _ => id) ending rfl).redue (fun k x hx _ => late k (fun same => ?_)),
        fun k hk => ?_, fun x hx => absurd hx (gone x)⟩
      · subst same
        exact gone x hx
      · rw [recordAt, evaluateRecord_records, if_neg hk]
        exact ending.records k
    · have shape : moveProbe d r = (if p.state = .listening ∧ (p.atRound d.rounds.number).state = .grace then
          releaseTone p.tone (some r) .grace p.lastListen false (d.setRecord r (some (p.atRound d.rounds.number)))
          else d.setRecord r (some (p.atRound d.rounds.number))) := by
        rw [moveProbe, ← recordAt_eq, hr]
        exact if_neg grace
      have records : ∀ k, recordAt (moveProbe d r) k = if k = r then some (p.atRound d.rounds.number) else recordAt d k := by
        intro k
        rw [shape]
        split <;> exact recordAt_setRecord r _ d k
      have contexts : ∀ c, contextAt (moveProbe d r) c = contextAt d c := by
        intro c
        rw [shape]
        split <;> rfl
      have stuck : (moveProbe d r).launch.stuck = d.launch.stuck := by
        rw [shape]
        split <;> rfl
      have writes : verdictRecords (moveProbe d r) = verdictRecords d := by
        rw [shape]
        split <;> rfl
      refine ⟨?_, fun k hk => by rw [records, if_neg hk], fun x hx => ?_⟩
      · by_cases moves : p.state = .armed ∨ p.state = .listening
        · have hp : Launched d r p := ⟨hr, by rcases moves with h | h <;> rw [h] <;> simp⟩
          have on : (contextAt d p.ctx).state = .on := by
            have fits := law.fits r p hp
            rcases moves with h | h <;> simpa [stateFits, h] using fits
          have held := law.holds hp grace
          have ⟨sameTone, sameCtx, sameRecord, sameHold⟩ := Probe.atRound_same d.rounds.number p
          have tones : ∀ t, toneAt (moveProbe d r) t =
              if t = p.tone ∧ (p.state = .listening ∧ (p.atRound d.rounds.number).state = .grace) then
                .quarantined ⟨d.rounds.number, some r, .grace, p.lastListen, false⟩ else toneAt d t := by
            intro t
            rw [shape]
            split
            · rename_i h
              rw [toneAt_releaseTone]
              simp only [h, and_self, and_true]
              rfl
            · rename_i h
              rw [if_neg (fun k => h k.2)]
              rfl
          have next : (p.atRound d.rounds.number).state = .listening ∨
              (p.state = .listening ∧ (p.atRound d.rounds.number).state = .grace ∧
                ¬p.roundsListened < p.record.nmaxEff) := by
            rcases moves with h | h
            · exact .inl (by simp [Probe.atRound, h])
            · by_cases more : p.roundsListened < p.record.nmaxEff
              · exact .inl (by simp [Probe.atRound, h, more])
              · exact .inr ⟨h, by simp [Probe.atRound, h, more], more⟩
          have launched : Launched (moveProbe d r) r (p.atRound d.rounds.number) := by
            refine ⟨by rw [records, if_pos rfl], ?_⟩
            rcases next with h | ⟨-, h, -⟩ <;> rw [h] <;> simp
          have holds : p.holdsPoint = true := by
            by_contra gone
            have idle := (law.letGo r p hp (by simpa using gone)).2
            rw [on] at idle
            cases idle
          refine law.turns hp launched (fun _ _ => id) ⟨sameTone, sameCtx, by rw [sameRecord], sameHold⟩ late
            (fun k hk => by rw [records, if_neg hk]) (fun c _ => by rw [contexts]; exact .refl _)
            (by rw [contexts]; exact ⟨rfl, rfl, rfl⟩) (by rw [contexts]; exact id) stuck
            (fun t ht => by rw [tones, if_neg (fun h => ht h.1)]) (fun h => by rw [held] at h; cases h) ?_ ?_ ?_ ?_
            ⟨writes ▸ law.verdict.1, fun k mem => ?_⟩
          · rw [contexts, sameCtx, on]
            rcases next with h | ⟨listening, h, last⟩
            · exact .inl (by simp [stateFits, h])
            · exact .inr ⟨waits p hr listening last, h, rfl⟩
          · rw [contexts, sameCtx, sameTone, tones]
            rcases next with h | ⟨listening, h, -⟩
            · exact .inl ⟨by rw [h]; simp, by rw [if_neg (fun k => by rw [h] at k; simp at k)]; exact held⟩
            · exact .inr (.inl ⟨h, _, by rw [if_pos ⟨rfl, listening, h⟩], by rw [Function.update_self], fun _ => rfl⟩)
          · rcases next with h | ⟨-, h, -⟩ <;> rw [h] <;> simp
          · rw [sameHold, holds]
            simp
          · obtain ⟨x, hx, evaluating⟩ := law.verdict.2 k (writes ▸ mem)
            refine ⟨x, (records k).trans ?_, evaluating⟩
            rw [if_neg (fun h : k = r => law.launched_fresh hp (h ▸ (writes ▸ mem)))]
            exact hx
        · have stands : p.atRound d.rounds.number = p := Probe.atRound_other (fun h => moves (.inl h)) (fun h => moves (.inr h))
          have same : moveProbe d r = d := by
            rw [shape, stands, setRecord_self hr, if_neg (fun h => grace h.2)]
          rw [same]
          exact redue (fun x hx => unique x hx ▸ grace)
      · rw [Launched, records, if_pos rfl] at hx
        refine ⟨p, ⟨hr, fun h => ?_⟩, (Option.some.inj hx.1).symm⟩
        rw [← Option.some.inj hx.1, Probe.atRound_other (by rw [h]; simp) (by rw [h]; simp)] at hx
        exact hx.2 h

/-- The moves of a ROUND_START leave each launched probe as R76 says, quarantined since this round where it is in GRACE. -/
theorem moves_sound {d : Device} (xs : List (Fin 16)) (nodup : xs.Nodup) :
    ∀ (due : Fin 16 → Round) (e : Device), Sound due (· ∈ gracingContexts d) e → e.rounds.number = d.rounds.number →
      (∀ k ∈ xs, recordAt e k = recordAt d k) → (∀ k ∉ xs, due k = d.rounds.number) →
      (∀ k ∉ xs, ∀ x, Launched e k x → ∃ p, Launched d k p ∧ x = p.atRound d.rounds.number) →
      Sound (fun _ => d.rounds.number) (· ∈ gracingContexts d) (xs.foldl moveProbe e) ∧
        ∀ k x, Launched (xs.foldl moveProbe e) k x → ∃ p, Launched d k p ∧ x = p.atRound d.rounds.number := by
  induction xs with
  | nil =>
    exact fun due e law _ _ dues moved => ⟨law.redue (fun k _ _ _ => (dues k (by simp)).symm), fun k => moved k (by simp)⟩
  | cons r xs ih =>
    obtain ⟨apart, nodup⟩ := List.nodup_cons.1 nodup
    intro due e law number stands dues moved
    rw [List.foldl_cons]
    obtain ⟨law', others, mine⟩ := moveProbe_sound r law (fun p hr listening last =>
      (mem_gracingContexts d _).2 ⟨r, p, stands r (by simp) ▸ hr, listening, last, rfl⟩)
    refine ih nodup _ _ law' (by simp [number]) (fun k hk => ?_) (fun k hk => ?_) (fun k hk x hx => ?_)
    · rw [others k (fun h => apart (h ▸ hk))]
      exact stands k (by simp [hk])
    · by_cases same : k = r
      · rw [same, Function.update_self, number]
      · rw [Function.update_of_ne same]
        exact dues k (by simp [same, hk])
    · by_cases same : k = r
      · subst same
        obtain ⟨p, hp, rfl⟩ := mine x hx
        exact ⟨p, ⟨stands k (by simp) ▸ hp.1, hp.2⟩, by rw [number]⟩
      · exact moved k (by simp [same, hk]) x ⟨others k same ▸ hx.1, hx.2⟩

/-- The probe table at a lead ROUND_START keeps the laws of launched probes, the round number being the new one (R76). -/
theorem moveProbes_sound {due : Fin 16 → Round} {d : Device} (law : Sound due (fun _ => False) d) :
    Sound (fun _ => d.rounds.number) (fun _ => False) (moveProbes d) ∧
      ∀ k x, Launched (moveProbes d) k x → ∃ p, Launched d k p := by
  obtain ⟨sound, moved⟩ := moves_sound (d := d) (List.finRange 16) (List.nodup_finRange 16) due d (law.narrow (by simp)) rfl
    (fun _ _ => rfl) (fun k hk => absurd (List.mem_finRange k) hk) (fun k hk => absurd (List.mem_finRange k) hk)
  refine ⟨requestStops_sound sound (fun c hc on => ?_), fun k x hx => ?_⟩
  · obtain ⟨r, p, hr, listening, last, rfl⟩ := (mem_gracingContexts d c).1 hc
    have hp : Launched d r p := ⟨hr, by rw [listening]; simp⟩
    cases own : (contextAt ((List.finRange 16).foldl moveProbe d) p.ctx).owner with
    | none => exact .inl rfl
    | some k =>
      obtain ⟨x, hx, ctx⟩ := sound.owner _ k own
      obtain ⟨y, hy, rfl⟩ := moved k x hx
      rw [(Probe.atRound_same _ y).2.1] at ctx
      by_cases same : k = r
      · subst same
        obtain rfl := hp.unique hy
        exact .inr ⟨k, _, hx, by rw [(Probe.atRound_same _ y).2.1], by simp [Probe.atRound, listening, last]⟩
      · exact absurd ctx (law.ctx_ne hp hy same)
  · have stands : recordAt (moveProbes d) k = recordAt ((List.finRange 16).foldl moveProbe d) k :=
      recordAt_of_probes (by simp [moveProbes]) k
    obtain ⟨p, hp, -⟩ := moved k x ⟨stands ▸ hx.1, hx.2⟩
    exact ⟨p, hp⟩

end Sys2Proof.Machine.StepLaws

namespace Sys2Proof.Machine.StepLaws

/-! ### Replies and reply timers -/

theorem ProbeLaws.of_records {d e : Device} (laws : ProbeLaws d) (records : ∀ k, recordAt e k = recordAt d k)
    (hi : e.iface = d.iface) (hn : e.rounds.number = d.rounds.number)
    (sound : Sound (fun _ => d.rounds.number) (fun _ => False) e) : ProbeLaws e :=
  ⟨hn ▸ sound, fun r p hp => by
    simpa only [Device.leading, Device.running, hi] using laws.leading r p ⟨(records r) ▸ hp.1, hp.2⟩⟩

/-- A context in use has no owner, or a launched probe owns it. -/
theorem Sound.owner_cases {due : Fin 16 → Round} {stops : Fin 8 → Prop} {d : Device} (law : Sound due stops d) (c : Fin 8) :
    (contextAt d c).owner = none ∨ ∃ r p, (contextAt d c).owner = some r ∧ Launched d r p ∧ p.ctx = c := by
  cases own : (contextAt d c).owner with
  | none => exact .inl rfl
  | some r =>
    obtain ⟨p, hp, ctx⟩ := law.owner c r own
    exact .inr ⟨r, p, rfl, hp, ctx⟩

theorem withOwner_none {c : Fin 8} {d : Device} (f : Fin 16 → Probe → Device → Device)
    (h : (contextAt d c).owner = none) : withOwner c f d = d := by
  rw [withOwner, ← contextAt_eq, h]

theorem withOwner_some {c : Fin 8} {d : Device} {r : Fin 16} {p : Probe} (f : Fin 16 → Probe → Device → Device)
    (h : (contextAt d c).owner = some r) (hp : recordAt d r = some p) : withOwner c f d = f r p d := by
  rw [withOwner, ← contextAt_eq, h]
  dsimp only
  rw [← recordAt_eq, hp]

theorem Sound.verdict_of {due : Fin 16 → Round} {stops : Fin 8 → Prop} {d e : Device} (law : Sound due stops d)
    (records : ∀ k, recordAt e k = recordAt d k) (writes : verdictRecords e = verdictRecords d) : verdictLaw e :=
  ⟨writes ▸ law.verdict.1, fun k mem => by
    obtain ⟨x, hx, evaluating⟩ := law.verdict.2 k (writes ▸ mem)
    exact ⟨x, (records k).trans hx, evaluating⟩⟩

theorem stopConfirmed_tone {d : Device} {c : Fin 8} {t : Fin 48} (h : t ≠ (contextAt d c).tone) :
    toneAt (stopConfirmed c d) t = toneAt d t := by
  rw [toneAt_stopConfirmed, toneAt_confirmStop_other d h]

/-- A context in use without owner whose stop is confirmed is IDLE. -/
theorem stopConfirmed_unowned {due : Fin 16 → Round} {stops : Fin 8 → Prop} {d : Device} {c : Fin 8}
    (law : Sound due stops d) (used : (contextAt d c).state ≠ .idle) (free : (contextAt d c).owner = none) :
    Sound due stops (stopConfirmed c d) := by
  have at_ := stopConfirmed_at c d
  refine law.unowned used free (fun _ _ => id) at_.records at_.others ⟨at_.mine.1.trans free, at_.mine.2⟩
    (fun inuse => absurd ?_ inuse) at_.stuck (fun t ht => stopConfirmed_tone ht) at_.verdicts
  rw [contextAt_stopConfirmed, if_pos rfl]

/-- A context STOPPING whose stop is confirmed is IDLE; a GRACE probe goes on owning it (R68). -/
theorem stopConfirmed_sound {due : Fin 16 → Round} {stops : Fin 8 → Prop} {d : Device} {c : Fin 8}
    (law : Sound due stops d) (stopping : (contextAt d c).state = .stopping) : Sound due stops (stopConfirmed c d) := by
  have used : (contextAt d c).state ≠ .idle := by rw [stopping]; simp
  obtain free | ⟨r, p, -, hp, rfl⟩ := law.owner_cases c
  · exact stopConfirmed_unowned law used free
  · have at_ := stopConfirmed_at p.ctx d
    have idle : (contextAt (stopConfirmed p.ctx d) p.ctx).state = .idle := by
      rw [contextAt_stopConfirmed, if_pos rfl]
    have grace : p.state = .grace := by
      have fits := law.fits r p hp
      rw [stopping] at fits
      cases hs : p.state <;> simp_all [stateFits]
    obtain ⟨-, sameTone⟩ := law.named r p hp
    obtain ⟨no, -⟩ | ⟨-, q, quarantined, release, -⟩ | ⟨-, unused, -⟩ := law.toned r p hp
    · exact absurd grace no
    · obtain ⟨-, other⟩ | ⟨x, hx, confirmed⟩ := toneAt_confirmStop p.tone d
      · exact absurd quarantined (other q)
      · obtain rfl : q = x := ToneState.quarantined.inj (quarantined.symm.trans hx)
        have tone : toneAt (stopConfirmed p.ctx d) p.tone = .quarantined { q with stopConfirmed := true } := by
          rw [toneAt_stopConfirmed, sameTone]
          exact confirmed
        exact law.turns hp ⟨(at_.records r).trans hp.1, hp.2⟩ (fun _ _ => id) ⟨rfl, rfl, rfl, rfl⟩ (fun _ _ => rfl)
          (fun k _ => at_.records k) at_.others at_.mine (fun _ => used) at_.stuck
          (fun t ht => stopConfirmed_tone (by rw [sameTone]; exact ht)) (fun stuck => by rw [quarantined] at stuck; cases stuck)
          (.inl (by simp [stateFits, grace, idle]))
          (.inr (.inl ⟨grace, _, tone, release, fun inuse => absurd idle inuse⟩)) (law.unheard r p hp)
          (fun gone => ⟨grace, idle⟩) (law.verdict_of at_.records at_.verdicts)
    · exact absurd unused used

/-- An ARMING context without owner takes STOP (R67). -/
theorem issueStop_unowned {due : Fin 16 → Round} {stops : Fin 8 → Prop} {d : Device} {c : Fin 8}
    (law : Sound due stops d) (used : (contextAt d c).state ≠ .idle) (free : (contextAt d c).owner = none) :
    Sound due stops (issueStop c d) := by
  have at_ := issueStop_at c d
  have tones : ∀ t, toneAt (issueStop c d) t = toneAt d t := toneAt_of_tones (by simp)
  refine law.unowned used free (fun _ _ => id) at_.records at_.others ⟨at_.mine.1.trans free, at_.mine.2⟩
    (fun _ => ⟨.inl ?_, tones _⟩) at_.stuck (fun t _ => tones t) at_.verdicts
  rw [contextAt_issueStop, if_pos rfl]
  simp

/-- A launched probe of an ARMING context is LAUNCHING, one of a context that is ON is ARMED or LISTENING. -/
theorem Sound.early {due : Fin 16 → Round} {d : Device} {r : Fin 16} {p : Probe} (law : Sound due (fun _ => False) d)
    (hp : Launched d r p) (h : (contextAt d p.ctx).state = .arming ∨ (contextAt d p.ctx).state = .on) : p.state ≠ .grace := by
  intro grace
  have fits := law.fits r p hp
  rcases h with h | h <;> simp [stateFits, grace, h] at fits

/-- ACK_ON makes the context of a LAUNCHING probe ON and the probe ARMED (R67). -/
theorem Sound.armed {due : Fin 16 → Round} {d e : Device} {r : Fin 16} {p : Probe} (law : Sound due (fun _ => False) d)
    (hp : Launched d r p) (arming : (contextAt d p.ctx).state = .arming)
    (records : ∀ k, recordAt e k = if k = r then some { p with state := .armed } else recordAt d k)
    (contexts : ∀ b, contextAt e b = if b = p.ctx then { contextAt d p.ctx with state := .on, timer := none } else contextAt d b)
    (stuck : e.launch.stuck = d.launch.stuck) (tones : ∀ t, toneAt e t = toneAt d t)
    (writes : verdictRecords e = verdictRecords d) : Sound due (fun _ => False) e := by
  have early := law.early hp (.inl arming)
  have launching : p.state = .launching := by
    have fits := law.fits r p hp
    rw [arming] at fits
    cases hs : p.state <;> simp_all [stateFits]
  have mine := (contexts p.ctx).trans (if_pos rfl)
  have held := law.holds hp early
  have now : Launched e r { p with state := .armed } := ⟨by rw [records, if_pos rfl], by simp⟩
  refine law.turns hp now (fun _ _ => id) ⟨rfl, rfl, rfl, rfl⟩ (fun _ _ => rfl)
    (fun k hk => by rw [records, if_neg hk]) (fun b hb => by rw [contexts, if_neg hb]; exact .refl _)
    (by rw [mine]; exact ⟨rfl, rfl, rfl⟩) (fun _ => by rw [arming]; simp) stuck (fun t _ => tones t)
    (fun h => (tones _).trans h) (.inl (.inr (.inl ⟨.inl rfl, by rw [mine]⟩)))
    (.inl ⟨by simp, (tones _).trans held⟩) (fun _ => law.unheard r p hp (.inl launching))
    (fun gone => absurd (law.letGo r p hp gone).1 early) ⟨writes ▸ law.verdict.1, fun k mem => ?_⟩
  rw [writes] at mem
  obtain ⟨x, hx, evaluating⟩ := law.verdict.2 k mem
  exact ⟨x, (records k).trans ((if_neg (fun h : k = r => law.launched_fresh hp (h ▸ mem))).trans hx), evaluating⟩

theorem contextOn_probes (c : Fin 8) (d : Device) (laws : ProbeLaws d) : ProbeLaws (contextOn c d) := by
  have law := laws.sound
  unfold contextOn
  split
  · rename_i arming
    rw [← contextAt_eq] at arming
    obtain free | ⟨r, p, own, hp, rfl⟩ := law.owner_cases c
    · rw [if_neg (by rw [← contextAt_eq, free]; simp)]
      have withdrawn : Sound (fun _ => d.rounds.number) (fun _ => False) (withdraw c d) :=
        Sound.congr (d := d) (fun _ => rfl) (fun _ => ⟨rfl, rfl, rfl, rfl⟩) rfl (fun _ => rfl) (List.Sublist.refl _) law
      refine laws.of_records (fun k => ?_) (by simp) (by simp)
        (issueStop_unowned withdrawn (by exact fun h => by cases arming.symm.trans h) (by exact free))
      exact (issueStop_at c (withdraw c d)).records k
    · rw [if_pos (by rw [← contextAt_eq, own]; rfl)]
      have contexts : ∀ b, contextAt ((withdraw p.ctx d).setContext p.ctx
          { d.launch.contexts[p.ctx] with state := .on, timer := none }) b =
            if b = p.ctx then { contextAt d p.ctx with state := .on, timer := none } else contextAt d b :=
        contextAt_setContext p.ctx _ (withdraw p.ctx d)
      rw [withOwner_some _ (by rw [contexts, if_pos rfl]; exact own) (by exact hp.1)]
      exact laws.of_launched hp rfl rfl (law.armed hp arming (recordAt_setRecord r _ _) contexts rfl (fun _ => rfl) rfl)
  · exact laws

theorem contextOff_probes (c : Fin 8) (d : Device) (laws : ProbeLaws d) : ProbeLaws (contextOff c d) := by
  unfold contextOff
  split
  · rename_i stopping
    exact laws.of_records (stopConfirmed_at c d).records (by simp) (by simp) (stopConfirmed_sound laws.sound stopping)
  · exact laws

/-- The probe of a context takes a launch fault where it has one; a context without owner is IDLE or STOPPING (R75, R78). -/
theorem faultAt_probes {d e : Device} {c : Fin 8} (laws : ProbeLaws d)
    (early : (contextAt d c).state = .arming ∨ (contextAt d c).state = .on) (at_ : AtContext d e c)
    (tones : ∀ t, t ≠ (contextAt d c).tone → toneAt e t = toneAt d t) (iface : e.iface = d.iface)
    (number : e.rounds.number = d.rounds.number) (q : Probe → Probe)
    (same : ∀ p, (q p).tone = p.tone ∧ (q p).ctx = p.ctx) (cause : LaunchCause) (k : Bool)
    (busy : (contextAt e c).state ≠ .idle → (contextAt e c).state ≠ .on ∧ k = false)
    (unowned : (contextAt d c).owner = none → Sound (fun _ => d.rounds.number) (fun _ => False) e) :
    ProbeLaws (withOwner c (fun r p d => launchFault r (q p) cause k d) e) := by
  have law := laws.sound
  obtain free | ⟨r, p, own, hp, rfl⟩ := law.owner_cases c
  · rw [withOwner_none _ (at_.mine.1.trans free)]
    exact laws.of_records at_.records iface number (unowned free)
  · rw [withOwner_some _ (at_.mine.1.trans own) ((at_.records r).trans hp.1)]
    have used : (contextAt d p.ctx).state ≠ .idle := by rcases early with h | h <;> rw [h] <;> simp
    refine laws.of_launched hp (by simp [iface]) (by simp [number]) (launchFault_sound law hp (law.early hp early) (same p) at_
      (fun t ht => tones t (by rw [(law.named r p hp).2]; exact ht)) cause k (fun inuse => ?_))
    obtain ⟨off, unconfirmed⟩ := busy inuse
    exact ⟨used, .inl off, unconfirmed⟩

theorem issueStop_off (c : Fin 8) (d : Device) : (contextAt (issueStop c d) c).state ≠ .on := by
  rw [contextAt_issueStop, if_pos rfl]
  simp

theorem contextNack_probes (c : Fin 8) (d : Device) (laws : ProbeLaws d) : ProbeLaws (contextNack c d) := by
  unfold contextNack
  split
  · rename_i arming
    rw [← contextAt_eq] at arming
    refine faultAt_probes laws (.inl arming) (stopConfirmed_at c d) (fun t ht => stopConfirmed_tone ht) (by simp) (by simp) id
      (fun _ => ⟨rfl, rfl⟩) _ _ (fun inuse => absurd ?_ inuse)
      (stopConfirmed_unowned laws.sound (by rw [arming]; simp))
    rw [contextAt_stopConfirmed, if_pos rfl]
  · rename_i stopping
    exact laws.of_records (stopConfirmed_at c d).records (by simp) (by simp) (stopConfirmed_sound laws.sound stopping)
  · exact laws

theorem contextFault_probes (c : Fin 8) (d : Device) (laws : ProbeLaws d) : ProbeLaws (contextFault c d) := by
  unfold contextFault
  split
  · rename_i on
    rw [← contextAt_eq] at on
    exact faultAt_probes laws (.inr on) (issueStop_at c d) (fun t _ => toneAt_of_tones (by simp) t) (by simp) (by simp)
      Probe.emptied (fun _ => ⟨rfl, rfl⟩) _ _ (fun _ => ⟨issueStop_off c d, rfl⟩)
      (issueStop_unowned laws.sound (by rw [on]; simp))
  · exact laws

end Sys2Proof.Machine.StepLaws

namespace Sys2Proof.Machine.StepLaws

/-! ### The stuck list -/

/-- A context STOPPING whose STOP timed out is IDLE, its point and tone on the stuck list; a GRACE owner lets its point go
(R69). -/
theorem Sound.stick {due : Fin 16 → Round} {stops : Fin 8 → Prop} {d e : Device} {c : Fin 8} (law : Sound due stops d)
    (stopping : (contextAt d c).state = .stopping)
    (contexts : ∀ b, contextAt e b = if b = c then { contextAt d c with state := .idle, timer := none } else contextAt d b)
    (tones : ∀ t, toneAt e t = if t = (contextAt d c).tone then .stuck else toneAt d t)
    (listed : e.launch.stuck = d.launch.stuck ++ [⟨(contextAt d c).point, (contextAt d c).tone⟩])
    (records : ∀ k, recordAt e k = if (contextAt d c).owner = some k then
      (recordAt d k).map (fun p => { p with holdsPoint := false }) else recordAt d k)
    (writes : verdictRecords e = verdictRecords d) : Sound due stops e := by
  have used : (contextAt d c).state ≠ .idle := by rw [stopping]; simp
  have was : ∀ k x, Launched e k x → ∃ p, Launched d k p ∧
      ((p.ctx = c ∧ x = { p with holdsPoint := false }) ∨ (p.ctx ≠ c ∧ x = p)) := by
    rintro k x ⟨hx, running⟩
    rw [records] at hx
    split at hx
    · rename_i own
      obtain ⟨p, hp, ctx⟩ := law.owner c k own
      rw [hp.1] at hx
      exact ⟨p, hp, .inl ⟨ctx, (Option.some.inj hx).symm⟩⟩
    · rename_i other
      have hp : Launched d k x := ⟨hx, running⟩
      exact ⟨x, hp, .inr ⟨fun ctx => other (ctx ▸ law.owned k x hp), rfl⟩⟩
  have like : ∀ k x, Launched e k x → ∃ p, Launched d k p ∧ x.tone = p.tone ∧ x.ctx = p.ctx ∧
      x.state = p.state ∧ x.listenFrom = p.listenFrom := by
    intro k x hx
    obtain ⟨p, hp, ⟨-, rfl⟩ | ⟨-, rfl⟩⟩ := was k x hx
    · exact ⟨p, hp, rfl, rfl, rfl, rfl⟩
    · exact ⟨x, hp, rfl, rfl, rfl, rfl⟩
  have mine : contextAt e c = { contextAt d c with state := .idle, timer := none } := (contexts c).trans (if_pos rfl)
  have others : ∀ b, b ≠ c → contextAt e b = contextAt d b := fun b hb => (contexts b).trans (if_neg hb)
  have inUse : ∀ b, (contextAt e b).state ≠ .idle → b ≠ c ∧ (contextAt d b).state ≠ .idle := by
    intro b hb
    by_cases h : b = c
    · rw [h, mine] at hb
      exact absurd rfl hb
    · exact ⟨h, others b h ▸ hb⟩
  have grace : ∀ k p, Launched d k p → p.ctx = c → p.state = .grace := by
    rintro k p hp rfl
    have fits := law.fits k p hp
    rw [stopping] at fits
    cases hs : p.state <;> simp_all [stateFits]
  have unlike : ∀ k p, Launched d k p → p.ctx ≠ c → p.tone ≠ (contextAt d c).tone := fun k p hp h =>
    Ne.symm (law.toneAlone k p hp c (Ne.symm h) used)
  have stuckAt : ∀ y, isStuck e y = (isStuck d y || (contextAt d c).point == y) := fun y => by
    simp [isStuck, listed]
  have freed : toneAt d (contextAt d c).tone ≠ .stuck := by
    obtain free | ⟨r, p, -, hp, rfl⟩ := law.owner_cases c
    · obtain ⟨-, q, quarantined, -⟩ := law.ownerless c used free
      rw [quarantined]
      simp
    · rw [(law.named r p hp).2]
      obtain ⟨-, held⟩ | ⟨-, q, quarantined, -⟩ | ⟨-, idle, -⟩ := law.toned r p hp
      · rw [held]; simp
      · rw [quarantined]; simp
      · exact absurd idle used
  constructor
  case owned =>
    intro k x hx
    obtain ⟨p, hp, ⟨ctx, rfl⟩ | ⟨ctx, rfl⟩⟩ := was k x hx
    · rw [show ({ p with holdsPoint := false } : Probe).ctx = c from ctx, mine]
      exact ctx ▸ law.owned k p hp
    · rw [others _ ctx]
      exact law.owned k x hp
  case named =>
    intro k x hx
    obtain ⟨p, hp, ⟨ctx, rfl⟩ | ⟨ctx, rfl⟩⟩ := was k x hx
    · rw [show ({ p with holdsPoint := false } : Probe).ctx = c from ctx, mine]
      exact ctx ▸ law.named k p hp
    · rw [others _ ctx]
      exact law.named k x hp
  case fits =>
    intro k x hx
    obtain ⟨p, hp, ⟨ctx, rfl⟩ | ⟨ctx, rfl⟩⟩ := was k x hx
    · rw [show ({ p with holdsPoint := false } : Probe).ctx = c from ctx, mine]
      exact .inl (.inr (.inr ⟨grace k p hp ctx, .inr rfl⟩))
    · rw [others _ ctx]
      exact law.fits k x hp
  case toned =>
    intro k x hx
    obtain ⟨p, hp, ⟨ctx, rfl⟩ | ⟨ctx, rfl⟩⟩ := was k x hx
    · rw [show ({ p with holdsPoint := false } : Probe).ctx = c from ctx, mine, tones,
        if_pos (ctx ▸ (law.named k p hp).2.symm)]
      exact .inr (.inr ⟨grace k p hp ctx, rfl, rfl⟩)
    · rw [others _ ctx, tones, if_neg (unlike k x hp ctx)]
      exact law.toned k x hp
  case unheard =>
    intro k x hx
    obtain ⟨p, hp, -, -, state, listens⟩ := like k x hx
    rw [state, listens]
    exact law.unheard k p hp
  case toneAlone =>
    intro k x hx b hb inuse
    obtain ⟨other, busy⟩ := inUse b inuse
    obtain ⟨p, hp, tone, ctx, -⟩ := like k x hx
    rw [others b other, tone]
    exact law.toneAlone k p hp b (fun h => hb (h.trans ctx.symm)) busy
  case tonesApart =>
    intro k x l y hx hy hl
    obtain ⟨p, hp, toneX, -⟩ := like k x hx
    obtain ⟨q, hq, toneY, -⟩ := like l y hy
    rw [toneX, toneY]
    exact law.tonesApart k p l q hp hq hl
  case pointsApart =>
    intro k x l y hx hy hl holds holds'
    obtain ⟨p, hp, ⟨-, rfl⟩ | ⟨-, rfl⟩⟩ := was k x hx
    · cases holds
    · obtain ⟨q, hq, ⟨-, rfl⟩ | ⟨-, rfl⟩⟩ := was l y hy
      · cases holds'
      · exact law.pointsApart k x l y hp hq hl holds holds'
  case letGo =>
    intro k x hx gone
    obtain ⟨p, hp, ⟨ctx, rfl⟩ | ⟨ctx, rfl⟩⟩ := was k x hx
    · rw [show ({ p with holdsPoint := false } : Probe).ctx = c from ctx, mine]
      exact ⟨grace k p hp ctx, rfl⟩
    · rw [others _ ctx]
      exact law.letGo k x hp gone
  case pointAlone =>
    intro k x hx holds
    obtain ⟨p, hp, ⟨ctx, rfl⟩ | ⟨ctx, rfl⟩⟩ := was k x hx
    · cases holds
    · obtain ⟨free, alone⟩ := law.pointAlone k x hp holds
      refine ⟨?_, fun b hb inuse => ?_⟩
      · rw [stuckAt, free, Bool.false_or, beq_eq_false_iff_ne]
        exact alone c (Ne.symm ctx) used
      · obtain ⟨other, busy⟩ := inUse b inuse
        rw [others b other]
        exact alone b hb busy
  case owner =>
    intro b k hb
    have own : (contextAt d b).owner = some k := by
      by_cases h : b = c
      · rw [h, mine] at hb
        exact h ▸ hb
      · exact others b h ▸ hb
    obtain ⟨p, hp, ctx⟩ := law.owner b k own
    by_cases h : (contextAt d c).owner = some k
    · exact ⟨{ p with holdsPoint := false }, ⟨by rw [records, if_pos h, hp.1]; rfl, hp.2⟩, ctx⟩
    · exact ⟨p, ⟨by rw [records, if_neg h]; exact hp.1, hp.2⟩, ctx⟩
  case ownerless =>
    intro b inuse none_of
    obtain ⟨other, busy⟩ := inUse b inuse
    rw [others b other] at none_of ⊢
    rw [tones, if_neg (law.contextTones b c other busy used)]
    exact law.ownerless b busy none_of
  case contextTones =>
    intro a b hab ha hb
    obtain ⟨otherA, busyA⟩ := inUse a ha
    obtain ⟨otherB, busyB⟩ := inUse b hb
    rw [others a otherA, others b otherB]
    exact law.contextTones a b hab busyA busyB
  case contextPoints =>
    intro a b hab ha hb
    obtain ⟨otherA, busyA⟩ := inUse a ha
    obtain ⟨otherB, busyB⟩ := inUse b hb
    rw [others a otherA, others b otherB]
    exact law.contextPoints a b hab busyA busyB
  case unstuck =>
    intro b hb
    obtain ⟨other, busy⟩ := inUse b hb
    rw [others b other, stuckAt, law.unstuck b busy, Bool.false_or, beq_eq_false_iff_ne]
    exact law.contextPoints c b (Ne.symm other) used busy
  case stuckTones =>
    intro x hx
    rw [listed, List.mem_append, List.mem_singleton] at hx
    rw [tones]
    split
    · rfl
    · rename_i other
      exact law.stuckTones x (hx.resolve_right (fun h => other (h ▸ rfl)))
  case stuckOnce =>
    rw [listed, List.map_append, List.map_append]
    refine ⟨List.nodup_append.2 ⟨law.stuckOnce.1, List.nodup_singleton _, ?_⟩,
      List.nodup_append.2 ⟨law.stuckOnce.2, List.nodup_singleton _, ?_⟩⟩
    · intro t ht u hu same
      obtain ⟨x, hx, rfl⟩ := List.mem_map.1 ht
      rw [List.map_singleton, List.mem_singleton] at hu
      have tone : x.tone = (contextAt d c).tone := same.trans hu
      exact freed (tone ▸ law.stuckTones x hx)
    · intro y hy z hz same
      obtain ⟨x, hx, rfl⟩ := List.mem_map.1 hy
      rw [List.map_singleton, List.mem_singleton] at hz
      have free := law.unstuck c used
      rw [isStuck, List.any_eq_false] at free
      exact free x hx (by simp [same, hz])
  case stuck =>
    have fewer : busyContexts e < busyContexts d := by
      rw [busyContexts_eq_card, busyContexts_eq_card]
      refine Finset.card_lt_card ⟨fun b hb => (mem_busySet d b).2 (inUse b ((mem_busySet e b).1 hb)).2, fun h => ?_⟩
      exact (inUse c ((mem_busySet e c).1 (h ((mem_busySet d c).2 used)))).1 rfl
    have most : d.launch.stuck.length + busyContexts d ≤ 8 := law.stuck
    show e.launch.stuck.length + busyContexts e ≤ 8
    rw [listed, List.length_append, List.length_singleton]
    omega
  case verdict =>
    refine ⟨writes ▸ law.verdict.1, fun k mem => ?_⟩
    obtain ⟨x, hx, evaluating⟩ := law.verdict.2 k (writes ▸ mem)
    have hx : recordAt d k = some x := hx
    show ∃ p, recordAt e k = some p ∧ _
    rw [records, hx]
    split
    · exact ⟨_, rfl, evaluating⟩
    · exact ⟨x, rfl, evaluating⟩

/-- The context of a STOP that timed out IDLE, its point and tone on the stuck list, its tone STUCK, a GRACE owner's point let
go: `stickContext` without the cause and the entry it raises (R69); see `stickContext_eq`. -/
def entered (c : Fin 8) (d : Device) : Device :=
  let d1 := (idleContext c d).setTone (contextAt d c).tone .stuck
  let d2 := { d1 with launch := { d1.launch with
    stuck := d1.launch.stuck ++ [⟨(contextAt d c).point, (contextAt d c).tone⟩] } }
  match (contextAt d c).owner with
  | none => d2
  | some r => match d2.probes.records[r] with
    | some p => if p.state = .grace then d2.setRecord r (some { p with holdsPoint := false }) else d2
    | none => d2

theorem stickContext_eq (c : Fin 8) (d : Device) : stickContext c d =
    journalRequest { JournalEntry.blank .launchStuck with
      tone := (contextAt d c).tone.val, second := (contextAt d c).point.toNat } none (raise .launchStuck (entered c d)) := rfl

theorem entered_records {due : Fin 16 → Round} {stops : Fin 8 → Prop} {d : Device} {c : Fin 8} (law : Sound due stops d)
    (stopping : (contextAt d c).state = .stopping) (k : Fin 16) : recordAt (entered c d) k =
      if (contextAt d c).owner = some k then (recordAt d k).map (fun p => { p with holdsPoint := false })
      else recordAt d k := by
  obtain free | ⟨r, p, own, hp, rfl⟩ := law.owner_cases c
  · simp only [entered, free, reduceCtorEq, if_false]
    rfl
  · have grace : p.state = .grace := by
      have fits := law.fits r p hp
      rw [stopping] at fits
      cases hs : p.state <;> simp_all [stateFits]
    have record : ((idleContext p.ctx d).setTone (contextAt d p.ctx).tone .stuck).probes.records[r] = some p := hp.1
    simp only [entered, own, record, grace, if_true]
    rw [recordAt_setRecord]
    by_cases same : k = r
    · rw [if_pos same, same, if_pos rfl, hp.1, Option.map_some, grace]
    · rw [if_neg same, if_neg (fun h => same (Option.some.inj h).symm)]
      rfl

theorem entered_frame (c : Fin 8) (d : Device) :
    ∃ p, entered c d = { (idleContext c d).setTone (contextAt d c).tone .stuck with
      probes := p
      launch := { (idleContext c d).launch with
        stuck := d.launch.stuck ++ [⟨(contextAt d c).point, (contextAt d c).tone⟩] } } := by
  unfold entered
  dsimp only
  split
  · exact ⟨_, rfl⟩
  · split
    · split
      · exact ⟨_, rfl⟩
      · exact ⟨_, rfl⟩
    · exact ⟨_, rfl⟩

/-- A STOP that timed out (R69): its context awaited a reply, so it has no command outstanding. -/
theorem entered_lawful {d : Device} {c : Fin 8} (stopping : (contextAt d c).state = .stopping)
    (timer : d.launch.contexts[c].timer.isSome) : Lawful d (entered c d) := by
  obtain ⟨x, frame⟩ := entered_frame c d
  have iface : (entered c d).iface = d.iface := by rw [frame]; rfl
  have rounds : (entered c d).rounds = d.rounds := by rw [frame]; rfl
  refine {
    credit := credit_of_lead (by rw [frame]; rfl)
    admission := admission_of_eq (fun _ => by rw [frame]; rfl) (by rw [frame]; rfl) (by rw [frame]; rfl)
    hold := hold_of_le (by rw [frame]; exact Nat.le_refl _)
    requests := requests_of_le (by rw [frame]; exact Nat.le_refl _)
    share := share_of_queue (by rw [frame]; rfl)
    start := start_of_iface iface
    faulted := faulted_of_eq iface (by rw [frame]; rfl)
    summary := summary_of_slots (by rw [frame]; rfl)
    area := area_of_areas (by rw [frame]; rfl)
    bus := fun law => ?_
    probes := fun _ laws => ?_ }
  · have idle := setContext_busLaw (x := { d.launch.contexts[c] with state := .idle, timer := none }) law
      (outstanding_of_timer law timer) rfl
    rw [frame]
    exact idle
  · have law := laws.sound
    have records := entered_records law stopping
    refine ⟨rounds ▸ law.stick stopping (fun b => ?_) (fun t => ?_) (by rw [frame]) records ?_, fun k y hy => ?_⟩
    · rw [frame]
      exact contextAt_setContext c _ d b
    · rw [frame]
      exact toneAt_setTone _ _ _ t
    · rw [frame]
      rfl
    · obtain ⟨p, hp⟩ : ∃ p, Launched d k p := by
        rw [Launched, records] at hy
        split at hy
        · cases hk : recordAt d k with
          | none => rw [hk] at hy; cases hy.1
          | some p =>
            rw [hk] at hy
            exact ⟨p, hk, fun evaluating => hy.2 (Option.some.inj hy.1 ▸ evaluating)⟩
        · exact ⟨y, hy⟩
      simpa only [Device.leading, Device.running, iface] using laws.leading k p hp

theorem stickContext_lawful {d : Device} {c : Fin 8} (stopping : (contextAt d c).state = .stopping)
    (timer : d.launch.contexts[c].timer.isSome) : Lawful d (stickContext c d) :=
  ((entered_lawful stopping timer).trans (raise_lawful .launchStuck _)).trans (journalRequest_lawful
    { JournalEntry.blank .launchStuck with tone := (contextAt d c).tone.val, second := (contextAt d c).point.toNat } none _)

/-- A stuck point answered leaves the list, its tone in quarantine since this round with its stop confirmed (R70). -/
theorem Sound.unstick {due : Fin 16 → Round} {stops : Fin 8 → Prop} {d e : Device} {x : StuckEntry}
    {before after : List StuckEntry} (law : Sound due stops d) (listed : d.launch.stuck = before ++ x :: after)
    (left : e.launch.stuck = before ++ after) (records : ∀ k, recordAt e k = recordAt d k)
    (contexts : ∀ b, contextAt e b = contextAt d b)
    (tones : ∀ t, toneAt e t = if t = x.tone then .quarantined ⟨d.rounds.number, none, .none, none, true⟩ else toneAt d t)
    (writes : verdictRecords e = verdictRecords d) (dues : ∀ r, due r = d.rounds.number) : Sound due stops e := by
  have launched : ∀ r p, Launched e r p → Launched d r p := fun r p hp => ⟨records r ▸ hp.1, hp.2⟩
  have stuck : toneAt d x.tone = .stuck := law.stuckTones x (by rw [listed]; simp)
  have other : ∀ t, toneAt d t ≠ .stuck → toneAt e t = toneAt d t := fun t ht => by
    rw [tones, if_neg (fun same : t = x.tone => ht (same ▸ stuck))]
  have sub : (before ++ after).Sublist d.launch.stuck := by
    rw [listed]
    exact (List.Sublist.refl before).append (List.sublist_cons_self _ _)
  have unstuck : ∀ y, isStuck d y = false → isStuck e y = false := fun y hy => by
    rw [isStuck, List.any_eq_false] at hy ⊢
    exact fun z hz => hy z (sub.subset (left ▸ hz))
  constructor
  case owned => intro r p hp; rw [contexts]; exact law.owned r p (launched r p hp)
  case named => intro r p hp; rw [contexts]; exact law.named r p (launched r p hp)
  case fits => intro r p hp; rw [contexts]; exact law.fits r p (launched r p hp)
  case toned =>
    intro r p hp
    rw [contexts]
    obtain ⟨early, held⟩ | ⟨grace, q, quarantined, rest⟩ | ⟨grace, idle, gone⟩ := law.toned r p (launched r p hp)
    · exact .inl ⟨early, by rw [other _ (by rw [held]; simp), held]⟩
    · exact .inr (.inl ⟨grace, q, by rw [other _ (by rw [quarantined]; simp), quarantined], rest⟩)
    · by_cases same : p.tone = x.tone
      · exact .inr (.inl ⟨grace, _, by rw [tones, if_pos same], (dues r).symm, fun inuse => absurd idle inuse⟩)
      · exact .inr (.inr ⟨grace, idle, by rw [tones, if_neg same, gone]⟩)
  case unheard => intro r p hp; exact law.unheard r p (launched r p hp)
  case toneAlone => intro r p hp c; rw [contexts]; exact law.toneAlone r p (launched r p hp) c
  case tonesApart => intro r p q y hp hy; exact law.tonesApart r p q y (launched r p hp) (launched q y hy)
  case pointsApart => intro r p q y hp hy; exact law.pointsApart r p q y (launched r p hp) (launched q y hy)
  case letGo => intro r p hp; rw [contexts]; exact law.letGo r p (launched r p hp)
  case pointAlone =>
    intro r p hp holds
    obtain ⟨free, alone⟩ := law.pointAlone r p (launched r p hp) holds
    exact ⟨unstuck _ free, fun c => by rw [contexts]; exact alone c⟩
  case owner =>
    intro c r
    rw [contexts]
    intro own
    obtain ⟨p, hp, ctx⟩ := law.owner c r own
    exact ⟨p, ⟨(records r).trans hp.1, hp.2⟩, ctx⟩
  case ownerless =>
    intro c
    rw [contexts]
    intro inuse free
    obtain ⟨off, q, quarantined, unconfirmed⟩ := law.ownerless c inuse free
    exact ⟨off, q, by rw [other _ (by rw [quarantined]; simp), quarantined], unconfirmed⟩
  case contextTones => intro b c; rw [contexts, contexts]; exact law.contextTones b c
  case contextPoints => intro b c; rw [contexts, contexts]; exact law.contextPoints b c
  case unstuck => intro c; rw [contexts]; exact fun inuse => unstuck _ (law.unstuck c inuse)
  case stuckTones =>
    intro y hy
    rw [left] at hy
    have apart : y.tone ≠ x.tone := by
      have once := law.stuckOnce.1
      rw [listed, List.map_append, List.map_cons] at once
      have := (List.nodup_middle.1 once)
      rw [List.nodup_cons, ← List.map_append] at this
      exact fun same => this.1 (same ▸ List.mem_map_of_mem hy)
    rw [tones, if_neg apart]
    exact law.stuckTones y (sub.subset hy)
  case stuckOnce => rw [left]; exact ⟨law.stuckOnce.1.sublist (sub.map _), law.stuckOnce.2.sublist (sub.map _)⟩
  case stuck =>
    have fewer : busyContexts e ≤ busyContexts d := busyContexts_le (fun c hc => contexts c ▸ hc)
    have most : d.launch.stuck.length + busyContexts d ≤ 8 := law.stuck
    have shorter := sub.length_le
    show e.launch.stuck.length + busyContexts e ≤ 8
    rw [left]
    omega
  case verdict => exact law.verdict_of records writes

theorem clearStuck_lawful (point : Byte) (d : Device) : Lawful d (clearStuck point d) := by
  unfold clearStuck
  split
  · exact .refl d
  · rename_i x found
    obtain ⟨named, before, after, listed, none_before⟩ := List.find?_eq_some_iff_append.1 found
    have left : d.launch.stuck.eraseP (·.point == point) = before ++ after := by
      rw [listed, List.eraseP_append_right _ (fun y hy => by simpa using none_before y hy), List.eraseP_cons_of_pos (p := fun y : StuckEntry => y.point == point) named]
    refine Lawful.trans ?_ (journalRequest_lawful _ _ _)
    exact {
      bus := bus_of_sameBus ⟨rfl, rfl, rfl, fun _ => ⟨rfl, rfl, rfl⟩⟩
      probes := fun _ laws => laws.of_records (fun _ => rfl) rfl rfl (laws.sound.unstick listed left (fun _ => rfl) (fun _ => rfl)
        (toneAt_setTone _ _ _) rfl (fun _ => rfl)) }

end Sys2Proof.Machine.StepLaws

namespace Sys2Proof.Machine.StepLaws

/-! ### Admission -/

/-- An admission: a free record, an IDLE context without owner and a FREE tone go to a probe in LAUNCHING, whose point is
neither held nor stuck (R62, R64). -/
theorem Sound.admitted {due : Fin 16 → Round} {stops : Fin 8 → Prop} {d e : Device} {r : Fin 16} {c : Fin 8} {t : Fin 48}
    {p : Probe} (law : Sound due stops d) (probe : p.state = .launching ∧ p.tone = t ∧ p.ctx = c ∧ p.holdsPoint = true ∧
      p.listenFrom = none)
    (record : recordAt d r = none) (idle : (contextAt d c).state = .idle) (free : (contextAt d c).owner = none)
    (tone : toneAt d t = .free) (unheld : pointHeld d p.record.point = false)
    (unstuck : isStuck d p.record.point = false) (room : d.launch.stuck.length + busyContexts d < 8)
    (records : ∀ k, recordAt e k = if k = r then some p else recordAt d k)
    (contexts : ∀ b, contextAt e b = if b = c then ⟨.arming, some r, p.record.point, t, none⟩ else contextAt d b)
    (tones : ∀ u, toneAt e u = if u = t then .held r else toneAt d u) (stuck : e.launch.stuck = d.launch.stuck)
    (writes : verdictRecords e = verdictRecords d) : Sound due stops e := by
  obtain ⟨launching, hasTone, hasCtx, holds, unheard⟩ := probe
  have was : ∀ k x, Launched e k x → (k = r ∧ x = p) ∨ (k ≠ r ∧ Launched d k x) := by
    rintro k x ⟨hx, running⟩
    rw [records] at hx
    split at hx
    · rename_i same
      exact .inl ⟨same, (Option.some.inj hx).symm⟩
    · rename_i other
      exact .inr ⟨other, hx, running⟩
  have mine : contextAt e c = ⟨.arming, some r, p.record.point, t, none⟩ := (contexts c).trans (if_pos rfl)
  have others : ∀ b, b ≠ c → contextAt e b = contextAt d b := fun b hb => (contexts b).trans (if_neg hb)
  have apart : ∀ k x, Launched d k x → x.ctx ≠ c := by
    rintro k x hx rfl
    rw [law.owned k x hx] at free
    cases free
  have toneApart : ∀ k x, Launched d k x → x.tone ≠ t := by
    rintro k x hx rfl
    obtain ⟨-, held⟩ | ⟨-, q, quarantined, -⟩ | ⟨-, -, gone⟩ := law.toned k x hx
    · rw [held] at tone; cases tone
    · rw [quarantined] at tone; cases tone
    · rw [gone] at tone; cases tone
  have busyTone : ∀ b, (contextAt d b).state ≠ .idle → (contextAt d b).tone ≠ t := by
    intro b hb same
    obtain none_of | ⟨k, x, -, hx, rfl⟩ := law.owner_cases b
    · obtain ⟨-, q, quarantined, -⟩ := law.ownerless b hb none_of
      rw [same, tone] at quarantined
      cases quarantined
    · exact toneApart k x hx ((law.named k x hx).2 ▸ same)
  have heldPoint : ∀ k x, recordAt d k = some x → x.state ≠ .evaluating → x.holdsPoint = true →
      x.record.point ≠ p.record.point := by
    intro k x hx running holds same
    rw [pointHeld, Bool.or_eq_false_iff, List.any_eq_false] at unheld
    refine unheld.1 (some x) ?_ (by simp [holdsPoint, same, holds, running])
    rw [← hx]
    exact Vector.mem_toList_iff.2 (Vector.getElem_mem k.isLt)
  have busyPoint : ∀ b, (contextAt d b).state ≠ .idle → (contextAt d b).point ≠ p.record.point := by
    intro b hb same
    rw [pointHeld, Bool.or_eq_false_iff, List.any_eq_false (l := d.launch.contexts.toList)] at unheld
    exact unheld.2 (contextAt d b) (Vector.mem_toList_iff.2 (Vector.getElem_mem b.isLt)) (by simp [hb, same])
  have stuckAt : ∀ y, isStuck e y = isStuck d y := fun y => by rw [isStuck, isStuck, stuck]
  constructor
  case owned =>
    intro k x hx
    obtain ⟨rfl, rfl⟩ | ⟨-, old⟩ := was k x hx
    · rw [hasCtx, mine]
    · rw [others _ (apart k x old)]
      exact law.owned k x old
  case named =>
    intro k x hx
    obtain ⟨rfl, rfl⟩ | ⟨-, old⟩ := was k x hx
    · rw [hasCtx, mine]
      exact ⟨rfl, hasTone.symm⟩
    · rw [others _ (apart k x old)]
      exact law.named k x old
  case fits =>
    intro k x hx
    obtain ⟨rfl, rfl⟩ | ⟨-, old⟩ := was k x hx
    · rw [hasCtx, mine]
      exact .inl (.inl ⟨launching, rfl⟩)
    · rw [others _ (apart k x old)]
      exact law.fits k x old
  case toned =>
    intro k x hx
    obtain ⟨rfl, rfl⟩ | ⟨-, old⟩ := was k x hx
    · exact .inl ⟨by rw [launching]; simp, by rw [tones, if_pos hasTone]⟩
    · rw [others _ (apart k x old), tones, if_neg (toneApart k x old)]
      exact law.toned k x old
  case unheard =>
    intro k x hx
    obtain ⟨rfl, rfl⟩ | ⟨-, old⟩ := was k x hx
    · exact fun _ => unheard
    · exact law.unheard k x old
  case toneAlone =>
    intro k x hx b hb inuse
    obtain ⟨rfl, rfl⟩ | ⟨-, old⟩ := was k x hx
    · rw [hasCtx] at hb
      rw [others b hb] at inuse ⊢
      rw [hasTone]
      exact busyTone b inuse
    · by_cases same : b = c
      · rw [same, mine]
        exact Ne.symm (toneApart k x old)
      · rw [others b same] at inuse ⊢
        exact law.toneAlone k x old b hb inuse
  case tonesApart =>
    intro k x l y hx hy hl
    obtain ⟨rfl, rfl⟩ | ⟨-, old⟩ := was k x hx
    · obtain ⟨rfl, -⟩ | ⟨-, old'⟩ := was l y hy
      · exact absurd rfl hl
      · exact hasTone ▸ toneApart l y old'
    · obtain ⟨rfl, rfl⟩ | ⟨-, old'⟩ := was l y hy
      · exact hasTone ▸ Ne.symm (toneApart k x old)
      · exact law.tonesApart k x l y old old' hl
  case pointsApart =>
    intro k x l y hx hy hl holdX holdY
    obtain ⟨rfl, rfl⟩ | ⟨-, old⟩ := was k x hx
    · obtain ⟨rfl, -⟩ | ⟨-, old'⟩ := was l y hy
      · exact absurd rfl hl
      · exact heldPoint l y old'.1 old'.2 holdY
    · obtain ⟨rfl, rfl⟩ | ⟨-, old'⟩ := was l y hy
      · exact Ne.symm (heldPoint k x old.1 old.2 holdX)
      · exact law.pointsApart k x l y old old' hl holdX holdY
  case letGo =>
    intro k x hx gone
    obtain ⟨rfl, rfl⟩ | ⟨-, old⟩ := was k x hx
    · rw [holds] at gone
      cases gone
    · rw [others _ (apart k x old)]
      exact law.letGo k x old gone
  case pointAlone =>
    intro k x hx holdX
    rw [stuckAt]
    obtain ⟨rfl, rfl⟩ | ⟨-, old⟩ := was k x hx
    · refine ⟨unstuck, fun b hb inuse => ?_⟩
      rw [hasCtx] at hb
      rw [others b hb] at inuse ⊢
      exact busyPoint b inuse
    · obtain ⟨free, alone⟩ := law.pointAlone k x old holdX
      refine ⟨free, fun b hb inuse => ?_⟩
      by_cases same : b = c
      · rw [same, mine]
        exact Ne.symm (heldPoint k x old.1 old.2 holdX)
      · rw [others b same] at inuse ⊢
        exact alone b hb inuse
  case owner =>
    intro b k hb
    by_cases same : b = c
    · rw [same, mine] at hb
      obtain rfl := Option.some.inj hb
      exact ⟨p, ⟨by rw [records, if_pos rfl], by rw [launching]; simp⟩, same ▸ hasCtx⟩
    · rw [others b same] at hb
      obtain ⟨x, hx, ctx⟩ := law.owner b k hb
      refine ⟨x, ⟨(records k).trans ((if_neg (fun h : k = r => ?_)).trans hx.1), hx.2⟩, ctx⟩
      rw [h, Launched, record] at hx
      cases hx.1
  case ownerless =>
    intro b inuse none_of
    by_cases same : b = c
    · rw [same, mine] at none_of
      cases none_of
    · rw [others b same] at inuse none_of ⊢
      rw [tones, if_neg (busyTone b inuse)]
      exact law.ownerless b inuse none_of
  case contextTones =>
    intro a b hab ha hb
    by_cases sameA : a = c
    · have sameB : b ≠ c := fun h => hab (sameA.trans h.symm)
      rw [others b sameB] at hb ⊢
      rw [sameA, mine]
      exact Ne.symm (busyTone b hb)
    · rw [others a sameA] at ha ⊢
      by_cases sameB : b = c
      · rw [sameB, mine]
        exact busyTone a ha
      · rw [others b sameB] at hb ⊢
        exact law.contextTones a b hab ha hb
  case contextPoints =>
    intro a b hab ha hb
    by_cases sameA : a = c
    · have sameB : b ≠ c := fun h => hab (sameA.trans h.symm)
      rw [others b sameB] at hb ⊢
      rw [sameA, mine]
      exact Ne.symm (busyPoint b hb)
    · rw [others a sameA] at ha ⊢
      by_cases sameB : b = c
      · rw [sameB, mine]
        exact busyPoint a ha
      · rw [others b sameB] at hb ⊢
        exact law.contextPoints a b hab ha hb
  case unstuck =>
    intro b hb
    rw [stuckAt]
    by_cases same : b = c
    · rw [same, mine]
      exact unstuck
    · rw [others b same] at hb ⊢
      exact law.unstuck b hb
  case stuckTones =>
    intro x hx
    rw [stuck] at hx
    have gone := law.stuckTones x hx
    rw [tones, if_neg (fun h => by rw [h, tone] at gone; cases gone)]
    exact gone
  case stuckOnce => rw [stuck]; exact law.stuckOnce
  case stuck =>
    have more : busyContexts e ≤ busyContexts d + 1 := by
      rw [busyContexts_eq_card, busyContexts_eq_card]
      refine (Finset.card_le_card (fun b hb => ?_)).trans (Finset.card_insert_le c _)
      rw [Finset.mem_insert, mem_busySet]
      by_cases same : b = c
      · exact .inl same
      · exact .inr (others b same ▸ (mem_busySet e b).1 hb)
    show e.launch.stuck.length + busyContexts e ≤ 8
    rw [stuck]
    omega
  case verdict =>
    refine ⟨writes ▸ law.verdict.1, fun k mem => ?_⟩
    obtain ⟨x, hx, evaluating⟩ := law.verdict.2 k (writes ▸ mem)
    refine ⟨x, (records k).trans ((if_neg (fun h : k = r => ?_)).trans hx), evaluating⟩
    have hx : recordAt d k = some x := hx
    rw [h, record] at hx
    cases hx

theorem resources?_free {d : Device} {res : Resources} (h : resources? d = some res) :
    d.leading = true ∧ d.launch.stuck.length + busyContexts d < 8 ∧ recordAt d res.record = none ∧
      (contextAt d res.ctx).state = .idle ∧ (contextAt d res.ctx).owner = none ∧ toneAt d res.tone = .free := by
  unfold resources? at h
  split at h
  · rename_i ready
    rw [Bool.and_eq_true, decide_eq_true_eq] at ready
    split at h
    · rename_i r c t hr hc ht
      obtain rfl := Option.some.inj h
      have record := List.find?_some (p := fun r : Fin 16 => d.probes.records[r].isNone) hr
      have context := List.find?_some (p := fun c : Fin 8 => d.launch.contexts[c].free) hc
      have tone := List.find?_some (p := fun t : Fin 48 => d.tones[t] == .free) ht
      simp only [Context.free, Bool.and_eq_true, beq_iff_eq] at context
      exact ⟨ready.1, ready.2, Option.isNone_iff_eq_none.1 record, context.1, context.2, eq_of_beq tone⟩
    · cases h
  · cases h

theorem candidateAt_admissible {d : Device} {n : Fin 8} {p : Fin 2} {x : Candidate} (h : candidateAt d n p = some x) :
    pointHeld d x.record.point = false ∧ isStuck d x.record.point = false := by
  unfold candidateAt at h
  split at h
  · split at h
    · rename_i ready
      obtain rfl := Option.some.inj h
      simp only [Bool.and_eq_true, Bool.not_eq_true'] at ready
      exact ⟨ready.1.2, ready.2⟩
    · cases h
  · cases h

theorem chosen_admissible {d : Device} {x : Candidate} (h : chosen d = some x) :
    pointHeld d x.record.point = false ∧ isStuck d x.record.point = false := by
  obtain ⟨n, -, hn⟩ := List.mem_filterMap.1 (List.mem_of_find?_eq_some h)
  unfold candidateOf at hn
  split at hn
  · rename_i a b ha hb
    split at hn
    · obtain rfl := Option.some.inj hn
      exact candidateAt_admissible hb
    · obtain rfl := Option.some.inj hn
      exact candidateAt_admissible ha
  · rename_i a ha hb
    obtain rfl := Option.some.inj hn
    exact candidateAt_admissible ha
  · rename_i b hb
    exact candidateAt_admissible hn

theorem admitProbe_reads (d : Device) (x : Candidate) (res : Resources) :
    (admitProbe d x res).probes.records = d.probes.records.set res.record (some (newProbe d x res)) ∧
    (admitProbe d x res).launch.contexts =
      d.launch.contexts.set res.ctx ⟨.arming, some res.record, x.record.point, res.tone, none⟩ ∧
    (admitProbe d x res).launch.stuck = d.launch.stuck ∧
    (admitProbe d x res).tones = d.tones.set res.tone (.held res.record) := by
  simp [admitProbe, issueCommand, Device.setContext, Device.setRecord, Device.setTone]

theorem admitOne_probes {d e : Device} (h : admitOne d = some e) (laws : ProbeLaws d) : ProbeLaws e := by
  unfold admitOne at h
  split at h
  · rename_i res x hres hx
    obtain rfl := Option.some.inj h
    obtain ⟨leading, room, record, idle, free, tone⟩ := resources?_free hres
    obtain ⟨unheld, unstuck⟩ := chosen_admissible hx
    obtain ⟨records, contexts, stuck, tones⟩ := admitProbe_reads d x res
    have probe : (newProbe d x res).state = .launching ∧ (newProbe d x res).tone = res.tone ∧
      (newProbe d x res).ctx = res.ctx ∧ (newProbe d x res).holdsPoint = true ∧
      (newProbe d x res).listenFrom = none := ⟨rfl, rfl, rfl, rfl, rfl⟩
    refine ⟨?_, fun r p _ => ?_⟩
    · rw [(by simp : (admitProbe d x res).rounds = d.rounds)]
      refine laws.sound.admitted probe record idle free tone unheld unstuck room (fun k => ?_) (fun b => ?_) (fun u => ?_) stuck
        (verdictRecords_congr (d := d) (by simp [admitProbe]))
      · rw [recordAt, records, vec_set_get]
        rfl
      · rw [contextAt, contexts, vec_set_get]
        rfl
      · rw [toneAt, tones, vec_set_get]
        rfl
    · simpa only [Device.leading, Device.running, (by simp : (admitProbe d x res).iface = d.iface)] using leading
  · cases h

end Sys2Proof.Machine.StepLaws

namespace Sys2Proof.Machine.StepLaws

/-! ### Replies and timers, every law together -/

theorem evaluateRecord_kept (r : Fin 16) (p : Probe) (d : Device) : Kept d (evaluateRecord r p d) where
  bus := bus_of_sameBus (evaluateRecord_sameBus r p d)

theorem launchFault_kept (r : Fin 16) (p : Probe) (cause : LaunchCause) (k : Bool) (d : Device) :
    Kept d (launchFault r p cause k d) :=
  Kept.trans (e := releaseTone p.tone (some r) .ended p.lastListen k d) { }
    ((journalRequest_lawful _ _ _).toKept.trans (evaluateRecord_kept r _ _))

theorem issueStop_kept {c : Fin 8} {d : Device} (quiet : busLaw d → outstanding d c = []) : Kept d (issueStop c d) where
  bus law := issueStop_busLaw law (quiet law)

theorem stopConfirmed_kept (c : Fin 8) (d : Device) : Kept d (stopConfirmed c d) where
  bus := stopConfirmed_busLaw c

theorem withdraw_kept (c : Fin 8) (d : Device) : Kept d (withdraw c d) where
  bus := withdraw_busLaw c

theorem withOwner_kept (c : Fin 8) {f : Fin 16 → Probe → Device → Device} (h : ∀ r p d, Kept d (f r p d)) (d : Device) :
    Kept d (withOwner c f d) := by
  unfold withOwner
  split
  · exact (Lawful.refl d).toKept
  · split
    · exact h _ _ d
    · exact (Lawful.refl d).toKept

theorem setRecord_kept (r : Fin 16) (x : Option Probe) (d : Device) : Kept d (d.setRecord r x) where

/-- A reaction of the launch controller and the probe table alone. -/
theorem kept_of_launch {d : Device} (l : Launch) (p : ProbeTable)
    (bus : busLaw d → busLaw { d with launch := l, probes := p }) : Kept d { d with launch := l, probes := p } where
  bus := bus

theorem contextOn_frame (c : Fin 8) (d : Device) : ∃ l p, contextOn c d = { d with launch := l, probes := p } := by
  unfold contextOn
  split
  · split
    · unfold withOwner
      split
      · exact ⟨_, _, rfl⟩
      · split <;> exact ⟨_, _, rfl⟩
    · exact ⟨_, _, rfl⟩
  · exact ⟨_, _, rfl⟩

theorem contextOn_lawful (c : Fin 8) (d : Device) : Lawful d (contextOn c d) where
  toKept := by
    have bus := contextOn_busLaw (d := d) c
    obtain ⟨l, p, frame⟩ := contextOn_frame c d
    rw [frame] at bus ⊢
    exact kept_of_launch l p bus
  probes _ := contextOn_probes c d

theorem contextOff_lawful (c : Fin 8) (d : Device) : Lawful d (contextOff c d) where
  toKept := by
    unfold contextOff
    split
    · exact stopConfirmed_kept c d
    · exact (Lawful.refl d).toKept
  probes _ := contextOff_probes c d

theorem contextNack_lawful (c : Fin 8) (d : Device) : Lawful d (contextNack c d) where
  toKept := by
    unfold contextNack
    split
    · exact (stopConfirmed_kept c d).trans (withOwner_kept c (fun r p d => launchFault_kept r p _ _ d) _)
    · exact stopConfirmed_kept c d
    · exact (Lawful.refl d).toKept
  probes _ := contextNack_probes c d

theorem contextFault_lawful (c : Fin 8) (d : Device) : Lawful d (contextFault c d) where
  toKept := by
    unfold contextFault
    split
    · rename_i on
      exact (issueStop_kept (fun law => outstanding_of_state law (.inr on))).trans
        (withOwner_kept c (fun r p d => launchFault_kept r p.emptied _ _ d) _)
    · exact (Lawful.refl d).toKept
  probes _ := contextFault_probes c d

/-- A reply timer's expiry, the timer running (R67, R69, R75). -/
theorem replyTimeout_lawful {c : Fin 8} {d : Device} (timer : d.launch.contexts[c].timer.isSome) :
    Lawful d (replyTimeout c d) := by
  unfold replyTimeout
  split
  · rename_i arming
    refine ⟨(issueStop_kept (fun law => outstanding_of_timer law timer)).trans
      (withOwner_kept c (fun r p d => launchFault_kept r p _ _ d) _), fun _ laws => ?_⟩
    exact faultAt_probes laws (.inl arming) (issueStop_at c d) (fun t _ => toneAt_of_tones (by simp) t) (by simp) (by simp) id
      (fun _ => ⟨rfl, rfl⟩) _ _ (fun _ => ⟨issueStop_off c d, rfl⟩)
      (issueStop_unowned laws.sound (by rw [contextAt_eq, arming]; simp))
  · rename_i stopping
    exact stickContext_lawful stopping timer
  · exact .refl d

/-- A reaction of the commands on the bus and of reply timers alone. -/
theorem probes_of_timers {d : Device} {l : Launch} (stuck : l.stuck = d.launch.stuck)
    (contexts : ∀ c : Fin 8, ∃ t, l.contexts[c] = { d.launch.contexts[c] with timer := t }) (laws : ProbeLaws d) :
    ProbeLaws { d with launch := l } := by
  refine ⟨Sound.congr (d := d) (fun _ => rfl) (fun c => ?_) stuck (fun _ => rfl) (List.Sublist.refl _) laws.sound, laws.leading⟩
  obtain ⟨t, ht⟩ := contexts c
  rw [contextAt, contextAt, ht]
  exact ⟨rfl, rfl, rfl, rfl⟩

theorem startReplyTimer_frame (b : BusCommand) (d : Device) : ∃ l, startReplyTimer b d = { d with launch := l } ∧
    l.stuck = d.launch.stuck := by
  unfold startReplyTimer
  split
  · split <;> exact ⟨_, rfl, rfl⟩
  · split <;> exact ⟨_, rfl, rfl⟩
  · exact ⟨_, rfl, rfl⟩

theorem commandDone_frame (d : Device) : ∃ l, commandDone d = { d with launch := l } ∧ l.stuck = d.launch.stuck ∧
    ∀ c : Fin 8, ∃ t, l.contexts[c] = { d.launch.contexts[c] with timer := t } := by
  have stands : ∀ c : Fin 8, ∃ t, d.launch.contexts[c] = { d.launch.contexts[c] with timer := t } := fun c => ⟨_, rfl⟩
  unfold commandDone
  split
  · exact ⟨_, rfl, rfl, stands⟩
  · rename_i b _
    have contexts : ∀ c : Fin 8, ∃ t, (startReplyTimer b d).launch.contexts[c] = { d.launch.contexts[c] with timer := t } := by
      intro c
      rw [startReplyTimer_contexts]
      split
      · exact ⟨_, rfl⟩
      · exact stands c
    obtain ⟨l, frame, stuck⟩ := startReplyTimer_frame b d
    rw [frame] at contexts
    dsimp only
    rw [frame]
    split
    · exact ⟨_, rfl, stuck, contexts⟩
    · exact ⟨_, rfl, stuck, contexts⟩

theorem commandDone_lawful (d : Device) : Lawful d (commandDone d) := by
  have bus := commandDone_busLaw (d := d)
  obtain ⟨l, frame, stuck, contexts⟩ := commandDone_frame d
  rw [frame] at bus ⊢
  exact ⟨kept_of_launch l d.probes bus, fun _ => probes_of_timers stuck contexts⟩

theorem sendIssued_lawful (d : Device) : Lawful d (sendIssued d) := by
  have bus := sendIssued_busLaw (d := d)
  obtain ⟨s, w, frame⟩ := sendIssued_frame d
  rw [frame] at bus ⊢
  exact ⟨kept_of_launch _ d.probes bus, fun _ => probes_of_timers rfl (fun c => ⟨_, rfl⟩)⟩

/-! ### The tone pool at a round start -/

/-- At a round start a tone comes FREE two rounds after its release, and so none of a launched probe's or of a context in use
(R74). -/
theorem freeTones_sound {due : Fin 16 → Round} {stops : Fin 8 → Prop} {d : Device} (law : Sound due stops d)
    (recent : ∀ r p, Launched d r p → (d.rounds.number - due r).toNat < 2) : Sound due stops (freeTones d) := by
  have tones : ∀ t, toneAt (freeTones d) t = toneAtRound d.rounds.number (toneAt d t) := fun t => by
    rw [toneAt, freeTones, mapVec_get]
    rfl
  have stays : ∀ t s, toneAt d t = s → (∀ q, s ≠ .quarantined q) → toneAt (freeTones d) t = s := by
    intro t s hs other
    rw [tones, hs]
    cases s <;> simp_all [toneAtRound]
  have waits : ∀ t q, toneAt d t = .quarantined q → toneDue d.rounds.number q = false →
      toneAt (freeTones d) t = .quarantined q := by
    intro t q hq early
    rw [tones, hq, toneAtRound, if_neg (by rw [early]; simp)]
  exact { law with
    toned := fun r p hp => by
      obtain ⟨early, held⟩ | ⟨grace, q, quarantined, release, rest⟩ | ⟨grace, idle, stuck⟩ := law.toned r p hp
      · exact .inl ⟨early, stays _ _ held (by simp)⟩
      · have short := recent r p hp
        refine .inr (.inl ⟨grace, q, waits _ q quarantined ?_, release, rest⟩)
        rw [toneDue, release, decide_eq_false (by omega)]
        simp
      · exact .inr (.inr ⟨grace, idle, stays _ _ stuck (by simp)⟩)
    ownerless := fun c inuse free => by
      obtain ⟨off, q, quarantined, unconfirmed⟩ := law.ownerless c inuse free
      exact ⟨off, q, waits _ q quarantined (by rw [toneDue, unconfirmed]; rfl), unconfirmed⟩
    stuckTones := fun x hx => stays _ _ (law.stuckTones x hx) (by simp)
    verdict := law.verdict_of (fun _ => rfl) rfl }

/-! ### Without launched probes -/

/-- Without launched probes no law of theirs reads the round number or whether the device leads. -/
theorem probes_of_unlaunched {e : Device} {due : Fin 16 → Round} (law : Sound due (fun _ => False) e)
    (h : ∀ r p, ¬Launched e r p) : ProbeLaws e :=
  ⟨law.redue (fun r p hp => absurd hp (h r p)), fun r p hp => absurd hp (h r p)⟩

end Sys2Proof.Machine.StepLaws

namespace Sys2Proof.Machine.StepLaws

/-! ### Slots and their probes -/

/-- A slot replaced by one whose verdict counts agree where the old one's did. -/
theorem setSlot_lawful (n : Fin 8) (x : Slot) (d : Device)
    (h : d.slots[n].summary.total = BitVec.ofNat 32 d.slots[n].verdicts → x.summary.total = BitVec.ofNat 32 x.verdicts) :
    Lawful d (d.setSlot n x) where
  summary law m := by
    rw [Device.setSlot_slots_get]
    split
    · exact h (law n)
    · exact law m

theorem setSched_lawful (n : Fin 8) (x : SlotSchedule) (d : Device) : Lawful d (d.setSched n x) where

/-- An area's entries: keys strictly rising and under 128, each entry at its tag's index, no tag in two entries (7.4, R128). -/
def Indexed (a : Area) : Prop :=
  Sparse.rising a.entries = true ∧ (∀ x ∈ a.entries, x.1 < 128 ∧ x.1 / 2 = ltbIndex x.2.tag) ∧
    ∀ x ∈ a.entries, ∀ y ∈ a.entries, x.2.tag = y.2.tag → x.1 = y.1

theorem areaLaw_iff (d : Device) : areaLaw d ↔ ∀ n : Fin 8, Indexed d.areas[n] := Iff.rfl

theorem setArea_lawful (n : Fin 8) (a : Area) (d : Device) (h : Indexed d.areas[n] → Indexed a) :
    Lawful d (d.setArea n a) where
  area law := by
    rw [areaLaw_iff] at law ⊢
    intro m
    rw [Device.setArea_areas_get]
    split
    · exact h (law n)
    · exact law m

theorem owe_setSlot_lawful (ch : Channel) (n : Fin 8) (x : Slot) (d : Device)
    (h : d.slots[n].summary.total = BitVec.ofNat 32 d.slots[n].verdicts → x.summary.total = BitVec.ofNat 32 x.verdicts) :
    Lawful d (owe ch (d.setSlot n x)) :=
  (setSlot_lawful n x d h).trans (owe_lawful ch _)

theorem moveSlot_lawful (n : Fin 8) (st : SlotState) (d : Device) : Lawful d (moveSlot n st d) :=
  owe_setSlot_lawful _ n _ d id

/-- STOP is issued only for a context that is ON, which has no command outstanding (R66, R68). -/
theorem requestStop_bus (c : Fin 8) (d : Device) (law : busLaw d) : busLaw (requestStop c d) := by
  unfold requestStop
  split
  · rename_i on
    exact issueStop_busLaw law (outstanding_of_state law (.inr on))
  · exact law

theorem requestStops_bus (cs : List (Fin 8)) (d : Device) (law : busLaw d) : busLaw (requestStops cs d) := by
  unfold requestStops
  generalize List.finRange 8 = xs
  induction xs generalizing d with
  | nil => exact law
  | cons x xs ih =>
    rw [List.foldl_cons]
    refine ih _ ?_
    split
    · exact requestStop_bus x d law
    · exact law

theorem voidIf_sameBus (sel : Probe → Bool) (d : Device) (r : Fin 16) : SameBus d (voidIf sel d r) := by
  unfold voidIf
  split
  · split
    · exact voidProbe_sameBus r d
    · exact .of_eq rfl
  · exact .of_eq rfl

theorem voidProbes_lawful (sel : Probe → Bool) (d : Device) : Lawful d (voidProbes sel d) where
  bus law := requestStops_bus _ _ (bus_of_sameBus (SameBus.foldl _ (voidIf_sameBus sel) _ d) law)
  probes _ := voidProbes_probes sel d

theorem moveProbes_kept (d : Device) : Kept d (moveProbes d) where
  bus law := requestStops_bus _ _ (bus_of_sameBus (SameBus.foldl _ moveProbe_sameBus _ d) law)

theorem completeEarly_lawful {d : Device} {r : Fin 16} {p : Probe} (h : d.probes.records[r] = some p) (hs : p.launched)
    (hl : p.listenFrom.isSome) : Lawful d (completeEarly r p d) where
  bus law := by
    unfold completeEarly
    split
    · exact bus_of_sameBus (evaluateRecord_sameBus r p _) (requestStop_bus _ _ (bus_of_launch (by simp) law))
    · exact bus_of_sameBus (evaluateRecord_sameBus r p _) (bus_of_launch (by simp) law)
  probes _ := completeEarly_probes h hs hl

theorem discardStage_lawful (n : Fin 8) (d : Device) : Lawful d (discardStage n d) where

theorem drainSlot_lawful (n : Fin 8) (reason : Reason) (d : Device) : Lawful d (drainSlot n reason d) := by
  unfold drainSlot
  dsimp only
  split
  · split
    · exact owe_setSlot_lawful _ n _ d (by exact id)
    · exact .refl d
  · split
    · exact ((owe_setSlot_lawful _ n _ d (by exact id)).trans (discardStage_lawful n _)).trans (voidProbes_lawful _ _)
    · exact .refl d

/-! ### The arbiter, fetches and closing writes -/

theorem fetchPlace_lawful (n : Fin 8) (d : Device) (p : Fin 2) : Lawful d (fetchPlace n d p) := by
  unfold fetchPlace
  split
  · split
    · exact .refl d
    · exact Lawful.trans { } (issue_lawful _ _ _ _ _ _ rfl)
  · exact .refl d

theorem fetchAll_lawful (d : Device) : Lawful d (fetchAll d) :=
  .foldl (fun d n => (fetchPlace_lawful n d 0).trans (fetchPlace_lawful n _ 1)) _ d

theorem writeSummary_lawful (n : Fin 8) (d : Device) : Lawful d (writeSummary n d) :=
  (setSlot_lawful n _ d (by exact id)).trans (issue_lawful _ _ _ _ _ _ rfl)

theorem writeNotRun_lawful (n : Fin 8) (c : Nat) (d : Device) : Lawful d (writeNotRun n c d) :=
  (setSlot_lawful n _ d (by exact id)).trans (issue_lawful _ _ _ _ _ _ rfl)

theorem closeFrom_lawful (n : Fin 8) (k : Nat) (d : Device) : Lawful d (closeFrom n k d) := by
  unfold closeFrom
  split
  · split
    · exact writeNotRun_lawful n _ d
    · exact writeSummary_lawful n d
  · exact writeSummary_lawful n d

theorem closeIfDrained_lawful (d : Device) (n : Fin 8) : Lawful d (closeIfDrained d n) := by
  unfold closeIfDrained
  split
  · exact closeFrom_lawful n 0 d
  · exact .refl d

theorem resources_free {d : Device} {res : Resources} (h : resources? d = some res) :
    d.launch.contexts[res.ctx].free = true := by
  unfold resources? at h
  split at h
  · split at h
    · rename_i hr hc ht
      obtain rfl := Option.some.inj h
      exact List.find?_some (p := fun c : Fin 8 => d.launch.contexts[c].free) hc
    · cases h
  · cases h

/-- A command issued for a context that has none outstanding and whose timer does not run keeps the law of R66. -/
theorem issueCommand_bus {d : Device} {b : BusCommand} {c : Fin 8} (law : busLaw d) (hb : b.context? = some c)
    (quiet : outstanding d c = []) (timer : d.launch.contexts[c].timer = none)
    (awaits : awaitsReply (issueCommand b d) c b = true) : busLaw (issueCommand b d) := by
  intro x
  have listed := issueCommand_outstanding b d x
  by_cases hx : x = c
  · subst hx
    rw [quiet, serves, if_pos hb, List.append_nil, List.perm_singleton] at listed
    have stands : (issueCommand b d).launch.contexts[x] = d.launch.contexts[x] := rfl
    rw [listed, stands, timer]
    simp [awaits]
  · rw [serves, if_neg (by rw [hb]; simpa using Ne.symm hx), List.nil_append] at listed
    exact busLaw_at law listed rfl

/-- LAUNCH is issued for a context that was IDLE, which has no command outstanding (R62, R64, R66). -/
theorem admitProbe_bus {d : Device} {x : Candidate} {res : Resources} (h : d.launch.contexts[res.ctx].state = .idle)
    (law : busLaw d) : busLaw (admitProbe d x res) := by
  let armed := d.setContext res.ctx ⟨.arming, some res.record, x.record.point, res.tone, none⟩
  have taken : armed.launch.contexts[res.ctx] = ⟨.arming, some res.record, x.record.point, res.tone, none⟩ := by
    rw [Device.setContext_contexts_get, if_pos rfl]
  have quiet : outstanding d res.ctx = [] := outstanding_of_state law (.inl h)
  have issued : busLaw (issueCommand (.launch x.record.point res.tone x.record.depth (some res.ctx)) armed) := by
    refine issueCommand_bus (setContext_busLaw law quiet rfl) rfl quiet (by rw [taken]) ?_
    simp only [awaitsReply, issueCommand, taken]
    simp
  exact bus_of_launch (by simp [admitProbe, armed, issueCommand, Device.setContext]) issued

theorem admitOne_lawful {d e : Device} (h : admitOne d = some e) : Lawful d e := by
  have probes := admitOne_probes h
  unfold admitOne at h
  split at h
  · rename_i res x hres hx
    obtain rfl := Option.some.inj h
    have free := resources_free hres
    simp only [Context.free, Bool.and_eq_true, beq_iff_eq] at free
    exact { bus := admitProbe_bus free.1, probes := fun _ => probes }
  · cases h

theorem admitAll_lawful (d : Device) : Lawful d (admitAll d) := by
  unfold admitAll
  generalize 8 = k
  induction k generalizing d with
  | zero => exact .refl d
  | succ k ih =>
    unfold admitSteps
    split
    · exact .refl d
    · rename_i e he
      exact (admitOne_lawful he).trans (ih e)

theorem settleOnce_lawful (d : Device) : Lawful d (settleOnce d) :=
  ((admitAll_lawful d).trans (fetchAll_lawful _)).trans (.foldl closeIfDrained_lawful _ _)

/-! ### Requests, validation and the writes of a slot -/

theorem updateWindow_lawful (w : Fin 4) (x : Window) (d : Device) : Lawful d (updateWindow w x d) := by
  unfold updateWindow
  split
  · exact .refl d
  · exact Lawful.trans { } (owe_lawful _ _)

theorem suspendBound_lawful (ws : List (Fin 4)) (d : Device) : Lawful d (suspendBound ws d) :=
  (Lawful.foldl (fun d n => moveSlot_lawful n .suspended d) _ d).trans (voidProbes_lawful _ _)

theorem resumeBound_lawful (ws : List (Fin 4)) (d : Device) : Lawful d (resumeBound ws d) :=
  .foldl (fun d n => moveSlot_lawful n .running d) _ d

theorem applyWants_lawful (area : List Byte) (d : Device) : Lawful d (applyWants area d) :=
  (Lawful.foldl (fun d w => updateWindow_lawful w _ d) _ d).trans (suspendBound_lawful _ _)

theorem settleWindows_lawful (d : Device) : Lawful d (settleWindows d) :=
  (Lawful.foldl (fun d w => updateWindow_lawful w _ d) _ d).trans (resumeBound_lawful _ _)

theorem resumeAtStart_lawful (d : Device) (n : Fin 8) : Lawful d (resumeAtStart d n) := by
  unfold resumeAtStart
  split
  · exact moveSlot_lawful n .running d
  · exact .refl d

theorem Summary.total_zero : Summary.zero.total = 0#32 := by decide

theorem actOnRequest_lawful (n : Fin 8) (k : RequestKind) (d : Device) : Lawful d (actOnRequest n k d) := by
  cases k with
  | submit =>
    have submitted := owe_setSlot_lawful (.shadow n) n (d.slots[n].submitted d.iface.mode) d
      (fun _ => Summary.total_zero)
    simp only [actOnRequest, takeSubmit]
    split
    · exact submitted
    · exact submitted.trans (issue_lawful _ _ _ _ _ _ rfl)
  | abort => exact drainSlot_lawful n .aborted d
  | release =>
    have begun := setArea_lawful n { d.areas[n] with sweep := some 0 } d id
    exact begun.trans (owe_setSlot_lawful _ n _ _ (by exact id))
  | other => exact .refl d

theorem judgeRequest_lawful (area : List Byte) (d : Device) (n : Fin 8) : Lawful d (judgeRequest area d n) := by
  unfold judgeRequest
  dsimp only
  split
  · exact .refl d
  · split
    · exact (setSlot_lawful n _ d (by exact id)).trans (actOnRequest_lawful n _ _)
    · exact owe_setSlot_lawful _ n _ d (by exact id)

theorem progressShadow_lawful (d : Device) (n : Fin 8) : Lawful d (progressShadow d n) := by
  unfold progressShadow
  split
  · exact .refl d
  · exact owe_lawful _ d

theorem rejectSlot_lawful (n : Fin 8) (reason : Reason) (d : Device) : Lawful d (rejectSlot n reason d) :=
  owe_setSlot_lawful _ n _ d (by exact id)

theorem latchDescriptor_lawful (n : Fin 8) (x : Descriptor) (d : Device) : Lawful d (latchDescriptor n x d) :=
  (setSlot_lawful n _ d (by exact id)).trans (setSched_lawful n _ _)

theorem placeCampaign_lawful (n : Fin 8) (d : Device) : Lawful d (placeCampaign n d) := by
  unfold placeCampaign
  split
  · exact .refl d
  · split
    · exact drainSlot_lawful n _ d
    · split <;> exact moveSlot_lawful n _ d

theorem validated_lawful (n : Fin 8) (r : ReadResult) (d : Device) : Lawful d (validated n r d) := by
  unfold validated
  cases r with
  | failed => exact rejectSlot_lawful n _ d
  | bytes b =>
    dsimp only
    split
    · exact rejectSlot_lawful n _ d
    · exact (latchDescriptor_lawful n _ d).trans (placeCampaign_lawful n _)

theorem foldr_set_add_one (l : List Word) (i : Nat) (h : i < l.length) :
    (l.set i (l[i] + 1#32)).foldr (· + ·) 0#32 = l.foldr (· + ·) 0#32 + 1#32 := by
  induction l generalizing i with
  | nil => cases h
  | cons x xs ih =>
    cases i with
    | zero => simp only [List.getElem_cons_zero, List.set_cons_zero, List.foldr_cons]; ac_rfl
    | succ i => simp only [List.getElem_cons_succ, List.set_cons_succ, List.foldr_cons, ih i (by simpa using h)]; ac_rfl

/-- A verdict counted raises the sum of the codes and the verdicts written by 1 each (R171). -/
theorem Summary.total_count (s : Summary) (code : Fin 12) (margin : Option Int) :
    (s.count code margin).total = s.total + 1#32 := by
  have h := foldr_set_add_one s.codes.toList code.val (by simp)
  simpa [Summary.total, Summary.count, Vector.toList_set] using h

theorem countVerdict_lawful (n : Fin 8) (code : Fin 12) (margin : Option Int) (d : Device) :
    Lawful d (d.setSlot n (d.slots[n].countVerdict code margin)) :=
  setSlot_lawful n _ d (fun h => by
    rw [Slot.countVerdict]
    dsimp only
    rw [Summary.total_count, h, BitVec.ofNat_add])

theorem completeIfDone_lawful (n : Fin 8) (d : Device) : Lawful d (completeIfDone n d) := by
  unfold completeIfDone
  split
  · exact drainSlot_lawful n _ d
  · exact .refl d

theorem setStatus_lawful (n : Fin 8) (c : Nat) (st : CircuitStatus) (d : Device) : Lawful d (setStatus n c st d) where

theorem notRunLanded_lawful (n : Fin 8) (c : Nat) (d : Device) : Lawful d (notRunLanded n c d) :=
  (countVerdict_lawful n 11 none d).trans (closeFrom_lawful n _ _)

theorem notRunFailed_lawful (n : Fin 8) (d : Device) : Lawful d (notRunFailed n d) :=
  (drainSlot_lawful n _ d).trans (writeSummary_lawful n _)

theorem summaryLanded_lawful (n : Fin 8) (d : Device) : Lawful d (summaryLanded n d) :=
  owe_setSlot_lawful _ n _ d (by exact id)

theorem shadowLanded_lawful (n : Fin 8) (closing announces : Bool) (d : Device) :
    Lawful d (shadowLanded n closing announces d) := by
  have closed : Lawful d (if closing then d.setSlot n { d.slots[n] with state := .closed, closing := none } else d) := by
    split
    · exact setSlot_lawful n _ d (by exact id)
    · exact .refl d
  unfold shadowLanded
  dsimp only
  refine Lawful.trans ?_ (reissue_lawful _ _)
  split
  · exact closed.trans (raise_lawful _ _)
  · exact closed

theorem channelLanded_lawful (k : AccessKind) (d : Device) : Lawful d (channelLanded k d) := by
  unfold channelLanded
  split
  · exact shadowLanded_lawful _ _ _ d
  · exact reissue_lawful _ d
  · exact .refl d

end Sys2Proof.Machine.StepLaws

namespace Sys2Proof.Machine.StepLaws

/-! ### Detectors and looks -/

/-- The laws of a lead's credit where the peers and the queue stand and what the detectors hold stays local. -/
theorem admission_of_held {d e : Device} (hp : e.lead.peers = d.lead.peers)
    (hq : e.classifier.queue = d.classifier.queue) (hd : heldLaw d → heldLaw e) : AdmissionLaws d → AdmissionLaws e := by
  rintro ⟨peer, reserve, held⟩
  refine ⟨?_, ?_, hd held⟩
  · simpa only [peerLaw, inQueue, hq, hp] using peer
  · simpa only [reserveLaw, LeadLink.reserves, hp] using reserve

theorem setDetector_held {i : Fin 4} {x : Detector} {d : Device} (law : heldLaw d)
    (h : ∀ xs, x = .holding xs → ∀ y ∈ xs, y.source = none) : heldLaw (d.setDetector i x) := by
  intro j xs
  rw [Device.setDetector_detectors_get]
  split
  · exact h xs
  · exact law j xs

theorem setDetector_lawful (i : Fin 4) (x : Detector) (d : Device)
    (h : heldLaw d → ∀ xs, x = .holding xs → ∀ y ∈ xs, y.source = none) : Lawful d (d.setDetector i x) where
  admission := admission_of_held (by simp) (by simp) (fun law => setDetector_held law (h law))

/-- A reaction of the tap array that leaves the detectors. -/
theorem taps_lawful (a : TapArray) (d : Device) (h : a.detectors = d.taps.detectors) : Lawful d { d with taps := a } where
  admission := admission_of_held rfl rfl (by simp only [heldLaw, h, imp_self])

theorem beginLook_lawful (i : Fin 4) (port : Fin 32) (slot : Fin 96) (tones : Option (List (Fin 48))) (d : Device) :
    Lawful d (beginLook i port slot tones d) :=
  setDetector_lawful i _ d (fun _ _ h => by cases h)

theorem drawSweep_detectors (a : TapArray) : (drawSweep a).2.detectors = a.detectors := by
  unfold drawSweep
  (repeat' split) <;> rfl

theorem takeWork_lawful (d : Device) (i : Fin 4) : Lawful d (takeWork d i) := by
  unfold takeWork
  split
  · split
    · exact (taps_lawful _ d (by rfl)).trans (beginLook_lawful i _ _ _ _)
    · have drawn := drawSweep_detectors d.taps
      split
      · rename_i h
        rw [h] at drawn
        exact (taps_lawful _ d drawn).trans (beginLook_lawful i _ _ _ _)
      · rename_i h
        rw [h] at drawn
        exact taps_lawful _ d drawn
  · exact .refl d

theorem takeAllWork_lawful (d : Device) : Lawful d (takeAllWork d) := .foldl takeWork_lawful _ d

theorem planWatches_lawful (ws : List Watch) (d : Device) : Lawful d (ws.foldl planWatch d) :=
  .foldl (fun d w => taps_lawful _ d (by rfl)) ws d

theorem dropPlan_lawful (d : Device) : Lawful d (dropPlan d) := taps_lawful _ d (by rfl)

theorem abandonLooks_lawful (d : Device) : Lawful d (abandonLooks d) where
  admission := admission_of_held (by simp) (by simp) (fun law i xs => by
    simp only [abandonLooks, mapVec_get]
    split
    · exact fun h => by cases h
    · exact law i xs)

/-- What the queue holds of one source after more sightings have joined its tail. -/
theorem pushQueue_count (p : Option (Fin 16)) (xs : List Sighting) (d : Device) :
    (pushQueue xs d).classifier.queue.countP (fun e => e.sighting.source == p) =
      d.classifier.queue.countP (fun e => e.sighting.source == p) + xs.countP (fun x => x.source == p) := by
  simp only [pushQueue, Device.setQueue_queue, List.countP_append, List.countP_map]
  rfl

/-- Local sightings joining the queue within the free places of the local share (R94). -/
theorem pushQueue_lawful (xs : List Sighting) (d : Device) (hroom : xs.length ≤ localRoom d)
    (hlocal : heldLaw d → ∀ x ∈ xs, x.source = none) : Lawful d (pushQueue xs d) where
  admission := fun ⟨peer, reserve, held⟩ => by
    refine ⟨fun p => ?_, reserve, held⟩
    have none_of : xs.countP (fun x => x.source == some p) = 0 := by
      rw [List.countP_eq_zero]
      intro x mem
      simp [hlocal held x mem]
    rw [inQueue, pushQueue_count, none_of]
    exact peer p
  share law := by
    have fits : localCount d ≤ 64 := law
    have more : xs.countP (fun x => x.source == none) ≤ xs.length := List.countP_le_length
    rw [localLaw, localCount, pushQueue_count]
    simp only [localRoom, localCount, Config.localShare] at hroom fits ⊢
    omega

theorem serveDetector_lawful (d : Device) (i : Fin 4) : Lawful d (serveDetector d i) := by
  unfold serveDetector
  split
  · rename_i held hheld
    have pushed : Lawful d (pushQueue (held.take (localRoom d)) d) :=
      pushQueue_lawful _ d (by simp) (fun law x mem => law i held hheld x (List.mem_of_mem_take mem))
    dsimp only
    split
    · exact (pushed.trans (setDetector_lawful i _ _ (fun _ _ h => by cases h))).trans (takeWork_lawful _ i)
    · refine pushed.trans (setDetector_lawful i _ _ (fun law _ h x mem => ?_))
      cases h
      exact law i held hheld x (List.mem_of_mem_drop mem)
  · exact .refl d

theorem serveHolding_lawful (d : Device) : Lawful d (serveHolding d) :=
  .foldl (fun d i => by
    unfold serveInTurn
    split
    · exact serveDetector_lawful d i
    · exact .refl d) _ d

theorem offerLocal_lawful (i : Fin 4) (xs : List Sighting) (d : Device) (h : ∀ x ∈ xs, x.source = none) :
    Lawful d (offerLocal i xs d) := by
  have offered : Lawful d (d.setDetector i (.holding xs)) := setDetector_lawful i _ d (fun _ _ h' => by cases h'; exact h)
  unfold offerLocal
  split
  · exact offered
  · exact offered.trans (serveDetector_lawful _ i)

theorem holdSighting_lawful (d : Device) (x : Sighting) : Lawful d (holdSighting d x) where
  hold law := by
    unfold holdSighting
    split
    · rename_i room
      simp only [holdLaw, List.length_append, List.length_cons, List.length_nil]
      omega
    · exact law

theorem holdAll_lawful (i : Fin 4) (xs : List Sighting) (d : Device) : Lawful d (holdAll i xs d) := by
  have held : Lawful d (xs.foldl holdSighting d) := .foldl holdSighting_lawful xs d
  unfold holdAll
  dsimp only
  refine Lawful.trans (Lawful.trans ?_ (setDetector_lawful i .idle _ (fun _ _ h => by cases h))) (takeWork_lawful _ i)
  split
  · exact held
  · exact held.trans (owe_lawful _ _)

theorem advance_lawful (t : Nat) (d : Device) : Lawful d (d.advance t) where

theorem lookSightings_local (d : Device) (offset : BitVec 6) (l : Look) (found : List FoundTone) :
    ∀ x ∈ lookSightings d offset l found, x.source = none := by
  simp only [lookSightings, List.mem_append, List.mem_map]
  rintro x (⟨y, -, rfl⟩ | ⟨y, -, rfl⟩) <;> rfl

theorem endLook_lawful (i : Fin 4) (l : Look) (found : List FoundTone) (d : Device) : Lawful d (endLook i l found d) := by
  unfold endLook
  dsimp only
  refine (advance_lawful l.endAt d).trans ?_
  split
  · exact holdAll_lawful i _ _
  · exact offerLocal_lawful i _ _ (lookSightings_local _ _ l found)

theorem openLooks_lawful (deadline : Nat) (d : Device) : Lawful d (openLooks deadline d) := by
  have opened : Lawful d { dropPlan d with rounds := { d.rounds with phase := .opened deadline } } :=
    (dropPlan_lawful d).trans { }
  exact (opened.trans (planWatches_lawful _ _)).trans (takeAllWork_lawful _)

theorem takeWatchList_lawful (n : Round) (ws : List Watch) (d : Device) : Lawful d (takeWatchList n ws d) := by
  unfold takeWatchList
  split
  · split
    · exact .refl d
    · split
      · exact taps_lawful _ d (by rfl)
      · split
        · exact taps_lawful _ d (by rfl)
        · exact .refl d
    · split
      · exact (planWatches_lawful ws d).trans (takeAllWork_lawful _)
      · exact .refl d
  · exact .refl d

end Sys2Proof.Machine.StepLaws

namespace Sys2Proof.Machine.StepLaws

/-! ### A lead's credit and reserves -/

/-- The credit law and the lent law, of the link state alone (R113). -/
def Balanced (l : LeadLink) : Prop :=
  l.credit = Config.creditPool ∧ ∀ p : Fin 16, l.peers[p].lent % 4 = 0 ∧ l.peers[p].lent ≤ 64

/-- The reserve law, and each peer's sightings in the queue within its limit, of the link state and the queue's counts (R102,
R110). -/
structure Covered (counts : Fin 16 → Nat) (l : LeadLink) : Prop where
  within : ∀ p : Fin 16, counts p ≤ l.peers[p].limit
  fours : ∀ p : Fin 16, l.peers[p].reserve % 4 = 0 ∧ l.peers[p].reserve ≤ 32 ∧ l.peers[p].target % 4 = 0 ∧
    l.peers[p].target ≤ 32
  total : l.reserves ≤ Config.reserveLimit

theorem balanced_iff (d : Device) : creditLaw d ∧ lentLaw d ↔ Balanced d.lead := Iff.rfl

theorem admission_iff (d : Device) : AdmissionLaws d ↔ Covered (inQueue d) d.lead ∧ heldLaw d :=
  ⟨fun ⟨peer, ⟨fours, total⟩, held⟩ => ⟨⟨peer, fours, total⟩, held⟩,
    fun ⟨⟨within, fours, total⟩, held⟩ => ⟨within, ⟨fours, total⟩, held⟩⟩

theorem toList_map_congr {α : Type} {f : α → Nat} {v w : Vector α 16} (h : ∀ p : Fin 16, f v[p] = f w[p]) :
    v.toList.map f = w.toList.map f := by
  refine List.ext_getElem (by simp) (fun i hi _ => ?_)
  have at_i := h ⟨i, by simpa using hi⟩
  simpa using at_i

theorem sum_le_sum {α : Type} {f : α → Nat} {v w : Vector α 16} (h : ∀ p : Fin 16, f v[p] ≤ f w[p]) :
    (v.toList.map f).sum ≤ (w.toList.map f).sum := by
  refine List.Forall₂.sum_le_sum (List.forall₂_iff_get.2 ⟨by simp, fun i hi _ => ?_⟩)
  have at_i := h ⟨i, by simpa using hi⟩
  simpa using at_i

theorem list_sum_set {α : Type} (f : α → Nat) (l : List α) (i : Nat) (x : α) (h : i < l.length) :
    ((l.set i x).map f).sum + f l[i] = (l.map f).sum + f x := by
  induction l generalizing i with
  | nil => cases h
  | cons y ys ih =>
    cases i with
    | zero => simp only [List.set_cons_zero, List.map_cons, List.sum_cons, List.getElem_cons_zero]; omega
    | succ i =>
      have := ih i (by simpa using h)
      simp only [List.set_cons_succ, List.map_cons, List.sum_cons, List.getElem_cons_succ]
      omega

theorem sum_set {α : Type} (f : α → Nat) (v : Vector α 16) (p : Fin 16) (x : α) :
    ((v.set p x).toList.map f).sum + f v[p] = (v.toList.map f).sum + f x := by
  have := list_sum_set f v.toList p.val x (by simp)
  simpa [Vector.toList_set] using this

theorem sum_four {α : Type} (f : α → Nat) (v : Vector α 16) (h : ∀ p : Fin 16, f v[p] % 4 = 0) :
    (v.toList.map f).sum % 4 = 0 := by
  refine Nat.mod_eq_zero_of_dvd (List.dvd_sum (fun y mem => ?_))
  obtain ⟨x, hx, rfl⟩ := List.mem_map.1 mem
  obtain ⟨i, hi, rfl⟩ := List.mem_iff_getElem.1 hx
  have at_i := h ⟨i, by simpa using hi⟩
  exact Nat.dvd_of_mod_eq_zero (by simpa using at_i)

/-- The laws read of a peer its reserve, its target, its lent credit and its blocks. -/
theorem balanced_of_peers {l m : LeadLink} (hp : m.pool = l.pool)
    (h : ∀ p : Fin 16, m.peers[p].lent = l.peers[p].lent ∧ m.peers[p].blocks = l.peers[p].blocks) :
    Balanced l → Balanced m := by
  rintro ⟨credit, lent⟩
  refine ⟨?_, fun p => by rw [(h p).1]; exact lent p⟩
  rw [← credit, LeadLink.credit, LeadLink.credit, hp,
    toList_map_congr (w := l.peers) (fun p => by simp only [Peer.withdrawn, (h p).1, (h p).2])]

theorem covered_of_peers {counts : Fin 16 → Nat} {l m : LeadLink}
    (h : ∀ p : Fin 16, m.peers[p].lent = l.peers[p].lent ∧ m.peers[p].blocks = l.peers[p].blocks ∧
      m.peers[p].reserve = l.peers[p].reserve)
    (ht : ∀ p : Fin 16, (l.peers[p].target % 4 = 0 ∧ l.peers[p].target ≤ 32) →
      m.peers[p].target % 4 = 0 ∧ m.peers[p].target ≤ 32) : Covered counts l → Covered counts m := by
  rintro ⟨within, fours, total⟩
  refine ⟨fun p => ?_, fun p => ?_, ?_⟩
  · obtain ⟨lent, blocks, reserve⟩ := h p
    simpa only [Peer.limit, Peer.withdrawn, lent, blocks, reserve] using within p
  · obtain ⟨four, most, target⟩ := fours p
    rw [(h p).2.2]
    exact ⟨four, most, ht p target⟩
  · rwa [LeadLink.reserves, toList_map_congr (fun p => (h p).2.2)]

/-- A reaction of the lead's link state alone. -/
theorem lead_lawful (l : LeadLink) (d : Device) (hb : Balanced d.lead → Balanced l)
    (hc : Covered (inQueue d) d.lead → Covered (inQueue d) l) : Lawful d { d with lead := l } where
  credit := hb
  admission := by
    rw [admission_iff, admission_iff]
    exact fun ⟨covered, held⟩ => ⟨hc covered, held⟩

/-- A reaction of the lead's link state that leaves its pool and, of each peer, its reserve, target, lent credit and blocks. -/
theorem lead_lawful_of_same (l : LeadLink) (d : Device) (hp : l.pool = d.lead.pool)
    (h : ∀ p : Fin 16, l.peers[p].lent = d.lead.peers[p].lent ∧ l.peers[p].blocks = d.lead.peers[p].blocks ∧
      l.peers[p].reserve = d.lead.peers[p].reserve ∧ l.peers[p].target = d.lead.peers[p].target) :
    Lawful d { d with lead := l } :=
  lead_lawful l d (balanced_of_peers hp (fun p => ⟨(h p).1, (h p).2.1⟩))
    (covered_of_peers (fun p => ⟨(h p).1, (h p).2.1, (h p).2.2.1⟩) (fun p => by rw [(h p).2.2.2]; exact id))

theorem setPeer_lawful (p : Fin 16) (x : Peer) (d : Device)
    (h : x.lent = d.lead.peers[p].lent ∧ x.blocks = d.lead.peers[p].blocks ∧ x.reserve = d.lead.peers[p].reserve ∧
      x.target = d.lead.peers[p].target) : Lawful d (d.setPeer p x) :=
  lead_lawful_of_same _ d (by rfl) (fun q => by
    rw [vec_set_get]
    split
    · rename_i hq
      rw [hq]
      exact h
    · exact ⟨rfl, rfl, rfl, rfl⟩)

/-- What a block's return takes from the blocks it gives back (R112). -/
theorem returnBlocks_sum (n : Round) (queued limit : Nat) (kept bs : List CreditBlock) :
    ((returnBlocks n queued limit kept bs).1.map (·.amount)).sum + (returnBlocks n queued limit kept bs).2 =
      (kept.map (·.amount)).sum + (bs.map (·.amount)).sum := by
  induction bs generalizing kept with
  | nil => simp [returnBlocks]
  | cons b bs ih =>
    unfold returnBlocks
    split
    · have := ih kept
      simp only [List.map_cons, List.sum_cons]
      omega
    · rw [ih]
      simp only [List.map_append, List.map_cons, List.map_nil, List.sum_append, List.sum_cons, List.sum_nil]
      omega

/-- The blocks that stay cover the queue where the blocks covered it before (R112). -/
theorem returnBlocks_covers (n : Round) (queued limit : Nat) (kept bs : List CreditBlock)
    (h : queued ≤ limit + (kept.map (·.amount)).sum + (bs.map (·.amount)).sum) :
    queued ≤ limit + ((returnBlocks n queued limit kept bs).1.map (·.amount)).sum := by
  induction bs generalizing kept with
  | nil => simpa [returnBlocks] using h
  | cons b bs ih =>
    unfold returnBlocks
    split
    · rename_i due
      simp only [Bool.and_eq_true, decide_eq_true_eq] at due
      exact ih kept due.2
    · refine ih (kept ++ [b]) ?_
      simp only [List.map_append, List.map_cons, List.map_nil, List.sum_append, List.sum_cons, List.sum_nil] at h ⊢
      omega

/-- One peer replaced, with the pool: the credit stands when the pool and the peer together stand. -/
theorem balanced_set {l m : LeadLink} {p : Fin 16} {x : Peer} (hm : m.peers = l.peers.set p x)
    (hsum : m.pool + (x.lent + x.withdrawn) = l.pool + (l.peers[p].lent + l.peers[p].withdrawn))
    (hx : (l.peers[p].lent % 4 = 0 ∧ l.peers[p].lent ≤ 64) → x.lent % 4 = 0 ∧ x.lent ≤ 64) : Balanced l → Balanced m := by
  rintro ⟨credit, lent⟩
  constructor
  · have := sum_set (fun q : Peer => q.lent + q.withdrawn) l.peers p x
    rw [LeadLink.credit] at credit ⊢
    rw [hm]
    omega
  · intro q
    rw [hm, vec_set_get]
    split
    · exact hx (lent p)
    · exact lent q

/-- One peer replaced: the laws of reserves stand when they stand of that peer. -/
theorem covered_set {counts : Fin 16 → Nat} {l m : LeadLink} {p : Fin 16} {x : Peer} (hm : m.peers = l.peers.set p x)
    (hw : Covered counts l → counts p ≤ x.limit)
    (hf : Covered counts l → x.reserve % 4 = 0 ∧ x.reserve ≤ 32 ∧ x.target = l.peers[p].target)
    (hr : Covered counts l → x.reserve + l.reserves ≤ Config.reserveLimit + l.peers[p].reserve) :
    Covered counts l → Covered counts m := by
  intro law
  obtain ⟨four, most, target⟩ := hf law
  refine ⟨fun q => ?_, fun q => ?_, ?_⟩
  · rw [hm, vec_set_get]
    split
    · rename_i hq
      exact hq ▸ hw law
    · exact law.within q
  · rw [hm, vec_set_get]
    split
    · obtain ⟨-, -, targets⟩ := law.fours p
      exact ⟨four, most, target ▸ targets⟩
    · exact law.fours q
  · have := sum_set (·.reserve) l.peers p x
    have := hr law
    simp only [LeadLink.reserves] at this ⊢
    rw [hm]
    omega

/-- The laws of credit and reserves hold on from a link state to a later one, for the counts of the queue. -/
structure CreditKept (counts : Fin 16 → Nat) (l m : LeadLink) : Prop where
  balanced : Balanced l → Balanced m
  covered : Covered counts l → Covered counts m

theorem CreditKept.trans {counts : Fin 16 → Nat} {l m k : LeadLink} (h : CreditKept counts l m) (g : CreditKept counts m k) :
    CreditKept counts l k := ⟨g.balanced ∘ h.balanced, g.covered ∘ h.covered⟩

theorem CreditKept.foldl {β : Type} {counts : Fin 16 → Nat} {f : LeadLink → β → LeadLink}
    (h : ∀ l b, CreditKept counts l (f l b)) (xs : List β) (l : LeadLink) : CreditKept counts l (xs.foldl f l) := by
  induction xs generalizing l with
  | nil => exact ⟨id, id⟩
  | cons x xs ih => exact (h l x).trans (ih _)

theorem returnPeer_kept (counts : Vector Nat 16) (n : Round) (l : LeadLink) (p : Fin 16) :
    CreditKept (fun q => counts[q]) l (returnPeer counts n l p) := by
  have sum := returnBlocks_sum n counts[p] (l.peers[p].reserve + l.peers[p].lent) [] l.peers[p].blocks
  have covers := returnBlocks_covers n counts[p] (l.peers[p].reserve + l.peers[p].lent) [] l.peers[p].blocks
  simp only [List.map_nil, List.sum_nil, Nat.zero_add, Nat.add_zero] at sum covers
  unfold returnPeer
  dsimp only
  refine ⟨balanced_set (p := p) rfl ?_ (by exact id), covered_set (p := p) rfl ?_ ?_ ?_⟩
  · simp only [Peer.withdrawn] at sum ⊢
    omega
  · exact fun law => covers (law.within p)
  · intro law
    obtain ⟨four, most, -⟩ := law.fours p
    exact ⟨four, most, rfl⟩
  · intro law
    have := law.total
    dsimp only
    omega

theorem ceilFour_spec (x : Nat) : ceilFour x % 4 = 0 ∧ x ≤ ceilFour x ∧ ∀ k, k % 4 = 0 → x ≤ k → ceilFour x ≤ k := by
  unfold ceilFour
  refine ⟨by omega, by omega, fun k _ _ => by omega⟩

/-- A reserve lowered still covers the queue and stays a multiple of 4 (R102). -/
theorem lowerReserve_spec (p : Peer) (queued : Nat) (h : queued ≤ p.limit)
    (hf : p.reserve % 4 = 0 ∧ p.reserve ≤ 32 ∧ p.target % 4 = 0 ∧ p.target ≤ 32) :
    queued ≤ (p.lowerReserve queued).limit ∧ (p.lowerReserve queued).reserve % 4 = 0 ∧
      (p.lowerReserve queued).reserve ≤ p.reserve := by
  obtain ⟨four, most, tfour, tmost⟩ := hf
  unfold Peer.lowerReserve
  split
  · rename_i above
    obtain ⟨cfour, cleast, cbelow⟩ := ceilFour_spec (queued - p.lent - p.withdrawn)
    have := cbelow p.reserve four (by simp only [Peer.limit] at h; omega)
    simp only [Peer.limit, Peer.withdrawn] at *
    refine ⟨by omega, ?_, by omega⟩
    rcases Nat.le_total p.target (ceilFour (queued - p.lent - (p.blocks.map (·.amount)).sum)) with le | le
    · rw [Nat.max_eq_right le]; exact cfour
    · rw [Nat.max_eq_left le]; exact tfour
  · exact ⟨h, four, Nat.le_refl _⟩

theorem lowerReserve_same (p : Peer) (queued : Nat) : (p.lowerReserve queued).lent = p.lent ∧
    (p.lowerReserve queued).blocks = p.blocks ∧ (p.lowerReserve queued).target = p.target := by
  unfold Peer.lowerReserve
  split <;> exact ⟨rfl, rfl, rfl⟩

theorem lowerReserves_kept (counts : Vector Nat 16) (l : LeadLink) :
    CreditKept (fun q => counts[q]) l { l with peers := mapVec (fun i p => p.lowerReserve counts[i]) l.peers } := by
  refine ⟨balanced_of_peers rfl (fun p => ?_), fun law => ⟨fun p => ?_, fun p => ?_, ?_⟩⟩
  · rw [mapVec_get]
    exact ⟨(lowerReserve_same _ _).1, (lowerReserve_same _ _).2.1⟩
  · rw [mapVec_get]
    exact (lowerReserve_spec _ _ (law.within p) (law.fours p)).1
  · rw [mapVec_get, (lowerReserve_same _ _).2.2]
    obtain ⟨-, four, less⟩ := lowerReserve_spec _ _ (law.within p) (law.fours p)
    obtain ⟨-, most, targets⟩ := law.fours p
    exact ⟨four, Nat.le_trans less most, targets⟩
  · refine Nat.le_trans (sum_le_sum (fun p => ?_)) law.total
    rw [mapVec_get]
    exact (lowerReserve_spec _ _ (law.within p) (law.fours p)).2.2

theorem reserve_le_reserves (l : LeadLink) (p : Fin 16) : l.peers[p].reserve ≤ l.reserves :=
  List.le_sum_of_mem (List.mem_map.2 ⟨l.peers[p], by simp, rfl⟩)

theorem raiseReserve_kept (counts : Fin 16 → Nat) (l : LeadLink) (p : Fin 16) :
    CreditKept counts l (raiseReserve l p) := by
  unfold raiseReserve
  dsimp only
  split
  · rename_i below
    have part := reserve_le_reserves l p
    have fours : Covered counts l → l.reserves % 4 = 0 := fun law => sum_four _ _ (fun q => (law.fours q).1)
    refine ⟨balanced_set (p := p) rfl rfl (by exact id), covered_set (p := p) rfl ?_ ?_ ?_⟩
    · intro law
      have total := law.total
      have within := law.within p
      simp only [Config.reserveLimit, Peer.limit, Peer.withdrawn] at total within ⊢
      omega
    · intro law
      have total := law.total
      have four := fours law
      obtain ⟨rfour, most, tfour, tmost⟩ := law.fours p
      simp only [Config.reserveLimit] at total ⊢
      exact ⟨by omega, by omega, trivial⟩
    · intro law
      have total := law.total
      simp only [Config.reserveLimit] at total ⊢
      omega
  · exact ⟨id, id⟩

theorem moveReserves_kept (counts : Vector Nat 16) (l : LeadLink) :
    CreditKept (fun q => counts[q]) l (moveReserves counts l) :=
  (lowerReserves_kept counts l).trans (.foldl (raiseReserve_kept _) _ _)

theorem withdraw_spec (p : Peer) (n : Round) : (p.withdraw n).lent + (p.withdraw n).withdrawn = p.lent + p.withdrawn ∧
    (p.withdraw n).reserve = p.reserve ∧ (p.withdraw n).target = p.target ∧
    ((p.lent % 4 = 0 ∧ p.lent ≤ 64) → (p.withdraw n).lent % 4 = 0 ∧ (p.withdraw n).lent ≤ 64) := by
  unfold Peer.withdraw
  split
  · exact ⟨rfl, rfl, rfl, id⟩
  · refine ⟨?_, rfl, rfl, fun _ => ⟨rfl, Nat.zero_le _⟩⟩
    simp only [Peer.withdrawn, List.map_append, List.map_cons, List.map_nil, List.sum_append, List.sum_cons, List.sum_nil]
    omega

theorem lendPeer_kept (counts : Fin 16 → Nat) (n : Round) (l : LeadLink) (p : Fin 16) :
    CreditKept counts l (lendPeer n l p) := by
  unfold lendPeer
  dsimp only
  split
  · split
    · rename_i room
      refine ⟨balanced_set (p := p) rfl ?_ ?_, covered_set (p := p) rfl ?_ ?_ ?_⟩
      · simp only [Peer.withdrawn]
        omega
      · dsimp only
        omega
      · intro law
        have within := law.within p
        simp only [Peer.limit, Peer.withdrawn] at within ⊢
        omega
      · exact fun law => ⟨(law.fours p).1, (law.fours p).2.1, rfl⟩
      · intro law
        have total := law.total
        dsimp only
        omega
    · exact ⟨id, id⟩
  · obtain ⟨sum, reserve, target, lent⟩ := withdraw_spec l.peers[p] n
    refine ⟨balanced_set (p := p) rfl ?_ lent, covered_set (p := p) rfl ?_ ?_ ?_⟩
    · dsimp only
      omega
    · intro law
      have within := law.within p
      simp only [Peer.limit] at within ⊢
      omega
    · exact fun law => ⟨reserve ▸ (law.fours p).1, reserve ▸ (law.fours p).2.1, target⟩
    · intro law
      have total := law.total
      omega

theorem creditSteps_kept (own : Fin 16) (counts : Vector Nat 16) (n : Round) (l : LeadLink) :
    CreditKept (fun q => counts[q]) l (creditSteps own counts n l) := by
  have cleared : ∀ m, CreditKept (fun q => counts[q]) m (clearReports m) := fun m =>
    ⟨balanced_of_peers rfl (fun p => by simp only [clearReports, mapVec_get, and_self]),
      covered_of_peers (fun p => by simp only [clearReports, mapVec_get, and_self])
        (fun p => by simp only [clearReports, mapVec_get]; exact id)⟩
  exact (((CreditKept.foldl (returnPeer_kept counts n) _ l).trans (moveReserves_kept counts _)).trans
    (.foldl (lendPeer_kept _ n) _ _)).trans (cleared _)

/-! ### The peers -/

theorem owePeers_lawful (b : Vector Peer 16) (d : Device) : Lawful d (owePeers b d) := by
  unfold owePeers
  split
  · refine .foldl (fun d p => ?_) _ d
    unfold owePeerIfChanged
    split
    · exact .refl d
    · exact owe_lawful _ d
  · exact .refl d

theorem codeCredits_four (c : Nat) : codeCredits c % 4 = 0 ∧ codeCredits c ≤ 32 := by
  unfold codeCredits
  split <;> decide

theorem trimTargets_four (left : Nat) (ws : List Nat) (hl : left % 4 = 0) (hw : ∀ w ∈ ws, w % 4 = 0 ∧ w ≤ 32) :
    ∀ t ∈ trimTargets left ws, t % 4 = 0 ∧ t ≤ 32 := by
  induction ws generalizing left with
  | nil => intro t mem; cases mem
  | cons w ws ih =>
    obtain ⟨four, most⟩ := hw w (by simp)
    intro t mem
    rcases List.mem_cons.1 mem with rfl | mem
    · omega
    · exact ih _ (by omega) (fun x hx => hw x (List.mem_cons_of_mem _ hx)) t mem

theorem targetsOf_four (own : Fin 16) (table : Vector RawPeer 16) (p : Nat) :
    (targetsOf own table).getD p 0 % 4 = 0 ∧ (targetsOf own table).getD p 0 ≤ 32 := by
  have all : ∀ t ∈ targetsOf own table, t % 4 = 0 ∧ t ≤ 32 := by
    refine trimTargets_four _ _ (by decide) (fun w mem => ?_)
    obtain ⟨q, -, rfl⟩ := List.mem_map.1 mem
    split
    · exact codeCredits_four _
    · decide
  rw [List.getD_eq_getElem?_getD]
  cases h : (targetsOf own table)[p]? with
  | none => decide
  | some t => exact all t (List.mem_of_getElem? h)

theorem Peer.apply_credit (p : Peer) (configured : Bool) (target : Nat) :
    (p.apply configured target).lent = p.lent ∧ (p.apply configured target).blocks = p.blocks ∧
      (p.apply configured target).reserve = p.reserve ∧ (p.apply configured target).target = target := by
  unfold Peer.apply
  (repeat' split) <;> exact ⟨rfl, rfl, rfl, rfl⟩

theorem applyPeers_lawful (table : Vector RawPeer 16) (d : Device) : Lawful d (applyPeers table d) := by
  have credit := fun p : Fin 16 => Peer.apply_credit d.lead.peers[p] (configures d.ownNode table p)
    ((targetsOf d.ownNode table).getD p.val 0)
  refine (lead_lawful _ d (balanced_of_peers (by rfl) ?_) (covered_of_peers ?_ ?_)).trans (owePeers_lawful _ _)
  all_goals
    intro p
    rw [mapVec_get]
    obtain ⟨lent, blocks, reserve, target⟩ := credit p
  · exact ⟨lent, blocks⟩
  · exact ⟨lent, blocks, reserve⟩
  · rw [target]
    exact fun _ => targetsOf_four _ _ _

theorem countSilence_lawful (d : Device) : Lawful d (countSilence d) := by
  refine (lead_lawful_of_same _ d (by rfl) (fun p => ?_)).trans (.foldl (fun d p => ?_) _ _)
  · rw [mapVec_get]
    unfold Peer.tickSilence
    dsimp only
    split <;> exact ⟨rfl, rfl, rfl, rfl⟩
  · unfold reportSilent
    split
    · exact journalRequest_lawful _ _ d
    · exact .refl d

theorem queueCounts_get (d : Device) (p : Fin 16) : (queueCounts d)[p] = inQueue d p := by
  rw [queueCounts, mapVec_get]

theorem transmit_lawful (fs : List TxFrame) (d : Device) :
    Lawful d { d with lead := { d.lead with transmit := fs } } :=
  lead_lawful_of_same _ d rfl (fun _ => ⟨rfl, rfl, rfl, rfl⟩)

theorem linkRoundStart_lawful (d : Device) : Lawful d (linkRoundStart d) := by
  have stepped := creditSteps_kept d.ownNode (queueCounts d) d.rounds.number d.lead
  have counts : (fun q : Fin 16 => (queueCounts d)[q]) = inQueue d := funext (queueCounts_get d)
  rw [counts] at stepped
  exact (((lead_lawful _ d stepped.balanced stepped.covered).trans (countSilence_lawful _)).trans
    (owePeers_lawful _ _)).trans (transmit_lawful _ _)

theorem issueWatches_lawful (d : Device) : Lawful d (issueWatches d) := by
  refine (taps_lawful _ d (by rfl)).trans (.foldl (fun d p => ?_) _ _)
  unfold placeWatchList
  dsimp only
  split
  · exact transmit_lawful _ d
  · exact .refl d

theorem countArrival_lawful (p : Fin 16) (d : Device) : Lawful d (countArrival p d) :=
  setPeer_lawful p _ d (by exact ⟨rfl, rfl, rfl, rfl⟩)

/-- A peer's sighting joining the queue below its limit (R109, R110). -/
theorem pushRemote_lawful (p : Fin 16) (x : Sighting) (d : Device) (hx : x.source = some p)
    (room : inQueue d p < d.lead.peers[p].limit) : Lawful d (pushQueue [x] d) where
  admission := fun ⟨peer, reserve, held⟩ => by
    refine ⟨fun q => ?_, reserve, held⟩
    have within : inQueue d q ≤ d.lead.peers[q].limit := peer q
    rw [inQueue, pushQueue_count]
    show inQueue d q + _ ≤ d.lead.peers[q].limit
    by_cases hq : q = p
    · subst hq
      simp only [List.countP_singleton, hx, beq_self_eq_true, if_true]
      omega
    · have other : (x.source == some q) = false := by
        rw [hx]
        simpa using Ne.symm hq
      simp only [List.countP_singleton, other, Bool.false_eq_true, if_false]
      omega
  share law := by
    rw [localLaw, localCount, pushQueue_count]
    simp only [List.countP_singleton, hx]
    exact law

theorem takeSighting_lawful (p : Fin 16) (b : SightingBody) (d : Device) : Lawful d (takeSighting p b d) := by
  unfold takeSighting
  dsimp only
  have heard := (countArrival_lawful p d).trans (setPeer_lawful p
    { (countArrival p d).lead.peers[p].heard with report := some b.backlog } _ (by exact ⟨rfl, rfl, rfl, rfl⟩))
  refine Lawful.trans ?_ (owePeers_lawful _ _)
  split
  · exact (heard.trans (setPeer_lawful p _ _ (by exact ⟨rfl, rfl, rfl, rfl⟩))).trans (journalRequest_lawful _ _ _)
  · rename_i room
    exact heard.trans (pushRemote_lawful p _ _ rfl (Nat.lt_of_not_le room))

theorem takeHello_lawful (p : Fin 16) (b : HelloBody) (d : Device) : Lawful d (takeHello p b d) :=
  (setPeer_lawful p _ d (by exact ⟨rfl, rfl, rfl, rfl⟩)).trans (owePeers_lawful _ _)

theorem handOver_lawful (d : Device) : Lawful d (handOver d) := by
  unfold handOver leadHandOver followerHandOver
  split
  · split
    · exact .refl d
    · rename_i f rest _
      exact (transmit_lawful rest d).trans { }
  · split
    · split
      · exact { }
      · split
        · exact .refl d
        · rename_i x rest hhold
          split
          · exact { hold := hold_of_le (by rw [hhold]; exact Nat.le_succ _) }
          · exact .refl d
    · exact .refl d

end Sys2Proof.Machine.StepLaws

namespace Sys2Proof.Machine.StepLaws

/-! ### Settings -/

theorem readSettings_lawful (seq : Half) (d : Device) : Lawful d (readSettings seq d) := issue_lawful _ _ _ _ _ d rfl

theorem takeSequence_lawful (area : List Byte) (d : Device) : Lawful d (takeSequence area d) := by
  unfold takeSequence
  dsimp only
  split
  · exact { }
  · split
    · exact { }
    · exact Lawful.trans { } (readSettings_lawful _ _)

theorem applyTaps_lawful (taps : Vector RawTap 32) (d : Device) : Lawful d (applyTaps taps d) :=
  taps_lawful _ d (by rfl)

theorem applyStaged_lawful (d : Device) : Lawful d (applyStaged d) := by
  unfold applyStaged
  split
  · exact .refl d
  · split
    · rename_i seq s _ _
      have taken : Lawful d { d with rounds := { d.rounds with
        inForce := some s.derived, applied := some (seq, d.rounds.number), staged := none } } := { }
      exact ((taken.trans (applyTaps_lawful s.taps _)).trans (applyPeers_lawful s.peers _)).trans (owe_lawful _ _)
    · exact .refl d

/-! ### Round starts -/

theorem freeTones_kept (d : Device) : Kept d (freeTones d) where

theorem forgetEntries_lawful (d : Device) : Lawful d { d with journal := { d.journal with memory := [] } } where

theorem commonRoundStart_kept (d : Device) : Kept d (commonRoundStart d) :=
  ((forgetEntries_lawful d).trans (settleWindows_lawful _)).toKept.trans (freeTones_kept _)

/-- The laws of launched probes after a reaction of other parts that begins no verdict write of a probe, whatever the round
number does. -/
theorem Sound.of_adds {due : Fin 16 → Round} {stops : Fin 8 → Prop} {d e : Device} (law : Sound due stops d)
    (h : Adds writesVerdict d e) (hp : e.probes = d.probes) (hl : e.launch = d.launch) (ht : e.tones = d.tones) :
    Sound due stops e :=
  law.congr (recordAt_of_probes hp) (fun c => by rw [contextAt_of_launch hl]; exact ⟨rfl, rfl, rfl, rfl⟩) (by rw [hl])
    (toneAt_of_tones ht) (verdictRecords_of_adds h ▸ List.Sublist.refl _)

theorem settleWindows_writes (d : Device) : Adds writesVerdict d (settleWindows d) := by
  unfold settleWindows resumeBound
  exact (Adds.foldl _ (fun d w => updateWindow_adds w _ d (fun _ _ => rfl)) _ d).trans
    (Adds.foldl _ (fun d n => moveSlot_adds n .running d (fun _ _ => rfl)) _ _)

/-- A round start of a device whose launched probes' tones are quarantined since this round or the one before. -/
theorem commonRoundStart_sound {due : Fin 16 → Round} {stops : Fin 8 → Prop} {d : Device} (law : Sound due stops d)
    (recent : ∀ r p, Launched d r p → (d.rounds.number - due r).toNat < 2) : Sound due stops (commonRoundStart d) := by
  have quiet : Adds writesVerdict d (settleWindows { d with journal := { d.journal with memory := [] } }) :=
    (settleWindows_writes _).start rfl rfl
  have probes : (settleWindows { d with journal := { d.journal with memory := [] } }).probes = d.probes := by simp
  refine freeTones_sound (law.of_adds quiet probes (by simp) (by simp)) (fun r p hp => ?_)
  rw [(by simp : (settleWindows { d with journal := { d.journal with memory := [] } }).rounds = d.rounds)]
  exact recent r p ⟨recordAt_of_probes probes r ▸ hp.1, hp.2⟩

theorem scheduleRound_lawful (d : Device) : Lawful d (scheduleRound d) where
  probes := probes_of_dma rfl rfl rfl rfl rfl rfl

/-- The device as a lead ROUND_START leaves it for the probe table: the number raised, staged settings applied, the round
scheduled, and the reactions common to every round start taken (R42). -/
def roundBegun (d : Device) : Device :=
  commonRoundStart (scheduleRound (dropPlan (applyStaged
    { d with rounds := { d.rounds with number := d.rounds.number + 1#32 } })))

theorem leadRoundStart_eq (d : Device) : leadRoundStart d = linkRoundStart (moveProbes (roundBegun d)) := rfl

theorem roundBegun_kept (d : Device) : Kept d (roundBegun d) :=
  Kept.trans (e := { d with rounds := { d.rounds with number := d.rounds.number + 1#32 } }) { }
    ((((applyStaged_lawful _).trans (dropPlan_lawful _)).trans (scheduleRound_lawful _)).toKept.trans
      (commonRoundStart_kept _))

theorem applyStaged_number (d : Device) : (applyStaged d).rounds.number = d.rounds.number := by
  unfold applyStaged
  split
  · rfl
  · split <;> simp

theorem roundBegun_sound {d : Device} (law : Sound (fun _ => d.rounds.number) (fun _ => False) d) :
    Sound (fun _ => d.rounds.number) (fun _ => False) (roundBegun d) ∧
      (roundBegun d).rounds.number = d.rounds.number + 1#32 ∧ (roundBegun d).iface = d.iface ∧
      (roundBegun d).probes = d.probes := by
  have staged : Adds writesVerdict d (applyStaged { d with rounds := { d.rounds with number := d.rounds.number + 1#32 } }) :=
    (applyStaged_adds _ (fun _ _ _ => rfl) (fun _ _ => rfl)).start rfl rfl
  have rest : ∀ e, Adds writesVerdict e (scheduleRound (dropPlan e)) := fun e => .of_eq (by simp) (by simp)
  have quiet : Adds writesVerdict d (scheduleRound (dropPlan (applyStaged
      { d with rounds := { d.rounds with number := d.rounds.number + 1#32 } }))) := staged.trans (rest _)
  have number : (scheduleRound (dropPlan (applyStaged
      { d with rounds := { d.rounds with number := d.rounds.number + 1#32 } }))).rounds.number = d.rounds.number + 1#32 := by
    simp [scheduleRound, applyStaged_number]
  refine ⟨commonRoundStart_sound (law.of_adds quiet (by simp) (by simp) (by simp)) (fun r p _ => ?_), ?_, ?_, ?_⟩
  · rw [number]
    bv_omega
  · rw [roundBegun, (by simp : ∀ e, (commonRoundStart e).rounds = e.rounds)]
    exact number
  · simp [roundBegun]
  · simp [roundBegun]

theorem leadRoundStart_lawful (d : Device) : Lawful d (leadRoundStart d) := by
  rw [leadRoundStart_eq]
  refine Lawful.trans (e := moveProbes (roundBegun d)) ⟨(roundBegun_kept d).trans (moveProbes_kept _), fun _ laws => ?_⟩
    (linkRoundStart_lawful _)
  obtain ⟨sound, number, iface, probes⟩ := roundBegun_sound laws.sound
  obtain ⟨moved, launched⟩ := moveProbes_sound sound
  refine ⟨?_, fun r x hx => ?_⟩
  · rw [(by simp : (moveProbes (roundBegun d)).rounds = (roundBegun d).rounds)]
    exact moved
  · obtain ⟨p, hp⟩ := launched r x hx
    have leads := laws.leading r p ⟨recordAt_of_probes probes r ▸ hp.1, hp.2⟩
    simpa only [Device.leading, Device.running, (by simp : (moveProbes (roundBegun d)).iface = (roundBegun d).iface), iface]
      using leads

theorem firstRound_lawful (d : Device) : Lawful d (firstRound d) := by
  unfold firstRound
  split
  · exact leadRoundStart_lawful d
  · exact .refl d

theorem activateLead_lawful (d : Device) : Lawful d (activateLead d) := by
  unfold activateLead
  split
  · exact leadRoundStart_lawful d
  · exact Lawful.trans { } (firstRound_lawful _)

theorem settingsTaken_lawful (seq : Half) (b : List Byte) (d : Device) : Lawful d (settingsTaken seq b d) := by
  have staged : Lawful d { d with rounds := { d.rounds with staged := some (seq, settingsOf b) } } := { }
  unfold settingsTaken
  dsimp only
  refine Lawful.trans ?_ (firstRound_lawful _)
  split
  · exact (staged.trans { }).trans (readSettings_lawful _ _)
  · exact staged

/-! ### Marks -/

theorem journalMark_lawful (source : Fin 16) (reason : Nat) (d : Device) : Lawful d (journalMark source reason d) := by
  unfold journalMark
  exact journalRequest_lawful _ _ d

theorem ignoreForeign_lawful (source : Fin 16) (d : Device) : Lawful d (ignoreForeign source d) :=
  (Lawful.trans { } (owe_lawful .markCounters _)).trans (journalMark_lawful source reasonForeign _)

theorem ignoreTooClose_lawful (source : Fin 16) (d : Device) : Lawful d (ignoreTooClose source d) :=
  (Lawful.trans { } (owe_lawful .markCounters _)).trans (journalMark_lawful source reasonTooClose _)

theorem endFollowerRound_lawful (d : Device) : Lawful d (endFollowerRound d) := by
  unfold endFollowerRound
  refine Lawful.trans ?_ (dropPlan_lawful _)
  split
  · exact abandonLooks_lawful d
  · exact .refl d

/-- Launched probes exist in a RUNNING lead only. -/
theorem ProbeLaws.unlaunched {d : Device} (laws : ProbeLaws d) (h : d.iface.mode ≠ some .lead) (r : Fin 16) (p : Probe) :
    ¬Launched d r p := by
  intro hp
  have leads := laws.leading r p hp
  rw [Device.leading, Bool.and_eq_true, beq_iff_eq] at leads
  exact h leads.2

theorem markHello_hold (f : FollowerLink) (b : Bool) : (f.markHello b).hold = f.hold := by
  unfold FollowerLink.markHello
  split
  · rfl
  · split <;> rfl

/-- A round start at a follower, which has no launched probes to read the round number. -/
theorem followerRoundStart_lawful (d : Device) (h : d.iface.mode ≠ some .lead) : Lawful d (commonRoundStart d) :=
  ⟨commonRoundStart_kept d, fun _ laws => by
    have sound := commonRoundStart_sound laws.sound (fun r p hp => absurd hp (laws.unlaunched h r p))
    refine probes_of_unlaunched sound (fun r p hp => laws.unlaunched h r p ⟨?_, hp.2⟩)
    exact (recordAt_of_probes (by simp) r).symm.trans hp.1⟩

theorem acceptMark_lawful (m : MarkBody) (d : Device) (h : d.iface.mode ≠ some .lead) : Lawful d (acceptMark m d) := by
  have taken : ∀ e : Device, e.iface.mode ≠ some .lead → Lawful e { e with
      rounds := { e.rounds with
        number := m.round, leadState := .following, lastMark := some ⟨d.now, m.period, m.guardTime⟩
        phase := .scheduled (d.now + m.guardTime) (d.now + m.period) }
      follower := { e.follower.markHello (d.rounds.leadState == .leadLost) with
        leadLostAt := some (d.now + 4 * m.period), grant := some m.grants[d.ownNode] } } := fun e h =>
    { hold := hold_of_le (by dsimp only; rw [markHello_hold])
      probes := fun _ laws => probes_of_unlaunched (due := fun _ => e.rounds.number)
        (Sound.congr (d := e) (fun _ => rfl) (fun _ => ⟨rfl, rfl, rfl, rfl⟩) rfl (fun _ => rfl) (List.Sublist.refl _) laws.sound)
        (laws.unlaunched h) }
  refine (endFollowerRound_lawful d).trans ((taken _ ?_).trans ((applyStaged_lawful _).trans
    (followerRoundStart_lawful _ ?_)))
  · simpa [endFollowerRound, apply_ite] using h
  · rw [(by simp : ∀ e, (applyStaged e).iface = e.iface)]
    simpa [endFollowerRound, apply_ite] using h

theorem takeMark_lawful (source : Fin 16) (m : MarkBody) (d : Device) : Lawful d (takeMark source m d) := by
  unfold takeMark
  split
  · exact ignoreForeign_lawful source d
  · rename_i follow
    split
    · exact ignoreForeign_lawful source d
    · split
      · exact ignoreTooClose_lawful source d
      · exact acceptMark_lawful m d follow

theorem loseLead_lawful (d : Device) : Lawful d (loseLead d) := by
  have lost : ∀ e : Device, Lawful e { e with
      rounds := { e.rounds with leadState := .leadLost, phase := .closed }
      follower := { e.follower with hold := [], grant := none, hello := none, leadLostAt := none } } := fun e =>
    { hold := fun _ => Nat.zero_le _ }
  unfold loseLead
  dsimp only
  exact ((((abandonLooks_lawful d).trans (dropPlan_lawful _)).trans (lost _)).trans (raise_lawful .leadLost _)).trans
    (journalRequest_lawful _ _ _)

/-! ### Frames received -/

theorem countMalformed_lawful (kind : Nat) (source : Byte) (fault : FrameFault) (d : Device) :
    Lawful d (countMalformed kind source fault d) := by
  unfold countMalformed
  split
  · split
    · exact .refl d
    · rename_i p _
      have arrived : Lawful d (countMalformedArrival kind fault p d) := by
        unfold countMalformedArrival
        split
        · exact countArrival_lawful p d
        · exact .refl d
      dsimp only
      generalize countMalformedArrival kind fault p d = e at arrived ⊢
      exact (arrived.trans (setPeer_lawful p _ e (by exact ⟨rfl, rfl, rfl, rfl⟩))).trans (owe_lawful _ _)
  · refine Lawful.trans ?_ (owe_lawful _ _)
    exact { }

theorem takeRunning_lawful (kind : Nat) (source : Byte) (toAll : Bool) (body : List Byte) (d : Device) :
    Lawful d (takeRunning kind source toAll body d) := by
  unfold takeRunning
  split
  · exact (countMalformed_lawful kind source _ d).trans (journalRequest_lawful _ _ _)
  · rename_i m _
    cases m with
    | mark source body => exact takeMark_lawful source body d
    | watchList round entries => exact takeWatchList_lawful round entries d
    | sighting source body => exact takeSighting_lawful source body d
    | hello source body => exact takeHello_lawful source body d

theorem takeStopped_lawful (kind : Nat) (source : Byte) (d : Device) : Lawful d (takeStopped kind source d) := by
  unfold takeStopped
  split
  · split
    · exact countArrival_lawful _ d
    · exact .refl d
  · exact .refl d

theorem receive_lawful (frame : List Byte) (d : Device) : Lawful d (receive frame d) := by
  unfold receive
  split
  · unfold takeFrame
    split
    · exact .refl d
    · split
      · exact .refl d
      · split
        · exact takeRunning_lawful _ _ _ _ d
        · split
          · exact takeStopped_lawful _ _ d
          · exact .refl d
        · exact .refl d
  · exact .refl d

end Sys2Proof.Machine.StepLaws

namespace Sys2Proof.Machine.StepLaws

/-! ### Counts and findings -/

theorem countHeader_lawful (h : HeaderCount) (d : Device) : Lawful d (countHeader h d) := by
  have same : (d.classifier.count h).queue = d.classifier.queue := by cases h <;> rfl
  unfold countHeader
  refine Lawful.trans ?_ (owe_lawful _ _)
  exact {
    admission := admission_of_eq (by simp) same rfl
    share := share_of_queue same }

theorem countSlot_lawful (k : SlotCount) (n : Fin 8) (g : Half) (d : Device) : Lawful d (countSlot k n g d) := by
  unfold countSlot
  split
  · exact setSlot_lawful n _ d (fun law => by cases k <;> exact law)
  · exact .refl d

theorem takeStray_lawful (x : Sighting) (d : Device) : Lawful d (takeStray x d) :=
  (countHeader_lawful .stray d).trans (journalRequest_lawful _ _ _)

/-- A probe's record changed in what the laws of launched probes do not read. -/
theorem setRecord_lawful {d : Device} {r : Fin 16} {p q : Probe} (h : d.probes.records[r] = some p)
    (same : q.state = p.state ∧ q.tone = p.tone ∧ q.ctx = p.ctx ∧ q.record = p.record ∧ q.holdsPoint = p.holdsPoint ∧
      q.listenFrom = p.listenFrom) : Lawful d (d.setRecord r (some q)) :=
  ⟨setRecord_kept r _ d, fun _ laws => by
    obtain ⟨state, tone, ctx, record, holds, listens⟩ := same
    exact setRecord_probes h state tone ctx (by rw [record]) holds listens laws⟩

theorem takeCross_lawful {d : Device} {r : Fin 16} {p : Probe} (h : d.probes.records[r] = some p) (other : Nat)
    (x : Sighting) : Lawful d (takeCross r p other x d) := by
  unfold takeCross
  split
  · exact .refl d
  · exact (setRecord_lawful h (by exact ⟨rfl, rfl, rfl, rfl, rfl, rfl⟩)).trans (journalRequest_lawful _ _ _)

theorem takeMisroute_lawful {d : Device} {r : Fin 16} {p : Probe} (h : d.probes.records[r] = some p) (x : Sighting) :
    Lawful d (takeMisroute r p x d) := by
  unfold takeMisroute
  split
  · exact .refl d
  · exact (setRecord_lawful h (by exact ⟨rfl, rfl, rfl, rfl, rfl, rfl⟩)).trans (journalRequest_lawful _ _ _)

/-- A probe whose look is offered: it has listened and is launched (R143, R144). -/
structure Heard (d : Device) (r : Fin 16) (p : Probe) : Prop where
  record : d.probes.records[r] = some p
  launched : p.launched
  listens : p.listenFrom.isSome

theorem offerLook_lawful {d : Device} {r : Fin 16} {p : Probe} (heard : Heard d r p) (h : Nat) (hop : Hop) (x : Sighting) :
    Lawful d (offerLook r p h hop x d) := by
  unfold offerLook
  split
  · exact .refl d
  · rename_i a _
    split
    · exact .refl d
    · dsimp only
      have same : ∀ q, q = (if makesLeak p hop x then { p.look h hop a x with leak := some h } else p.look h hop a x) →
          q.state = p.state ∧ q.tone = p.tone ∧ q.ctx = p.ctx ∧ q.record = p.record ∧ q.holdsPoint = p.holdsPoint ∧
            q.listenFrom = p.listenFrom := by
        rintro q rfl
        split <;> exact ⟨rfl, rfl, rfl, rfl, rfl, rfl⟩
      generalize (if makesLeak p hop x then { p.look h hop a x with leak := some h } else p.look h hop a x) = q at same ⊢
      have same := same q rfl
      have noted : Lawful d (if makesLeak p hop x then
          journalRequest { findingEntry .leak p x with second := h } none (d.setRecord r (some q)) else d.setRecord r (some q)) ∧
          (if makesLeak p hop x then
            journalRequest { findingEntry .leak p x with second := h } none (d.setRecord r (some q))
            else d.setRecord r (some q)).probes.records[r] = some q := by
        have written := setRecord_lawful heard.record same
        split
        · refine ⟨written.trans (journalRequest_lawful _ _ _), (recordAt_of_probes (d := d.setRecord r (some q)) (by simp) r).trans ?_⟩
          rw [recordAt_setRecord, if_pos rfl]
        · exact ⟨written, by rw [Device.setRecord_records_get, if_pos rfl]⟩
      split
      · refine noted.1.trans (completeEarly_lawful noted.2 ?_ ?_)
        · rw [Probe.launched, same.1]
          exact heard.launched
        · rw [same.2.2.2.2.2]
          exact heard.listens
      · exact noted.1

theorem takeUnclassified_lawful (p : Probe) (x : Sighting) (d : Device) : Lawful d (takeUnclassified p x d) := by
  unfold takeUnclassified
  split
  · exact countSlot_lawful _ _ _ d
  · exact .refl d

theorem applyAnswer_lawful {d : Device} {r : Fin 16} {p : Probe} (heard : Heard d r p) (x : Sighting) (ans : Answer) :
    Lawful d (applyAnswer r p x ans d) := by
  unfold applyAnswer
  split
  · split
    · split
      · split
        · exact offerLook_lawful heard _ _ x
        · exact takeUnclassified_lawful p x d
      · exact takeUnclassified_lawful p x d
    · split
      · exact takeCross_lawful heard.record _ x
      · exact .refl d
  · split
    · exact takeMisroute_lawful heard.record x
    · exact .refl d

theorem applyBypass_lawful {d : Device} {r : Fin 16} {p : Probe} (heard : Heard d r p) (x : Sighting) :
    Lawful d (applyBypass r p x d) := by
  unfold applyBypass
  split
  · exact offerLook_lawful heard _ _ x
  · exact takeUnclassified_lawful p x d

theorem applyChecked_lawful (x : Sighting) (o : Checked) (d : Device) : Lawful d (applyChecked x o d) := by
  cases o with
  | stale => exact countHeader_lawful .stale d
  | lateTone => exact countHeader_lawful .lateTone d
  | stray => exact takeStray_lawful x d
  | silent => exact .refl d
  | late p => exact countSlot_lawful .late _ _ d
  | outOfReach p => exact countSlot_lawful .outOfReach _ _ d
  | pass r p => exact .refl d

/-- A tone resolves to the probe of a record as it stands (R142). -/
theorem resolveTone_record {d : Device} {x : Sighting} {r : Fin 16} {p : Probe} (h : resolveTone d x = .probe r p) :
    d.probes.records[r] = some p := by
  unfold resolveTone at h
  split at h
  · split at h
    · rename_i hr
      obtain ⟨rfl, rfl⟩ := Resolution.probe.inj h
      exact hr
    · cases h
  · split at h
    · split at h <;> cases h
    · split at h <;> cases h
    · cases h

/-- Checks 3 to 5 pass for the probe resolved, one that is launched and has listened (R143, R144). -/
theorem checkProbe_pass {d : Device} {x : Sighting} {r k : Fin 16} {p q : Probe} (h : checkProbe d x r p = .pass k q)
    (record : d.probes.records[r] = some p) : k = r ∧ q = p ∧ Heard d r p := by
  unfold checkProbe at h
  split at h
  · cases h
  · rename_i running
    split at h
    · cases h
    · rename_i inside
      split at h
      · obtain ⟨rfl, rfl⟩ := Checked.pass.inj h
        refine ⟨rfl, rfl, record, fun evaluating => running (.inr evaluating), ?_⟩
        unfold outsideWindow at inside
        cases hl : p.listenFrom with
        | none => rw [hl] at inside; exact absurd rfl inside
        | some f => rfl
      · cases h

theorem checkEntry_heard {d : Device} {x : Sighting} {r : Fin 16} {p : Probe} (h : checkEntry d x = .pass r p) :
    Heard d r p := by
  unfold checkEntry at h
  split at h
  · cases h
  · unfold checkTone at h
    split at h
    · rename_i k q resolved
      obtain ⟨rfl, rfl, heard⟩ := checkProbe_pass h (resolveTone_record resolved)
      exact heard
    · cases h
    · cases h
    · cases h

/-! ### The queue -/

/-- A reaction of the queue alone that holds no more of any source's sightings. -/
theorem setQueue_lawful (q : List QueueEntry) (d : Device)
    (h : ∀ f : QueueEntry → Bool, (∀ e e', e.sighting = e'.sighting → f e = f e') → q.countP f ≤ d.classifier.queue.countP f) :
    Lawful d (d.setQueue q) where
  admission law := by
    refine ⟨fun p => ?_, law.reserve, law.held⟩
    exact Nat.le_trans (h _ (fun e e' same => by rw [same])) (law.peer p)
  share law := Nat.le_trans (h _ (fun e e' same => by rw [same])) law

theorem depart_lawful (i : Nat) (d : Device) : Lawful d (depart i d) := by
  unfold depart
  split
  · exact .refl d
  · have left : Lawful d (d.setQueue (d.classifier.queue.eraseIdx i)) :=
      setQueue_lawful _ d (fun f _ => (List.eraseIdx_sublist _ i).countP_le)
    dsimp only
    split
    · exact left.trans (serveHolding_lawful _)
    · exact left

theorem countP_set_same {α : Type} {f : α → Bool} {l : List α} {i : Nat} {x : α}
    (h : ∀ y, l[i]? = some y → f x = f y) : (l.set i x).countP f = l.countP f := by
  by_cases hi : i < l.length
  · have hx := h l[i] (List.getElem?_eq_getElem hi)
    have has := List.countP_pos_iff (p := f) (l := l)
    rw [List.countP_set hi, hx]
    split
    · rename_i hf
      have := has.2 ⟨l[i], List.getElem_mem hi, hf⟩
      omega
    · rfl
  · rw [List.set_eq_of_length_le (Nat.le_of_not_lt hi)]

theorem setEntry_lawful {i : Nat} {e : QueueEntry} {d : Device}
    (h : ∀ x, d.classifier.queue[i]? = some x → e.sighting = x.sighting) : Lawful d (setEntry i e d) :=
  setQueue_lawful _ d (fun _ same => Nat.le_of_eq (countP_set_same (fun y hy => same e y (h y hy))))

/-! ### The classifier and the walks -/

theorem setWalk_lawful (w : Fin 4) (x : Option Walk) (d : Device) : Lawful d (d.setWalk w x) where

theorem startWalk_lawful (w : Fin 4) (area : Fin 8) (key : Location) (d : Device) : Lawful d (startWalk w area key d) :=
  (setWalk_lawful w _ d).trans (issue_lawful _ _ _ _ _ _ rfl)

theorem missEntry_lawful {i : Nat} {e : QueueEntry} {area : Fin 8} {d : Device}
    (h : ∀ x, d.classifier.queue[i]? = some x → e.sighting = x.sighting) : Lawful d (missEntry i e area d) := by
  unfold missEntry
  split
  · exact setEntry_lawful h
  · split
    · exact (setEntry_lawful (by exact h)).trans (startWalk_lawful _ _ _ _)
    · exact { }

theorem presentEntry_lawful (i : Nat) (d : Device) : Lawful d (presentEntry i d) := by
  unfold presentEntry
  split
  · exact .refl d
  · rename_i e he
    split
    · rename_i r p passed
      have heard : Heard (setEntry i { e with memo := some (memoOf r p) } d) r p := by
        obtain ⟨record, launched, listens⟩ := checkEntry_heard passed
        exact ⟨record, launched, listens⟩
      have noted : Lawful d (setEntry i { e with memo := some (memoOf r p) } d) := setEntry_lawful (fun x hx => by
        rw [he] at hx
        rw [← Option.some.inj hx])
      refine noted.trans ?_
      unfold translateEntry
      dsimp only
      split
      · exact (applyBypass_lawful heard _).trans (depart_lawful i _)
      · split
        · exact (applyAnswer_lawful heard _ _).trans (depart_lawful i _)
        · refine missEntry_lawful (fun x hx => ?_)
          have hi := (List.getElem?_eq_some_iff.1 he).1
          have set : (setEntry i { e with memo := some (memoOf r p) } d).classifier.queue[i]? =
              some { e with memo := some (memoOf r p) } := List.getElem?_set_self hi
          rw [set] at hx
          rw [← Option.some.inj hx]
    · exact (applyChecked_lawful _ _ d).trans (depart_lawful i _)

theorem classifyNext_lawful (d : Device) : Lawful d (classifyNext d) := by
  unfold classifyNext
  split
  · split
    · exact presentEntry_lawful _ d
    · exact .refl d
  · exact .refl d

theorem unstall_lawful (d : Device) : Lawful d (unstall d) := by
  unfold unstall
  split
  · exact Lawful.trans { } (classifyNext_lawful _)
  · exact .refl d

theorem applyHandedBack_lawful (x : Sighting) (m : Memo) (ans : Option Answer) (d : Device) :
    Lawful d (applyHandedBack x m ans d) := by
  unfold applyHandedBack
  split
  · exact countHeader_lawful .stale d
  · split
    · exact countSlot_lawful .late _ _ d
    · split
      · rename_i r p resolved
        split
        · exact countHeader_lawful .lateTone d
        · split
          · rename_i a passed
            obtain ⟨-, -, heard⟩ := checkProbe_pass passed (resolveTone_record resolved)
            exact applyAnswer_lawful heard x a
          · exact countSlot_lawful .late _ _ d
          · exact applyChecked_lawful x _ d
      · exact countHeader_lawful .lateTone d
      · exact takeStray_lawful x d
      · exact .refl d

theorem handBack_lawful (w : Fin 4) (ans : Option Answer) (n : Nat) (d : Device) : Lawful d (handBack w ans n d) := by
  induction n generalizing d with
  | zero => exact .refl d
  | succ n ih =>
    unfold handBack
    split
    · exact .refl d
    · split
      · exact ((applyHandedBack_lawful _ _ ans d).trans (depart_lawful _ _)).trans (ih _)
      · exact (depart_lawful _ d).trans (ih _)

theorem releaseWalk_lawful (w : Fin 4) (ans : Option Answer) (d : Device) : Lawful d (releaseWalk w ans d) :=
  ((setWalk_lawful w none d).trans (handBack_lawful w ans _ _)).trans (unstall_lawful _)

/-! ### The LTB -/

/-- A canonical list holds what it answers. -/
theorem mem_iff_get {α : Type} {l : List (Nat × α)} (h : Sparse.rising l = true) (k : Nat) (v : α) :
    (k, v) ∈ l ↔ Sparse.get l k = some v := by
  induction l with
  | nil => simp [Sparse.get]
  | cons e rest ih =>
    obtain ⟨j, w⟩ := e
    obtain ⟨above, rising⟩ := (Sparse.rising_cons j w rest).1 h
    rw [List.mem_cons, Sparse.get, ih rising]
    split
    · rename_i same
      subst same
      have absent : Sparse.get rest k ≠ some v := fun hk => Nat.lt_irrefl k (above (k, v) ((ih rising).2 hk))
      simp [absent, eq_comm]
    · rename_i other
      simp [other]

theorem indexed_iff (a : Area) : Indexed a ↔ Sparse.rising a.entries = true ∧
    (∀ k e, Sparse.get a.entries k = some e → k < 128 ∧ k / 2 = ltbIndex e.tag) ∧
    ∀ j k e f, Sparse.get a.entries j = some e → Sparse.get a.entries k = some f → e.tag = f.tag → j = k := by
  constructor
  · rintro ⟨rising, index, once⟩
    exact ⟨rising, fun k e he => index (k, e) ((mem_iff_get rising k e).2 he), fun j k e f he hf =>
      once (j, e) ((mem_iff_get rising j e).2 he) (k, f) ((mem_iff_get rising k f).2 hf)⟩
  · rintro ⟨rising, index, once⟩
    exact ⟨rising, fun x hx => index x.1 x.2 ((mem_iff_get rising _ _).1 hx), fun x hx y hy =>
      once x.1 y.1 x.2 y.2 ((mem_iff_get rising _ _).1 hx) ((mem_iff_get rising _ _).1 hy)⟩

/-- A fill goes to the way that holds its tag, if one does (R131). -/
theorem fillWay_of_tag {a : Area} {l : Location} (h : Indexed a) {w : Nat} {e : LtbEntry} (hw : w < 2)
    (he : a.way l w = some e) (tag : e.tag = l) : (a.fillWay l).1 = w := by
  have held : hasTag l (a.way l w) = true := by simp [he, hasTag, tag]
  obtain ⟨-, -, once⟩ := (indexed_iff a).1 h
  unfold Area.fillWay
  obtain rfl | rfl : w = 0 ∨ w = 1 := by omega
  · rw [if_pos held]
  · rw [if_neg, if_pos held]
    intro other
    cases hz : a.way l 0 with
    | none => rw [hz] at other; cases other
    | some f =>
      rw [hz] at other
      have := once _ _ f e hz he ((eq_of_beq other).trans tag.symm)
      omega

theorem fillWay_lt (a : Area) (l : Location) : (a.fillWay l).1 < 2 := by
  unfold Area.fillWay
  repeat' split
  all_goals decide

/-- A fill keeps the entries at their index and no tag twice (R128, R131). -/
theorem fill_indexed (a : Area) (l : Location) (ans : Answer) (h : Indexed a) : Indexed (a.fill l ans) := by
  obtain ⟨rising, index, once⟩ := (indexed_iff a).1 h
  have low := fillWay_lt a l
  have idx : ltbIndex l < 64 := Nat.mod_lt _ (by decide)
  have apart : ∀ j e, Sparse.get a.entries j = some e → e.tag = l → j = 2 * ltbIndex l + (a.fillWay l).1 := by
    intro j e he tag
    obtain ⟨-, at_index⟩ := index j e he
    rw [tag] at at_index
    have way : j = 2 * ltbIndex l + j % 2 := by omega
    rw [way] at he ⊢
    rw [fillWay_of_tag h (w := j % 2) (by omega) (by rw [Area.way]; exact he) tag]
  refine (indexed_iff _).2 ⟨Sparse.rising_put _ _ _ rising, fun k e he => ?_, fun j k e f he hf same => ?_⟩
  · rw [Area.fill, Sparse.get_put] at he
    split at he
    · rename_i here
      rw [← Option.some.inj he]
      dsimp only
      omega
    · exact index k e he
  · rw [Area.fill, Sparse.get_put] at he hf
    split at he
    · rename_i here
      obtain rfl := Option.some.inj he
      split at hf
      · rename_i here'
        rw [here, here']
      · rw [here, apart k f hf same.symm]
    · split at hf
      · rename_i here
        obtain rfl := Option.some.inj hf
        rw [here, apart j e he same]
      · exact once j k e f he hf same

/-- An entry made invalid leaves the others at their index (R133). -/
theorem erase_indexed (a : Area) (k : Nat) (toggles : BitVec 64) (sweep : Option Nat) (h : Indexed a) :
    Indexed ⟨Sparse.erase a.entries k, toggles, sweep⟩ := by
  obtain ⟨rising, index, once⟩ := (indexed_iff a).1 h
  have left : ∀ j e, Sparse.get (Sparse.erase a.entries k) j = some e → Sparse.get a.entries j = some e := by
    intro j e he
    by_cases same : j = k
    · rw [same, Sparse.get_erase a.entries k rising] at he
      cases he
    · rwa [Sparse.get_erase_ne a.entries k j same] at he
  exact (indexed_iff _).2 ⟨Sparse.rising_erase _ _ rising, fun j e he => index j e (left j e he),
    fun i j e f he hf => once i j e f (left i e he) (left j f hf)⟩

theorem endWithAnswer_lawful (w : Fin 4) (k : Walk) (ans : Answer) (d : Device) : Lawful d (endWithAnswer w k ans d) := by
  unfold endWithAnswer
  refine Lawful.trans ?_ (releaseWalk_lawful w _ _)
  split
  · exact setArea_lawful k.area _ d (fill_indexed _ _ _)
  · exact .refl d

theorem endWithFault_lawful (w : Fin 4) (k : Walk) (f : PlanFault) (d : Device) : Lawful d (endWithFault w k f d) :=
  ((drainSlot_lawful _ _ d).trans (journalRequest_lawful _ _ _)).trans (releaseWalk_lawful w none _)

theorem walkRead_lawful (w : Fin 4) (r : ReadResult) (d : Device) : Lawful d (walkRead w r d) := by
  have goOn : ∀ x addr len, Lawful d (issueRead (.walkRead w) addr len (d.setWalk w x)) := fun x addr len =>
    (setWalk_lawful w x d).trans (issue_lawful _ _ _ _ _ _ rfl)
  unfold walkRead
  split
  · exact .refl d
  · rename_i k _
    split
    · exact (drainSlot_lawful _ _ d).trans (releaseWalk_lawful w none _)
    · unfold advanceWalk
      split
      · split
        · exact endWithAnswer_lawful w k _ d
        · split
          · exact goOn _ _ _
          · exact endWithFault_lawful w k _ d
      · split
        · exact endWithAnswer_lawful w k _ d
        · split
          · exact goOn _ _ _
          · exact endWithFault_lawful w k _ d
      · split
        · split
          · exact goOn _ _ _
          · exact endWithFault_lawful w k _ d
        · exact endWithAnswer_lawful w k _ d
      · unfold judgeCircuit
        split
        · exact endWithFault_lawful w k _ d
        · split
          · exact endWithAnswer_lawful w k _ d
          · exact endWithFault_lawful w k _ d

theorem sweepArea_lawful (n : Fin 8) (d : Device) : Lawful d (sweepArea n d) := by
  unfold sweepArea
  dsimp only
  split
  · exact .refl d
  · rename_i k _
    split
    · exact setArea_lawful n _ d (erase_indexed _ _ _ _)
    · have swept := setArea_lawful n ⟨Sparse.erase d.areas[n].entries k, 0#64, none⟩ d (erase_indexed _ _ _ _)
      split
      · exact swept.trans (moveSlot_lawful n .free _)
      · exact swept

end Sys2Proof.Machine.StepLaws

namespace Sys2Proof.Machine.StepLaws

/-! ### Halts and entry to FAULTED -/

/-- The link, the detectors and the queue at a halt: all credit is in the pool and no sighting waits (R96, R115, R139). -/
theorem stopBlocks_kept (d : Device) : Kept d (emptyQueue (stopDetectors (stopLink d))) := by
  have lead : (emptyQueue (stopDetectors (stopLink d))).lead = { d.lead with
      pool := Config.creditPool, transmit := [], peers := mapVec (fun _ p => p.atHalt) d.lead.peers } := by
    simp [emptyQueue, stopLink]
  have peer : ∀ p : Fin 16, (emptyQueue (stopDetectors (stopLink d))).lead.peers[p] = d.lead.peers[p].atHalt := fun p => by
    rw [lead, mapVec_get]
  have queue : (emptyQueue (stopDetectors (stopLink d))).classifier.queue = [] := rfl
  have detectors : ∀ i : Fin 4, (emptyQueue (stopDetectors (stopLink d))).taps.detectors[i] = .idle := fun i => by
    simp [emptyQueue, stopDetectors, dropPlan]
  refine { credit := fun _ => ⟨?_, fun p => ?_⟩, admission := fun law => ⟨fun p => ?_, ?_, fun i xs h => ?_⟩, hold := fun _ => ?_,
           share := fun _ => ?_, bus := bus_of_launch (by simp [emptyQueue]), summary := summary_of_slots (by simp [emptyQueue]),
           start := start_of_iface (by simp [emptyQueue]), faulted := faulted_of_eq (by simp [emptyQueue]) (by simp [emptyQueue]),
           area := area_of_areas (by simp [emptyQueue]), requests := requests_of_le (by simp [emptyQueue]) }
  · have zero : (emptyQueue (stopDetectors (stopLink d))).lead.peers.toList.map (fun p => p.lent + p.withdrawn) =
        (Vector.replicate 16 Peer.cold).toList.map (fun p => p.lent + p.withdrawn) :=
      toList_map_congr (fun p => by rw [peer]; simp [Peer.atHalt, Peer.withdrawn, Peer.cold])
    rw [creditLaw, LeadLink.credit, zero, lead]
    rfl
  · rw [peer]
    exact ⟨rfl, Nat.zero_le _⟩
  · simp [inQueue, queue]
  · have reserves : (emptyQueue (stopDetectors (stopLink d))).lead.reserves = d.lead.reserves :=
      congrArg List.sum (toList_map_congr (fun p => by rw [peer]; rfl))
    refine ⟨fun p => ?_, reserves ▸ law.reserve.2⟩
    rw [peer]
    exact law.reserve.1 p
  · rw [detectors] at h
    cases h
  · simp [emptyQueue, stopLink, holdLaw]
  · simp [localLaw, localCount, queue]

theorem haltBlocks_kept (d : Device) : Kept d (haltBlocks d) := by
  have rounds : ∀ e : Device, Kept e (stopRounds e) := fun e => { }
  exact ((voidProbes_lawful _ d).toKept.trans (rounds _)).trans (stopBlocks_kept _)

theorem stopBlocks_adds (d : Device) : Adds writesVerdict d (emptyQueue (stopDetectors (stopLink (stopRounds d)))) := by
  have link : Adds writesVerdict d (stopLink (stopRounds d)) := ((owePeers_due _ _).1 writesVerdict (fun _ _ _ => rfl)).start rfl rfl
  exact link.trans (.of_eq rfl rfl)

/-- A halt voids every probe: none is launched behind it (R80). -/
theorem haltBlocks_sound {due : Fin 16 → Round} {d : Device} (law : Sound due (fun _ => False) d) :
    Sound due (fun _ => False) (haltBlocks d) ∧ ∀ r p, ¬Launched (haltBlocks d) r p := by
  obtain ⟨sound, spared⟩ := voidProbes_sound (fun _ => true) law
  unfold haltBlocks
  generalize voidProbes (fun _ => true) d = e at sound spared
  have same : (emptyQueue (stopDetectors (stopLink (stopRounds e)))).probes = e.probes ∧
      (emptyQueue (stopDetectors (stopLink (stopRounds e)))).launch = e.launch ∧
      (emptyQueue (stopDetectors (stopLink (stopRounds e)))).tones = e.tones := by
    simp [emptyQueue]
  refine ⟨sound.of_adds (stopBlocks_adds e) same.1 same.2.1 same.2.2, fun r p hp => ?_⟩
  rw [Launched, recordAt_of_probes (d := e) same.1] at hp
  exact absurd (spared r p hp).2 (by simp)

/-- The laws of launched probes read of the accesses the verdict record writes alone, and not the device state. -/
theorem Sound.of_reads {due : Fin 16 → Round} {stops : Fin 8 → Prop} {d e : Device} (law : Sound due stops d)
    (hp : e.probes = d.probes) (hl : e.launch = d.launch) (ht : e.tones = d.tones)
    (hv : (verdictRecords e).Sublist (verdictRecords d)) : Sound due stops e :=
  law.congr (recordAt_of_probes hp) (fun c => by rw [contextAt_of_launch hl]; exact ⟨rfl, rfl, rfl, rfl⟩) (by rw [hl])
    (toneAt_of_tones ht) hv

theorem halted_lawful {d e : Device} (kept : Kept d (haltBlocks e)) (sound : ∀ due, Sound due (fun _ => False) d →
    Sound due (fun _ => False) e) : Lawful d (haltBlocks e) where
  toKept := kept
  probes := fun _ laws => by
    obtain ⟨law, none_of⟩ := haltBlocks_sound (sound _ laws.sound)
    exact probes_of_unlaunched law none_of

/-- No access counts any more once all are discarded. -/
theorem discardAll_writes (d : Device) (xs : List (Fin 16)) : (verdictRecords (discardAll d)).Sublist xs := by
  have none_left : verdictRecords (discardAll d) = [] := by simp [verdictRecords, discardAll, discardWhere]
  rw [none_left]
  exact List.nil_sublist xs

theorem discardAll_lawful (d : Device) : Lawful d (discardAll d) := dma_lawful _ d (discardAll_writes d _)

theorem halt_lawful (d : Device) : Lawful d (halt d) := by
  have stopped : Kept d { d with
      iface := { d.iface with state := .stopped, scanTimer := none, scanPending := false }
      regs := { d.regs with run := false }
      journal := { d.journal with readPending := false } } := { start := by simp [startLaw], faulted := by simp [faultedLaw] }
  refine halted_lawful ((stopped.trans (discardWhere_lawful _ _).toKept).trans (haltBlocks_kept _))
    (fun due law => law.of_reads rfl rfl rfl ?_)
  exact ((marked_sublist _ _).append (List.Sublist.refl _)).filterMap _

theorem enterFaulted_lawful (reason : FaultReason) (d : Device) : Lawful d (enterFaulted reason d) := by
  have entered : Kept d { d with
      iface := { d.iface with
        state := .faulted, start := none, reason := reason, scanTimer := none, scanPending := false }
      regs := { d.regs with run := false }
      walks := Vector.replicate 4 none
      journal := { d.journal with requests := [], readPending := false } } :=
    { requests := fun _ => Nat.zero_le _, start := fun _ _ => rfl, faulted := fun _ _ _ => ⟨rfl, rfl, rfl⟩ }
  unfold enterFaulted
  split
  · exact .refl d
  · have raised := (entered.trans (discardAll_lawful _).toKept).trans (raise_lawful .deviceFault _).toKept
    refine halted_lawful (raised.trans (haltBlocks_kept _)) (fun due law => law.of_reads rfl rfl rfl ?_)
    exact discardAll_writes _ _

end Sys2Proof.Machine.StepLaws

namespace Sys2Proof.Machine.StepLaws

/-! ### Scans -/

/-- A change of the device interface that leaves the device state, the mode and the scan timer. -/
theorem iface_lawful (i : BoardInterface) (d : Device) (state : i.state = d.iface.state) (mode : i.mode = d.iface.mode)
    (start : startLaw d → i.state = .running ∨ i.state = .faulted → i.start = none)
    (timer : i.scanTimer = d.iface.scanTimer) (pending : i.state = .faulted → d.iface.scanPending = false → i.scanPending = false) :
    Lawful d { d with iface := i } where
  start := start
  faulted := fun _ law h => by
    obtain ⟨run, none_set, calm⟩ := law (state ▸ h)
    exact ⟨run, timer.trans none_set, pending h calm⟩
  probes := fun _ laws => ⟨laws.sound.of_reads rfl rfl rfl (List.Sublist.refl _), fun r p hp => by
    have leading := laws.leading r p hp
    simpa only [Device.leading, Device.running, state, mode] using leading⟩

theorem scanComplete_lawful (area : List Byte) (d : Device) : Lawful d (scanComplete area d) := by
  unfold scanComplete
  have wanted := (takeSequence_lawful area d).trans (applyWants_lawful area _)
  have judged := wanted.trans (Lawful.foldl (judgeRequest_lawful area) (List.finRange 8) _)
  exact (judged.trans (Lawful.foldl progressShadow_lawful (List.finRange 8) _)).trans (readConsumed_lawful _)

theorem issueScan_lawful (d : Device) : Lawful d (issueScan d) := issue_lawful _ _ _ _ _ d rfl

theorem scanTaken_lawful (area : List Byte) (d : Device) : Lawful d (scanTaken area d) := by
  have cleared : ∀ e : Device, Lawful e { e with iface := { e.iface with scanPending := false } } := fun e =>
    iface_lawful _ e rfl rfl (fun law => law) rfl (fun _ _ => rfl)
  unfold scanTaken
  dsimp only
  split
  · exact ((scanComplete_lawful area d).trans (cleared _)).trans (issueScan_lawful _)
  · exact scanComplete_lawful area d

/-- A scan is requested of a device that is not FAULTED, its scan timer restarted or not. -/
theorem requestScan_lawful {d : Device} (t : Option Nat) (off : faultedLaw d → d.iface.state ≠ .faulted) :
    Lawful d (requestScan { d with iface := { d.iface with scanTimer := t } }) := by
  have timed : ∀ p, Lawful d { d with iface := { d.iface with scanTimer := t, scanPending := p } } := fun p => {
    start := fun law => law
    faulted := fun _ law h => absurd h (off law)
    probes := fun _ laws => ⟨laws.sound.of_reads rfl rfl rfl (List.Sublist.refl _), laws.leading⟩ }
  unfold requestScan
  split
  · exact timed true
  · exact (timed d.iface.scanPending).trans (issueScan_lawful _)

/-- A running scan timer is not that of a FAULTED device (R11). -/
theorem scanTimerExpired_lawful {d : Device} (running : d.iface.scanTimer.isSome) (t : Nat) :
    Lawful d (scanTimerExpired t d) :=
  requestScan_lawful (some (t + Config.scanPeriod)) (fun law faulted => by
    rw [(law faulted).2.1] at running
    cases running)

/-! ### Starts -/

/-- A device with a start in progress is neither RUNNING nor FAULTED (R6, R11). -/
theorem off_of_start {d : Device} (started : d.iface.start.isSome) (law : startLaw d) :
    d.iface.state ≠ .running ∧ d.iface.state ≠ .faulted := by
  constructor
  all_goals
    intro h
    rw [law (by simp [h])] at started
    cases started

/-- What a device neither RUNNING nor FAULTED changes of its registers, interface, identity and journal; it has no launched
probes, whose laws the device state could break. -/
theorem off_lawful {r : Regs} {i : BoardInterface} {n : Option Identity} {j : Journal} {d : Device}
    (off : startLaw d → d.iface.state ≠ .running ∧ d.iface.state ≠ .faulted)
    (state : startLaw d → i.state ≠ .faulted ∧ (i.state = .running → i.start = none))
    (requests : j.requests = d.journal.requests) :
    Lawful d { d with regs := r, iface := i, identity := n, journal := j } where
  requests := requests_of_le (by rw [requests])
  start := fun law h => h.elim (state law).2 (fun h => absurd h (state law).1)
  faulted := fun law _ h => absurd h (state law).1
  probes := fun law laws => by
    refine ⟨laws.sound.of_reads rfl rfl rfl (List.Sublist.refl _), fun r p hp => ?_⟩
    have leading := laws.leading r p hp
    simp [Device.leading, Device.running, (off law).1] at leading

theorem beginStart_lawful {d : Device} (off : d.iface.state ≠ .running ∧ d.iface.state ≠ .faulted) :
    Lawful d (beginStart d) := by
  unfold beginStart
  split
  · refine Lawful.trans ?_ (issue_lawful _ _ _ _ _ _ rfl)
    exact off_lawful (fun _ => off) (fun _ => ⟨off.2, fun h => absurd h off.1⟩) rfl
  · exact enterFaulted_lawful _ d

theorem abandonStart_lawful (d : Device) : Lawful d (abandonStart d) := by
  have ended : Lawful d { d with iface := { d.iface with start := none }, regs := { d.regs with run := false } } := {
    start := fun _ _ => rfl
    faulted := fun _ law h => ⟨rfl, (law h).2⟩
    probes := fun _ laws => ⟨laws.sound.of_reads rfl rfl rfl (List.Sublist.refl _), laws.leading⟩ }
  exact ended.trans (dropStartAccesses_lawful _)

/-- The start in progress goes on with another step. -/
theorem startStep_lawful {d : Device} (started : d.iface.start.isSome) (st : Start) :
    Lawful d { d with iface := { d.iface with start := some st } } :=
  off_lawful (off_of_start started) (fun law => ⟨(off_of_start started law).2, fun h => absurd h (off_of_start started law).1⟩) rfl

theorem startHeaderTaken_lawful {d : Device} (started : d.iface.start.isSome) (b : List Byte) :
    Lawful d (startHeaderTaken b d) := by
  unfold startHeaderTaken
  split
  · exact enterFaulted_lawful _ d
  · split
    · exact (startStep_lawful started _).trans (issue_lawful _ _ _ _ _ _ rfl)
    · have unusable : Lawful d { d with journal := { d.journal with usable := false } } := { }
      exact unusable.trans (enterFaulted_lawful _ _)

theorem adoptSequences_lawful (area : List Byte) (d : Device) : Lawful d (adoptSequences area d) := by
  unfold adoptSequences
  split
  · exact { summary := summary_of_counts (fun n => by simp only [mapVec_get, and_self]) }
  · exact .refl d

theorem startRequestTaken_lawful {d : Device} (started : d.iface.start.isSome) (st : Start) (b : List Byte) :
    Lawful d (startRequestTaken st b d) := by
  have adopted := (startStep_lawful started ⟨.headerWrite, st.header, b⟩).trans (adoptSequences_lawful b _)
  unfold startRequestTaken startPeerWrites
  dsimp only at adopted ⊢
  generalize adoptSequences b _ = e at adopted ⊢
  have written := adopted.trans (issue_lawful .startHeaderWrite (boardAddr e 0) 76 (headerBytes e st.header) true e rfl)
  split
  · exact written.trans (Lawful.foldl (fun d p => oweAs_lawful true (.peer p) d) _ _)
  · exact written

theorem enterRunning_lawful {d : Device} (started : d.iface.start.isSome) (i : Identity) (header : List Byte) :
    Lawful d (enterRunning i header d) :=
  off_lawful (off_of_start started) (fun _ => ⟨nofun, fun _ => rfl⟩) rfl

theorem startMode1_lawful (m : Mode) (d : Device) : Lawful d (startMode1 m d) := by
  unfold startMode1
  split
  · have started : Lawful d { d with lead := { d.lead with peers := mapVec (fun _ p => p.atLeadStart) d.lead.peers } } := by
      refine lead_lawful_of_same { d.lead with peers := mapVec (fun _ p => p.atLeadStart) d.lead.peers } d rfl (fun p => ?_)
      rw [mapVec_get, Peer.atLeadStart]
      split <;> exact ⟨rfl, rfl, rfl, rfl⟩
    exact started.trans (owePeers_lawful _ _)
  · unfold startFollower
    exact { }

theorem startMode2_lawful (m : Mode) (d : Device) : Lawful d (startMode2 m d) := by
  unfold startMode2
  split
  · exact (Lawful.foldl resumeAtStart_lawful _ d).trans (activateLead_lawful _)
  · refine Lawful.foldl (fun d n => ?_) _ d
    unfold drainAtFollowStart
    split
    · exact drainSlot_lawful n _ d
    · exact .refl d

theorem completeStart_lawful {d : Device} (started : d.iface.start.isSome) (st : Start) : Lawful d (completeStart st d) := by
  unfold completeStart
  dsimp only
  split
  · exact .refl d
  · rename_i i _
    have running := ((enterRunning_lawful started i st.header).trans (releaseStartAccesses_lawful _)).trans (startMode1_lawful i.mode _)
    have scanned := running.trans (scanComplete_lawful st.request _)
    exact (scanned.trans (Lawful.foldl (fun d w => owe_lawful (.window w) d) _ _)).trans (startMode2_lawful i.mode _)

theorem startHeaderWritten_lawful {d : Device} (started : d.iface.start.isSome) (st : Start) :
    Lawful d (startHeaderWritten st d) := by
  unfold startHeaderWritten
  split
  · exact (startStep_lawful started _).trans (Lawful.foldl (fun d n => issue_lawful _ _ _ _ _ d rfl) _ _)
  · exact completeStart_lawful started st

theorem startShadowWritten_lawful {d : Device} (started : d.iface.start.isSome) (st : Start) :
    Lawful d (startShadowWritten st d) := by
  unfold startShadowWritten
  split
  · exact .refl d
  · exact completeStart_lawful started st

theorem withStart_lawful {f : Start → Device → Device} (h : ∀ st d, d.iface.start.isSome → Lawful d (f st d)) (d : Device) :
    Lawful d (withStart f d) := by
  unfold withStart
  split
  · rename_i st hst
    exact h st d (by rw [hst]; rfl)
  · exact .refl d

/-! ### Circuit fetches -/

theorem setPlace_lawful (n : Fin 8) (p : Fin 2) (x : Place) (d : Device) : Lawful d (d.setPlace n p x) := setSched_lawful n _ d

theorem circuitFetched_lawful (n : Fin 8) (p : Fin 2) (c : Nat) (b : List Byte) (d : Device) :
    Lawful d (circuitFetched n p c b d) := by
  unfold circuitFetched
  split
  · exact setPlace_lawful n p _ d
  · split
    · exact setPlace_lawful n p _ d
    · unfold planErrorAtFetch
      dsimp only
      have failed := (setPlace_lawful n p .empty d).trans (setStatus_lawful n c .inFlight _)
      split
      · exact failed
      · exact failed.trans (issue_lawful _ _ _ _ _ _ rfl)

end Sys2Proof.Machine.StepLaws

namespace Sys2Proof.Machine.StepLaws

/-! ### The end of a verdict record write -/

/-- A probe in EVALUATING whose verdict record write has ended leaves its record; it holds no tone, context or point. -/
theorem freeRecord_probes {e : Device} {r : Fin 16} {p : Probe} (hp : recordAt e r = some p) (evaluating : p.state = .evaluating)
    (unwritten : r ∉ verdictRecords e) (laws : ProbeLaws e) : ProbeLaws (freeRecord r e) := by
  have freed : ∀ k y, Launched (e.setRecord r none) k y ↔ Launched e k y := by
    intro k y
    rw [Launched, recordAt_setRecord]
    split
    · rename_i same
      subst same
      exact ⟨fun h => absurd h.1 (by simp), fun h => absurd evaluating (Option.some.inj (hp.symm.trans h.1) ▸ h.2)⟩
    · rfl
  have verdict : verdictLaw (e.setRecord r none) := by
    refine ⟨laws.sound.verdict.1, fun k mem => ?_⟩
    have other : k ≠ r := fun same => unwritten (same ▸ mem)
    obtain ⟨q, hq, h⟩ := laws.sound.verdict.2 k mem
    exact ⟨q, by rw [← recordAt_eq, recordAt_setRecord, if_neg other]; exact hq, h⟩
  have law := laws.sound.of_launched_iff freed verdict
  refine ⟨law.congr (d := e.setRecord r none) (fun k => ?_) (fun c => ⟨rfl, rfl, rfl, rfl⟩) rfl (fun _ => rfl)
    (List.Sublist.refl _), fun k y hk => ?_⟩
  · rw [recordAt_freeRecord, recordAt_setRecord]
  · refine laws.leading k y ((freed k y).1 ?_)
    rwa [Launched, recordAt_freeRecord, ← recordAt_setRecord] at hk

/-- The record of a verdict whose write has ended is free: its probe is in EVALUATING and no other write is of it (R170). -/
theorem freeIfAny_lawful {d : Device} {x : Dma} {before after : List Access} {a : Access}
    (listed : verdictRecords d = (before ++ a :: after).filterMap verdictRecord)
    (left : (verdictRecords { d with dma := x }).Sublist ((before ++ after).filterMap verdictRecord)) :
    Lawful d (freeIfAny (verdictRecord a) { d with dma := x }) := by
  have all : ((before ++ after).filterMap verdictRecord).Sublist (verdictRecords d) := by
    rw [listed]
    exact ((List.Sublist.refl before).append (List.sublist_cons_self a after)).filterMap _
  have popped : Lawful d { d with dma := x } := dma_lawful x d (left.trans all)
  unfold freeIfAny
  split
  · rename_i r hr
    have freed : Kept { d with dma := x } (freeRecord r { d with dma := x }) := { }
    refine ⟨popped.toKept.trans freed, fun start laws => ?_⟩
    have mine : verdictRecords d = before.filterMap verdictRecord ++ r :: after.filterMap verdictRecord := by
      rw [listed, List.filterMap_append, List.filterMap_cons_some hr]
    obtain ⟨p, hp, evaluating⟩ := laws.sound.verdict.2 r (by rw [mine]; simp)
    refine freeRecord_probes hp evaluating (fun mem => ?_) (popped.probes start laws)
    have once := laws.sound.verdict.1
    rw [mine, List.nodup_middle, ← List.filterMap_append] at once
    exact (List.nodup_cons.1 once).1 (left.subset mem)
  · exact popped

/-- A failed verdict record write, and any other failed access behind the removal of the access that failed. -/
theorem failAccess_lawful {d e : Device} {a : Access} (popped : Lawful d e)
    (freed : Lawful d (freeIfAny (verdictRecord a) e)) : Lawful d (failAccess a.kind e) := by
  unfold failAccess
  split
  all_goals try exact popped.trans (enterFaulted_lawful _ e)
  · exact popped.trans (validated_lawful _ _ e)
  · exact popped.trans (notRunFailed_lawful _ e)
  · exact popped.trans ((setPlace_lawful _ _ _ e).trans (drainSlot_lawful _ _ _))
  · rename_i n g c record code margin hk
    rw [show verdictRecord a = record by rw [verdictRecord, hk]] at freed
    exact freed.trans (drainSlot_lawful _ _ _)
  · exact popped.trans (walkRead_lawful _ _ e)

/-- An access that R12 refused is handled as a failed one. -/
theorem refused_lawful {d : Device} {a : Access} {rest : List Access} (h : d.dma.refused = a :: rest) :
    Lawful d (failAccess a.kind { d with dma := { d.dma with refused := rest } }) := by
  have left : (verdictRecords { d with dma := { d.dma with refused := rest } }).Sublist
      ((d.dma.inFlight.filter (fun a => !a.discarded) ++ rest).filterMap verdictRecord) := List.Sublist.refl _
  refine failAccess_lawful (dma_lawful _ d (left.trans ?_)) (freeIfAny_lawful (by rw [verdictRecords, h]) left)
  rw [verdictRecords, h]
  exact ((List.Sublist.refl _).append (List.sublist_cons_self a rest)).filterMap _

theorem settleSteps_lawful (n : Nat) (d : Device) : Lawful d (settleSteps n d) := by
  induction n generalizing d with
  | zero => exact .refl d
  | succ n ih =>
    unfold settleSteps
    split
    · rename_i a rest h
      exact (refused_lawful h).trans (ih _)
    · split
      · exact settleOnce_lawful d
      · exact (settleOnce_lawful d).trans (ih _)

theorem settle_lawful (d : Device) : Lawful d (settle d) := (settleSteps_lawful 256 d).trans (sendIssued_lawful _)

/-! ### Completions -/

/-- The access that completes is in flight and no more afterwards. -/
theorem findAccess_splits {d : Device} {tag : Nat} {sel : AccessKind → Bool} {a : Access}
    (h : findAccess d tag sel = some a) (counts : a.discarded = false) : ∃ before after,
      verdictRecords d = (before ++ a :: after).filterMap verdictRecord ∧
      (verdictRecords (dropAccess d tag)).Sublist ((before ++ after).filterMap verdictRecord) := by
  obtain ⟨xs, ys, split⟩ := List.append_of_mem (List.mem_of_find?_eq_some h)
  have tagged : a.tag = tag := by
    have found := List.find?_some h
    simp only [Bool.and_eq_true, beq_iff_eq] at found
    exact found.1
  refine ⟨xs.filter (fun a => !a.discarded), ys.filter (fun a => !a.discarded) ++ d.dma.refused, ?_, ?_⟩
  · rw [verdictRecords, split, List.filter_append, List.filter_cons_of_pos (by simp [counts])]
    simp
  · have gone : ((xs ++ a :: ys).filter (fun b => b.tag != tag)) =
        xs.filter (fun b => b.tag != tag) ++ ys.filter (fun b => b.tag != tag) := by
      rw [List.filter_append, List.filter_cons_of_neg (by simp [tagged])]
    rw [verdictRecords, dropAccess, split]
    dsimp only
    rw [gone, List.filter_append, List.append_assoc]
    exact ((List.filter_sublist.filter _).append ((List.filter_sublist.filter _).append (List.Sublist.refl _))).filterMap _

theorem complete_lawful {tag : Nat} {sel : AccessKind → Bool} {act : AccessKind → Device → Device} (ok : Bool) (s : State)
    (h : ∀ a e, sel a.kind = true → Lawful s.dev e → Lawful s.dev (freeIfAny (verdictRecord a) e) → Lawful s.dev (act a.kind e)) :
    Lawful s.dev (complete tag sel ok act s).dev := by
  unfold complete
  split
  · exact .refl _
  · rename_i a ha
    have selected : sel a.kind = true := by
      have found := List.find?_some ha
      simp only [Bool.and_eq_true] at found
      exact found.2
    dsimp only [completed]
    split
    · exact dropAccess_lawful s.dev tag
    · rename_i counts
      obtain ⟨before, after, listed, left⟩ := findAccess_splits ha (by simpa using counts)
      have freed : Lawful s.dev (freeIfAny (verdictRecord a) (dropAccess s.dev tag)) := freeIfAny_lawful listed left
      refine Lawful.trans ?_ (settle_lawful _)
      split
      · exact h a _ selected (dropAccess_lawful s.dev tag) freed
      · exact failAccess_lawful (dropAccess_lawful s.dev tag) freed

/-- The completion of an access whose success acts lawfully on every device. -/
theorem complete_lawful_of {tag : Nat} {sel : AccessKind → Bool} {act : AccessKind → Device → Device}
    (h : ∀ k d, Lawful d (act k d)) (ok : Bool) (s : State) : Lawful s.dev (complete tag sel ok act s).dev :=
  complete_lawful ok s (fun a e _ popped _ => popped.trans (h a.kind e))

theorem completeRead_lawful {tag : Nat} {sel : AccessKind → Bool} {act : List Byte → AccessKind → Device → Device}
    (h : ∀ b k d, Lawful d (act b k d)) (r : ReadResult) (s : State) : Lawful s.dev (completeRead tag sel r act s).dev := by
  cases r with
  | failed => exact complete_lawful_of (fun _ d => .refl d) false s
  | bytes b => exact complete_lawful_of (h b) true s

theorem verdictWritten_lawful (tag : Nat) (ok : Bool) (s : State) :
    Lawful s.dev (complete tag isVerdictWrite ok verdictTaken s).dev := by
  refine complete_lawful ok s (fun a e sel popped freed => ?_)
  unfold verdictTaken
  split
  · rename_i n g c record code margin hk
    rw [show verdictRecord a = record by rw [verdictRecord, hk]] at freed
    unfold verdictLanded
    dsimp only
    split
    · refine freed.trans (Lawful.trans ?_ (completeIfDone_lawful n _))
      exact (setStatus_lawful n c .done _).trans ((countVerdict_lawful n code margin (setStatus n c .done _)))
    · exact freed
  · exact popped

end Sys2Proof.Machine.StepLaws

namespace Sys2Proof.Machine.StepLaws

/-! ### Resets -/

/-- A device without probes, contexts in use and stuck points. -/
structure Vacant (d : Device) : Prop where
  records : ∀ r : Fin 16, d.probes.records[r] = none
  contexts : ∀ c : Fin 8, d.launch.contexts[c] = Context.cold
  stuck : d.launch.stuck = []
  commands : ∀ b ∈ d.launch.sending.toList ++ d.launch.waiting ++ d.launch.issued, b.context? = none
  writes : verdictRecords d = []

theorem Vacant.busLaw {d : Device} (h : Vacant d) : busLaw d := by
  intro c
  have none_of : outstanding d c = [] := by
    rw [outstanding, List.filter_eq_nil_iff]
    intro b hb
    rw [h.commands b hb]
    simp
  rw [none_of, h.contexts]
  exact ⟨Nat.zero_le _, nofun, nofun⟩

theorem Vacant.probes {d : Device} (h : Vacant d) : ProbeLaws d := by
  have unlaunched : ∀ r p, ¬Launched d r p := fun r p hp => by
    rw [Launched, recordAt, h.records] at hp
    exact absurd hp.1 (by simp)
  have context : ∀ c, contextAt d c = Context.cold := h.contexts
  have idle : busyContexts d = 0 := by
    rw [busyContexts_eq_card, Finset.card_eq_zero, Finset.eq_empty_iff_forall_notMem]
    intro c hc
    rw [mem_busySet, context] at hc
    exact hc rfl
  refine ⟨{
    owned := fun r p hp => absurd hp (unlaunched r p)
    named := fun r p hp => absurd hp (unlaunched r p)
    fits := fun r p hp => absurd hp (unlaunched r p)
    toned := fun r p hp => absurd hp (unlaunched r p)
    unheard := fun r p hp => absurd hp (unlaunched r p)
    toneAlone := fun r p hp => absurd hp (unlaunched r p)
    tonesApart := fun r p _ _ hp => absurd hp (unlaunched r p)
    pointsApart := fun r p _ _ hp => absurd hp (unlaunched r p)
    letGo := fun r p hp => absurd hp (unlaunched r p)
    pointAlone := fun r p hp => absurd hp (unlaunched r p)
    owner := fun c r hc => by rw [context] at hc; cases hc
    ownerless := fun c used => absurd (by rw [context]; rfl) used
    contextTones := fun b c _ used => absurd (by rw [context]; rfl) used
    contextPoints := fun b c _ used => absurd (by rw [context]; rfl) used
    unstuck := fun c used => absurd (by rw [context]; rfl) used
    stuckTones := by simp [h.stuck]
    stuckOnce := by simp [h.stuck]
    stuck := by rw [stuckLaw, h.stuck, idle]; simp
    verdict := by simp [verdictLaw, h.writes] }, fun r p hp => absurd hp (unlaunched r p)⟩

/-- A device as a reset leaves it, in what the laws read. -/
structure Cleared (d : Device) : Prop extends Vacant d where
  lead : d.lead = LeadLink.cold
  hold : d.follower.hold = []
  requests : d.journal.requests = []
  queue : d.classifier.queue = []
  taps : d.taps = TapArray.cold
  state : d.iface.state ≠ .running ∧ d.iface.state ≠ .faulted
  slots : ∀ n : Fin 8, d.slots[n].summary = Summary.zero ∧ d.slots[n].verdicts = 0
  areas : d.areas = Vector.replicate 8 Area.cold

theorem Cleared.credit {d : Device} (h : Cleared d) : creditLaw d ∧ lentLaw d := by
  rw [creditLaw, lentLaw, h.lead]
  decide

theorem Cleared.admission {d : Device} (h : Cleared d) : AdmissionLaws d where
  peer := fun p => by simp [inQueue, h.queue]
  reserve := by
    rw [reserveLaw, h.lead]
    decide
  held := by
    intro i xs holding
    rw [h.taps] at holding
    simp [TapArray.cold] at holding

theorem Cleared.start {d : Device} (h : Cleared d) : startLaw d := fun on => (on.elim h.state.1 h.state.2).elim

theorem Cleared.faulted {d : Device} (h : Cleared d) : faultedLaw d := fun on => (h.state.2 on).elim

theorem Cleared.summary {d : Device} (h : Cleared d) : summaryLaw d := fun n => by
  rw [(h.slots n).1, (h.slots n).2]
  exact Summary.total_zero

theorem Cleared.area {d : Device} (h : Cleared d) : areaLaw d := by
  rw [areaLaw, h.areas]
  intro n
  simp [Area.cold, Sparse.rising]

theorem Cleared.share {d : Device} (h : Cleared d) : localLaw d := by simp [localLaw, localCount, h.queue]

theorem Cleared.lawful {d e : Device} (h : Cleared e) : Lawful d e where
  credit := fun _ => h.credit
  admission := fun _ => h.admission
  hold := fun _ => by simp [holdLaw, h.hold]
  requests := fun _ => by simp [requestLaw, h.requests]
  share := fun _ => h.share
  start := fun _ => h.start
  faulted := fun _ _ => h.faulted
  summary := fun _ => h.summary
  bus := fun _ => h.busLaw
  area := fun _ => h.area
  probes := fun _ _ => h.probes

theorem resetLaunch_does (d : Device) : ∃ s w, resetLaunch d =
      { d with launch := ⟨Vector.replicate 8 Context.cold, s, w, [], []⟩ } ∧
    ∀ b ∈ s.toList ++ w, b.context? = none := by
  have sends : ∀ (ps : List Byte) (s : Option BusCommand) (w : List BusCommand), (∀ b ∈ s.toList ++ w, b.context? = none) →
      ∃ s' w', ps.foldl (fun d p => sendCommand (.stop p none) d) { d with launch := ⟨Vector.replicate 8 Context.cold, s, w, [], []⟩ } =
          { d with launch := ⟨Vector.replicate 8 Context.cold, s', w', [], []⟩ } ∧ ∀ b ∈ s'.toList ++ w', b.context? = none := by
    intro ps
    induction ps with
    | nil => exact fun s w h => ⟨s, w, rfl, h⟩
    | cons p ps ih =>
      intro s w h
      cases s with
      | none => exact ih (some (.stop p none)) w (by simp_all [BusCommand.context?])
      | some b =>
        refine ih (some b) (w ++ [.stop p none]) (fun x hx => ?_)
        simp only [Option.toList_some, List.mem_append, List.mem_cons, List.not_mem_nil, or_false] at h hx
        rcases hx with hx | hx | rfl
        · exact h x (.inl hx)
        · exact h x (.inr hx)
        · rfl
  refine sends (resetPoints d.launch) (d.launch.sending.map BusCommand.orphan) [] (fun b hb => ?_)
  simp only [List.append_nil, Option.mem_toList, Option.map_eq_some_iff] at hb
  obtain ⟨x, -, rfl⟩ := hb
  cases x <;> rfl

theorem boardReset_cleared (d : Device) : Cleared (boardReset d) := by
  obtain ⟨s, w, launch, commands⟩ := resetLaunch_does d
  have bus : (boardReset d).launch = ⟨Vector.replicate 8 Context.cold, s, w, [], []⟩ := by
    show (resetLaunch d).launch = _
    rw [launch]
  exact {
    records := by simp [boardReset, ProbeTable.cold]
    contexts := by simp [bus]
    stuck := by rw [bus]
    commands := by simpa [bus] using commands
    writes := by simp [verdictRecords, boardReset, discardAll, discardWhere]
    lead := rfl
    hold := rfl
    requests := rfl
    queue := rfl
    taps := rfl
    state := ⟨nofun, nofun⟩
    slots := fun n => by
      simp only [boardReset, mapVec_get]
      exact ⟨rfl, rfl⟩
    areas := rfl }

theorem coldReset_cleared (d : Device) : Cleared (coldReset d) where
  records := by simp [coldReset, Device.cold, ProbeTable.cold]
  contexts := by simp [coldReset, Device.cold, Launch.cold]
  stuck := rfl
  commands := by simp [coldReset, Device.cold, Launch.cold, BusCommand.context?]
  writes := by simp [verdictRecords, coldReset, discardAll, discardWhere]
  lead := rfl
  hold := rfl
  requests := rfl
  queue := rfl
  taps := rfl
  state := ⟨nofun, nofun⟩
  slots := by simp [coldReset, Device.cold, Slot.cold]
  areas := rfl

theorem boardReset_lawful (d : Device) : Lawful d (boardReset d) := (boardReset_cleared d).lawful

theorem coldReset_lawful (d : Device) : Lawful d (coldReset d) := (coldReset_cleared d).lawful

/-! ### The launch bus -/

theorem onReply_lawful {f : Fin 8 → Device → Device} {unmatched : Device → Device} (hf : ∀ c d, Lawful d (f c d))
    (hu : ∀ d, Lawful d (unmatched d)) (point : Byte) (d : Device) : Lawful d (onReply point f unmatched d) := by
  unfold onReply
  split
  · exact (hf _ d).trans (settle_lawful _)
  · exact hu d

theorem stuckReply_lawful (point : Byte) (d : Device) : Lawful d (stuckReply point d) := by
  unfold stuckReply
  split
  · exact (clearStuck_lawful point d).trans (settle_lawful _)
  · exact .refl d

/-- An event at a timer that runs. -/
theorem settleAt_lawful {timer : Option Nat} {f : Nat → Device → Device} {d : Device}
    (h : timer.isSome → ∀ t, Lawful (d.advance t) (f t (d.advance t))) : Lawful d (settleAt timer f d) := by
  unfold settleAt atTimer
  split
  · rename_i t
    exact ((advance_lawful t d).trans (h rfl t)).trans (settle_lawful _)
  · exact .refl d

/-! ### Register writes -/

theorem runSet_lawful (d : Device) : Lawful d (runSet d) := by
  unfold runSet
  split
  · rename_i state _
    exact (beginStart_lawful (by simp [state])).trans (settle_lawful _)
  · rename_i state _
    exact (beginStart_lawful (by simp [state])).trans (settle_lawful _)
  · exact .refl d

theorem runClear_lawful (d : Device) : Lawful d (runClear d) := by
  unfold runClear
  split
  · exact abandonStart_lawful d
  · split
    · exact (halt_lawful d).trans (settle_lawful _)
    · exact .refl d

theorem nudge_lawful (d : Device) : Lawful d (nudge d) := by
  unfold nudge
  split
  · rename_i h
    have running : d.iface.state = .running := by
      simp only [Device.running, Bool.and_eq_true, beq_iff_eq] at h
      exact h.1
    exact (requestScan_lawful d.iface.scanTimer (fun _ => by simp [running])).trans (settle_lawful _)
  · exact .refl d

theorem registers_lawful {r : Regs} (d : Device) (run : r.run = d.regs.run) : Lawful d { d with regs := r } where
  faulted := faulted_of_eq rfl run

theorem writeIrqCause_lawful (v : Word) (d : Device) : Lawful d (writeIrqCause v d) := by
  unfold writeIrqCause
  exact { faulted := faulted_of_eq rfl rfl, requests := requests_of_le (Nat.le_refl _) }

theorem writeBar_lawful (offset size : Nat) (v : Word) (d : Device) : Lawful d (writeBar offset size v d) := by
  unfold writeBar
  split
  · unfold writeRegister
    split
    · unfold writeControl
      split
      · exact boardReset_lawful d
      · split
        · exact runSet_lawful d
        · exact runClear_lawful d
    · exact nudge_lawful d
    · exact registers_lawful d rfl
    · exact registers_lawful d rfl
    · exact registers_lawful d rfl
    · exact writeIrqCause_lawful v d
    · exact registers_lawful d rfl
    · exact .refl d
  · exact .refl d

/-! ### Rounds and looks -/

theorem whenLeading_lawful {f : Device → Device} {d : Device} (h : Lawful d (f d)) : Lawful d (whenLeading f d) := by
  unfold whenLeading
  split
  · exact h
  · exact .refl d

/-- The look phase and the time of WATCH_ISSUE. -/
theorem phase_lawful (w : Option Nat) (p : LookPhase) (d : Device) :
    Lawful d { d with rounds := { d.rounds with watchAt := w, phase := p } } := { }

theorem watchesIssued_lawful (d : Device) : Lawful d (watchesIssued d) :=
  (phase_lawful none d.rounds.phase d).trans (issueWatches_lawful _)

theorem lookOpened_lawful (d : Device) : Lawful d (lookOpened d) := by
  unfold lookOpened
  split
  · exact (advance_lawful _ d).trans (openLooks_lawful _ _)
  · exact .refl d

theorem lookEnded_lawful (i : Fin 4) (found : List FoundTone) (d : Device) : Lawful d (lookEnded i found d) := by
  unfold lookEnded
  split
  · exact (endLook_lawful i _ found d).trans (settle_lawful _)
  · exact .refl d

theorem deadlinePassed_lawful (t : Nat) (d : Device) : Lawful d (deadlinePassed t d) :=
  ((advance_lawful t d).trans (phase_lawful _ .closed _)).trans (dropPlan_lawful _)

theorem lookDeadlineTaken_lawful (d : Device) : Lawful d (lookDeadlineTaken d) := by
  unfold lookDeadlineTaken
  split
  · exact .refl d
  · exact deadlinePassed_lawful _ d
  · exact deadlinePassed_lawful _ d

theorem leadLostExpired_lawful (d : Device) : Lawful d (leadLostExpired d) := by
  unfold leadLostExpired
  split
  · exact loseLead_lawful d
  · exact .refl d

theorem received_lawful (frame : List Byte) (d : Device) : Lawful d (settle (receive frame d)) :=
  (receive_lawful frame d).trans (settle_lawful _)

/-! ### Completions by purpose -/

theorem descriptorTaken_lawful (b : List Byte) (k : AccessKind) (d : Device) : Lawful d (descriptorTaken b k d) := by
  unfold descriptorTaken
  split
  · exact validated_lawful _ _ d
  · exact .refl d

theorem notRunTaken_lawful (k : AccessKind) (d : Device) : Lawful d (notRunTaken k d) := by
  unfold notRunTaken
  split
  · exact notRunLanded_lawful _ _ d
  · exact .refl d

theorem summaryTaken_lawful (k : AccessKind) (d : Device) : Lawful d (summaryTaken k d) := by
  unfold summaryTaken
  split
  · exact summaryLanded_lawful _ d
  · exact .refl d

theorem settingsLanded_lawful (b : List Byte) (k : AccessKind) (d : Device) : Lawful d (settingsLanded b k d) := by
  unfold settingsLanded
  split
  · exact settingsTaken_lawful _ b d
  · exact .refl d

theorem fetchTaken_lawful (b : List Byte) (k : AccessKind) (d : Device) : Lawful d (fetchTaken b k d) := by
  unfold fetchTaken
  split
  · exact circuitFetched_lawful _ _ _ b d
  · exact .refl d

theorem walkTaken_lawful (b : List Byte) (k : AccessKind) (d : Device) : Lawful d (walkTaken b k d) := by
  unfold walkTaken
  split
  · exact walkRead_lawful _ _ d
  · exact .refl d

theorem exec_lawful {c : Instr} {s t : State} (h : exec c s = .next t) : Lawful s.dev t.dev := by
  cases c with
  | coldReset => cases h; exact coldReset_lawful s.dev
  | boardReset run => cases h; exact boardReset_lawful s.dev
  | registerWrite offset size v => cases h; exact writeBar_lawful offset.toNat size v s.dev
  | runSet => cases h; exact runSet_lawful s.dev
  | runClear => cases h; exact runClear_lawful s.dev
  | nudge v => cases h; exact nudge_lawful s.dev
  | windowSizeWrite v => cases h; exact registers_lawful s.dev rfl
  | irqCauseWrite v => cases h; exact writeIrqCause_lawful v s.dev
  | irqMaskWrite v => cases h; exact registers_lawful s.dev rfl
  | startHeaderReadDone tag r =>
    cases h; exact completeRead_lawful (fun b _ => withStart_lawful (fun _ _ on => startHeaderTaken_lawful on b)) r s
  | startRequestReadDone tag r =>
    cases h; exact completeRead_lawful (fun b _ => withStart_lawful (fun st _ on => startRequestTaken_lawful on st b)) r s
  | startHeaderWriteDone tag ok =>
    cases h; exact complete_lawful_of (fun _ => withStart_lawful (fun st _ on => startHeaderWritten_lawful on st)) ok s
  | startShadowWriteDone tag ok =>
    cases h; exact complete_lawful_of (fun _ => withStart_lawful (fun st _ on => startShadowWritten_lawful on st)) ok s
  | scanTimerExpiry => cases h; exact settleAt_lawful (fun on t => scanTimerExpired_lawful (d := s.dev.advance t) on t)
  | scanReadDone tag r => cases h; exact completeRead_lawful (fun b _ => scanTaken_lawful b) r s
  | descriptorReadDone tag r => cases h; exact completeRead_lawful descriptorTaken_lawful r s
  | shadowWriteDone tag ok => cases h; exact complete_lawful_of channelLanded_lawful ok s
  | windowStatusWriteDone tag ok => cases h; exact complete_lawful_of channelLanded_lawful ok s
  | markCounterWriteDone tag ok => cases h; exact complete_lawful_of channelLanded_lawful ok s
  | linkCounterWriteDone tag ok => cases h; exact complete_lawful_of channelLanded_lawful ok s
  | sightingCounterWriteDone tag ok => cases h; exact complete_lawful_of channelLanded_lawful ok s
  | settingsAckWriteDone tag ok => cases h; exact complete_lawful_of channelLanded_lawful ok s
  | peerStatusWriteDone tag ok => cases h; exact complete_lawful_of channelLanded_lawful ok s
  | producedCountWriteDone tag ok => cases h; exact complete_lawful_of channelLanded_lawful ok s
  | notRunWriteDone tag ok => cases h; exact complete_lawful_of notRunTaken_lawful ok s
  | summaryWriteDone tag ok => cases h; exact complete_lawful_of summaryTaken_lawful ok s
  | settingsReadDone tag r => cases h; exact completeRead_lawful settingsLanded_lawful r s
  | journalEntryWriteDone tag ok => cases h; exact complete_lawful_of (fun _ => journalWritten_lawful) ok s
  | consumedReadDone tag r => cases h; exact completeRead_lawful (fun b _ => consumedTaken_lawful (word b 0)) r s
  | circuitFetchDone tag r => cases h; exact completeRead_lawful fetchTaken_lawful r s
  | verdictWriteDone tag ok => cases h; exact verdictWritten_lawful tag ok s
  | walkReadDone tag r => cases h; exact completeRead_lawful walkTaken_lawful r s
  | commandSent => cases h; exact commandDone_lawful s.dev
  | ackOn p => cases h; exact onReply_lawful contextOn_lawful Lawful.refl p s.dev
  | ackOff p => cases h; exact onReply_lawful contextOff_lawful (stuckReply_lawful p) p s.dev
  | nack p => cases h; exact onReply_lawful contextNack_lawful (stuckReply_lawful p) p s.dev
  | modulatorFault p => cases h; exact onReply_lawful contextFault_lawful Lawful.refl p s.dev
  | replyTimerExpiry ctx => cases h; exact settleAt_lawful (fun on _ => replyTimeout_lawful on)
  | roundStart => cases h; exact whenLeading_lawful (settleAt_lawful (fun _ _ => leadRoundStart_lawful _))
  | watchIssue =>
    cases h
    refine whenLeading_lawful ?_
    unfold atTimer
    split
    · exact (advance_lawful _ s.dev).trans (watchesIssued_lawful _)
    · exact .refl s.dev
  | lookOpen => cases h; exact lookOpened_lawful s.dev
  | lookEnd i found => cases h; exact lookEnded_lawful i found s.dev
  | lookDeadline => cases h; exact lookDeadlineTaken_lawful s.dev
  | roundMarkReceived time source dest body => cases h; exact (advance_lawful time s.dev).trans (received_lawful _ _)
  | watchListReceived time source dest body => cases h; exact (advance_lawful time s.dev).trans (received_lawful _ _)
  | sightingReceived source dest body => cases h; exact received_lawful _ s.dev
  | helloReceived source dest body => cases h; exact received_lawful _ s.dev
  | unknownFrameReceived frame => cases h; exact received_lawful _ s.dev
  | framerReady => cases h; exact handOver_lawful s.dev
  | leadLostTimerExpiry => cases h; exact settleAt_lawful (fun _ _ => leadLostExpired_lawful _)
  | classifySighting => cases h; exact (classifyNext_lawful s.dev).trans (settle_lawful _)
  | sweepStep area => cases h; exact (sweepArea_lawful area s.dev).trans (settle_lawful _)

end Sys2Proof.Machine.StepLaws

namespace Sys2Proof.Machine.StepLaws

/-! ### The board bytes -/

theorem complete_board {tag : Nat} {sel : AccessKind → Bool} {act : AccessKind → Device → Device} (ok : Bool) {s : State}
    (law : boardLaw s) : boardLaw (complete tag sel ok act s) := by
  unfold complete
  split
  · exact law
  · show Memory.wf (landed s.board _ ok) = true
    unfold landed
    split
    · exact Memory.wf_write _ _ _ law
    · exact law

theorem completeRead_board {tag : Nat} {sel : AccessKind → Bool} {act : List Byte → AccessKind → Device → Device}
    (r : ReadResult) {s : State} (law : boardLaw s) : boardLaw (completeRead tag sel r act s) := by
  cases r with
  | failed => exact complete_board false law
  | bytes b => exact complete_board true law

/-- Completions alone write the board. -/
theorem exec_board {c : Instr} {s t : State} (h : exec c s = .next t) (law : boardLaw s) : boardLaw t := by
  cases c <;> cases h
  case startHeaderReadDone | startRequestReadDone | scanReadDone | descriptorReadDone | settingsReadDone | consumedReadDone |
      circuitFetchDone | walkReadDone => exact completeRead_board _ law
  case startHeaderWriteDone | startShadowWriteDone | shadowWriteDone | notRunWriteDone | summaryWriteDone |
      windowStatusWriteDone | markCounterWriteDone | linkCounterWriteDone | sightingCounterWriteDone | settingsAckWriteDone |
      peerStatusWriteDone | journalEntryWriteDone | producedCountWriteDone | verdictWriteDone => exact complete_board _ law
  all_goals exact law

/-! ### The commands issued in a step -/

theorem settle_issued (d : Device) : (settle d).launch.issued = [] := by
  obtain ⟨s, w, h⟩ := sendIssued_frame (settleSteps 256 d)
  rw [settle, h]

theorem complete_issued {tag : Nat} {sel : AccessKind → Bool} {act : AccessKind → Device → Device} (ok : Bool) {s : State}
    (law : issuedLaw s.dev) : issuedLaw (complete tag sel ok act s).dev := by
  unfold complete
  split
  · exact law
  · dsimp only [completed]
    split
    · exact law
    · exact settle_issued _

theorem completeRead_issued {tag : Nat} {sel : AccessKind → Bool} {act : List Byte → AccessKind → Device → Device}
    (r : ReadResult) {s : State} (law : issuedLaw s.dev) : issuedLaw (completeRead tag sel r act s).dev := by
  cases r with
  | failed => exact complete_issued false law
  | bytes b => exact complete_issued true law

theorem settleAt_issued {timer : Option Nat} {f : Nat → Device → Device} {d : Device} (law : issuedLaw d) :
    issuedLaw (settleAt timer f d) := by
  unfold settleAt atTimer
  split
  · exact settle_issued _
  · exact law

theorem onReply_issued {f : Fin 8 → Device → Device} {g : Device → Device} (point : Byte) {d : Device}
    (law : issuedLaw (g d)) : issuedLaw (onReply point f g d) := by
  unfold onReply
  split
  · exact settle_issued _
  · exact law

theorem stuckReply_issued (point : Byte) {d : Device} (law : issuedLaw d) : issuedLaw (stuckReply point d) := by
  unfold stuckReply
  split
  · exact settle_issued _
  · exact law

theorem runSet_issued {d : Device} (law : issuedLaw d) : issuedLaw (runSet d) := by
  unfold runSet
  split
  · exact settle_issued _
  · exact settle_issued _
  · exact law

theorem runClear_issued {d : Device} (law : issuedLaw d) : issuedLaw (runClear d) := by
  unfold runClear
  split
  · exact law
  · split
    · exact settle_issued _
    · exact law

theorem nudge_issued {d : Device} (law : issuedLaw d) : issuedLaw (nudge d) := by
  unfold nudge
  split
  · exact settle_issued _
  · exact law

theorem boardReset_issued (d : Device) : issuedLaw (boardReset d) := by
  obtain ⟨s, w, launch, -⟩ := resetLaunch_does d
  show (resetLaunch d).launch.issued = []
  rw [launch]

theorem writeBar_issued (offset size : Nat) (v : Word) {d : Device} (law : issuedLaw d) : issuedLaw (writeBar offset size v d) := by
  unfold writeBar
  split
  · unfold writeRegister
    split
    · unfold writeControl
      split
      · exact boardReset_issued d
      · split
        · exact runSet_issued law
        · exact runClear_issued law
    · exact nudge_issued law
    all_goals exact law
  · exact law

theorem commandDone_issued (d : Device) : (commandDone d).launch.issued = d.launch.issued := by
  unfold commandDone
  split
  · rfl
  · rename_i b _
    obtain ⟨-, -, issued⟩ := startReplyTimer_bus b d
    dsimp only
    split <;> exact issued

theorem watchesIssued_launch (d : Device) : (watchesIssued d).launch = d.launch := by
  unfold watchesIssued issueWatches
  refine (foldl_keeps (·.launch) _ (fun d p => ?_) _ _).trans rfl
  unfold placeWatchList
  dsimp only
  split <;> rfl

theorem lookOpened_launch (d : Device) : (lookOpened d).launch = d.launch := by
  have planned : ∀ (ws : List Watch) (d : Device), (ws.foldl planWatch d).launch = d.launch := fun ws d =>
    foldl_keeps (·.launch) _ (by simp) ws d
  unfold lookOpened
  split
  · simp [openLooks, planned]
  · rfl

theorem lookDeadlineTaken_launch (d : Device) : (lookDeadlineTaken d).launch = d.launch := by
  unfold lookDeadlineTaken
  split <;> rfl

theorem handOver_launch (d : Device) : (handOver d).launch = d.launch := by
  unfold handOver leadHandOver followerHandOver
  (repeat' split) <;> rfl

theorem exec_issued {c : Instr} {s t : State} (h : exec c s = .next t) (law : issuedLaw s.dev) : issuedLaw t.dev := by
  cases c <;> cases h
  case coldReset => rfl
  case boardReset => exact boardReset_issued _
  case registerWrite => exact writeBar_issued _ _ _ law
  case runSet => exact runSet_issued law
  case runClear => exact runClear_issued law
  case nudge => exact nudge_issued law
  case windowSizeWrite | irqCauseWrite | irqMaskWrite => exact law
  case startHeaderReadDone | startRequestReadDone | scanReadDone | descriptorReadDone | settingsReadDone | consumedReadDone |
      circuitFetchDone | walkReadDone => exact completeRead_issued _ law
  case startHeaderWriteDone | startShadowWriteDone | shadowWriteDone | notRunWriteDone | summaryWriteDone |
      windowStatusWriteDone | markCounterWriteDone | linkCounterWriteDone | sightingCounterWriteDone | settingsAckWriteDone |
      peerStatusWriteDone | journalEntryWriteDone | producedCountWriteDone | verdictWriteDone => exact complete_issued _ law
  case scanTimerExpiry | replyTimerExpiry | leadLostTimerExpiry => exact settleAt_issued law
  case commandSent => exact (commandDone_issued s.dev).trans law
  case ackOn | modulatorFault => exact onReply_issued _ law
  case ackOff | nack => exact onReply_issued _ (stuckReply_issued _ law)
  case roundStart =>
    dsimp only [whenLeading]
    split
    · exact settleAt_issued law
    · exact law
  case watchIssue =>
    dsimp only [whenLeading, atTimer]
    split
    · split
      · exact (congrArg (·.issued) (watchesIssued_launch (s.dev.advance _))).trans law
      · exact law
    · exact law
  case lookOpen => exact (congrArg (·.issued) (lookOpened_launch _)).trans law
  case lookEnd =>
    dsimp only [lookEnded]
    split
    · exact settle_issued _
    · exact law
  case lookDeadline => exact (congrArg (·.issued) (lookDeadlineTaken_launch _)).trans law
  case framerReady => exact (congrArg (·.issued) (handOver_launch _)).trans law
  case roundMarkReceived | watchListReceived | sightingReceived | helloReceived | unknownFrameReceived | classifySighting |
      sweepStep => exact settle_issued _

/-! ### Every step -/

theorem idle_lawful (s : State) : Lawful s.dev (idle s).dev := by
  unfold idle
  exact { }

theorem step_lawful {s t : State} (h : step s = .next t) : Lawful s.dev t.dev := by
  rcases SettingsInForce.step_next h with ⟨-, rfl⟩ | ⟨c, rest, -, he⟩
  · exact idle_lawful s
  · exact exec_lawful (s := { s with pending := rest }) he

theorem step_board {s t : State} (h : step s = .next t) (law : boardLaw s) : boardLaw t := by
  rcases SettingsInForce.step_next h with ⟨-, rfl⟩ | ⟨c, rest, -, he⟩
  · exact law
  · exact exec_board (s := { s with pending := rest }) he law

theorem step_issued {s t : State} (h : step s = .next t) (law : issuedLaw s.dev) : issuedLaw t.dev := by
  rcases SettingsInForce.step_next h with ⟨-, rfl⟩ | ⟨c, rest, -, he⟩
  · exact law
  · exact exec_issued (s := { s with pending := rest }) he law

/-- A queue is as long as its local share and its peers' shares together. -/
theorem queue_length (d : Device) : d.classifier.queue.length = localCount d + ∑ p : Fin 16, inQueue d p := by
  unfold localCount inQueue
  induction d.classifier.queue with
  | nil => simp
  | cons e q ih =>
    simp only [List.length_cons, List.countP_cons, Finset.sum_add_distrib]
    rw [ih]
    cases e.sighting.source with
    | none => simp; omega
    | some p => simp; omega

theorem sum_peers (f : Peer → Nat) (l : LeadLink) : (l.peers.toList.map f).sum = ∑ p : Fin 16, f l.peers[p] := by
  rw [Fin.sum_univ_def]
  refine congrArg List.sum (List.ext_getElem (by simp) (fun i _ _ => ?_))
  simp

/-- The queue holds at most the 64 local sightings, the 64 credits and the 128 reserved places (R102, R110, R113, R137). -/
theorem queue_bounded {d : Device} (credit : creditLaw d) (share : localLaw d) (peer : peerLaw d) (reserve : reserveLaw d) :
    d.classifier.queue.length ≤ 256 := by
  have places : ∑ p : Fin 16, inQueue d p ≤ d.lead.reserves + (d.lead.peers.toList.map (fun p => p.lent + p.withdrawn)).sum := by
    rw [LeadLink.reserves, sum_peers, sum_peers, ← Finset.sum_add_distrib]
    refine Finset.sum_le_sum (fun p _ => ?_)
    rw [← Nat.add_assoc]
    exact peer p
  have reserved : d.lead.reserves ≤ 128 := reserve.2
  have pool : d.lead.pool + (d.lead.peers.toList.map (fun p => p.lent + p.withdrawn)).sum = 64 := credit
  have locals : localCount d ≤ 64 := share
  rw [queue_length]
  omega

/-- Settles O56. -/
theorem everyStepKeepsBoardForm : Obligations.EveryStepKeepsBoardForm :=
  fun _ _ law h => step_board h law

/-- Settles O57: `step_lawful`, whose relation carries the credit laws and the laws of admission from state to state. -/
theorem everyStepKeepsCredit : Obligations.EveryStepKeepsCredit := by
  unfold Obligations.EveryStepKeepsCredit
  refine ⟨fun s t credit lent h => (step_lawful h).credit ⟨credit, lent⟩, fun s t peer reserve held h => ?_⟩
  obtain ⟨peer', reserve', held'⟩ := (step_lawful h).admission ⟨peer, reserve, held⟩
  exact ⟨peer', reserve', held'⟩

/-- Settles O58: `step_lawful` for the bounds a step keeps, and `queue_bounded`. -/
theorem everyStepKeepsQueueBounds : Obligations.EveryStepKeepsQueueBounds := by
  unfold Obligations.EveryStepKeepsQueueBounds
  exact ⟨fun s t hold requests h => ⟨(step_lawful h).hold hold, (step_lawful h).requests requests⟩,
    fun s t share h => (step_lawful h).share share, fun d => queue_bounded⟩

/-- Settles O59: `step_lawful` and `step_issued`; the seven laws of launched probes are carried together, as `ProbeLaws`. -/
theorem everyStepKeepsDeviceLaws : Obligations.EveryStepKeepsDeviceLaws := by
  unfold Obligations.EveryStepKeepsDeviceLaws
  refine ⟨fun s t start faulted h => ⟨(step_lawful h).start start, (step_lawful h).faulted start faulted⟩,
    fun s t summary h => (step_lawful h).summary summary, fun s t issued h => step_issued h issued,
    fun s t bus h => (step_lawful h).bus bus, fun s t start probe context owner tone point stuck verdict h => ?_,
    fun s t area h => (step_lawful h).area area⟩
  exact (probeLaws_iff t.dev).1 ((step_lawful h).probes start
    ((probeLaws_iff s.dev).2 ⟨probe, context, owner, tone, point, stuck, verdict⟩))

/-- The state after a cold reset is cleared of all the laws speak of. -/
theorem reset_cleared : Cleared State.reset.dev where
  records := by simp [State.reset, Device.cold, ProbeTable.cold]
  contexts := by simp [State.reset, Device.cold, Launch.cold]
  stuck := rfl
  commands := by simp [State.reset, Device.cold, Launch.cold, BusCommand.context?]
  writes := rfl
  lead := rfl
  hold := rfl
  requests := rfl
  queue := rfl
  taps := rfl
  state := ⟨nofun, nofun⟩
  slots := by simp [State.reset, Device.cold, Slot.cold]
  areas := rfl

/-- Settles O60: a cleared device meets every law. -/
theorem resetMeetsLaws : Obligations.ResetMeetsLaws := by
  have cleared := reset_cleared
  obtain ⟨credit, lent⟩ := cleared.credit
  obtain ⟨peer, reserve, held⟩ := cleared.admission
  obtain ⟨probe, context, owner, tone, point, stuck, verdict⟩ := (probeLaws_iff _).1 cleared.probes
  exact ⟨Memory.wf_reset, credit, lent, Nat.zero_le _, Nat.zero_le _, cleared.start, cleared.faulted, cleared.share, held, peer,
    reserve, cleared.summary, rfl, cleared.busLaw, probe, context, owner, tone, point, stuck, verdict, cleared.area⟩

end Sys2Proof.Machine.StepLaws

/-! ## Completions and accesses

What a completion that counts leaves, and what is in flight once an access has been issued. -/

namespace Sys2Proof.Machine.Completions

theorem awaited_selected {d : Device} {a : Access} {sel : AccessKind → Bool} (h : awaited d a sel) : sel a.kind = true := by
  have found := List.find?_some h.1
  simp only [Bool.and_eq_true] at found
  exact found.2

theorem complete_awaited {a : Access} {sel : AccessKind → Bool} {s : State} (h : awaited s.dev a sel) (ok : Bool)
    (act : AccessKind → Device → Device) : complete a.tag sel ok act s = { s with
      board := landed s.board a ok
      dev := settle (if ok then act a.kind (dropAccess s.dev a.tag) else failAccess a.kind (dropAccess s.dev a.tag)) } := by
  unfold complete
  rw [h.1]
  dsimp only [completed]
  rw [h.2]
  rfl

theorem complete_landed {a : Access} {sel : AccessKind → Bool} {s : State} (h : awaited s.dev a sel)
    (act : AccessKind → Device → Device) : complete a.tag sel true act s =
      { s with board := landed s.board a true, dev := settle (act a.kind (dropAccess s.dev a.tag)) } :=
  complete_awaited h true act

theorem complete_failed {a : Access} {sel : AccessKind → Bool} {s : State} (h : awaited s.dev a sel)
    (act : AccessKind → Device → Device) : complete a.tag sel false act s =
      { s with dev := settle (failAccess a.kind (dropAccess s.dev a.tag)) } :=
  complete_awaited h false act

theorem inFlight_issue {k : AccessKind} {a l : Nat} {b : List Byte} {o : Bool} {d : Device} (can : canAccess d = true)
    (within : inWindow d.iface.bounds a l = true) : inFlight (issue k a l b o d) a l k := by
  rw [issue_inWindow _ _ _ _ _ _ can within]
  exact ⟨_, List.mem_append_right _ (List.mem_singleton.2 rfl), rfl, rfl, rfl, rfl⟩

theorem writing_issue {k : AccessKind} {a : Nat} {b : List Byte} {o : Bool} {d : Device} (can : canAccess d = true)
    (within : inWindow d.iface.bounds a b.length = true) : writing (issue k a b.length b o d) a b k := by
  rw [issue_inWindow _ _ _ _ _ _ can within]
  exact ⟨_, List.mem_append_right _ (List.mem_singleton.2 rfl), rfl, rfl, rfl, rfl, rfl⟩

theorem refused_issue {k : AccessKind} {a l : Nat} {b : List Byte} {o : Bool} {d : Device} (can : canAccess d = true)
    (outside : inWindow d.iface.bounds a l = false) : ∃ x ∈ (issue k a l b o d).dma.refused, x.kind = k ∧ x.addr = a ∧ x.len = l ∧
      x.data = b := by
  rw [issue_refused _ _ _ _ _ _ can outside]
  exact ⟨_, List.mem_append_right _ (List.mem_singleton.2 rfl), rfl, rfl, rfl, rfl⟩

/-- An access in flight stays in flight while others begin. -/
theorem inFlight_after {q : AccessKind → Bool} {d e : Device} {a l : Nat} {k : AccessKind} (h : inFlight d a l k) (g : Adds q d e) :
    inFlight e a l k := by
  obtain ⟨x, mem, is⟩ := h
  obtain ⟨xs, more, -⟩ := g.inFlight
  exact ⟨x, by rw [more]; exact List.mem_append_left _ mem, is⟩

theorem writing_after {q : AccessKind → Bool} {d e : Device} {a : Nat} {b : List Byte} {k : AccessKind} (h : writing d a b k)
    (g : Adds q d e) : writing e a b k := by
  obtain ⟨x, mem, is⟩ := h
  obtain ⟨xs, more, -⟩ := g.inFlight
  exact ⟨x, by rw [more]; exact List.mem_append_left _ mem, is⟩

theorem canAccess_of_running {d : Device} (h : d.iface.state = .running) : canAccess d = true := by simp [canAccess, h]

/-! ### The journal writer's counters -/

/-- The journal after the list is served, or a request dropped: no more changes than the list, the overflow count and its notice. -/
structure SameJournal (d e : Device) : Prop where
  ring : e.journal.ring = d.journal.ring
  usable : e.journal.usable = d.journal.usable
  produced : e.journal.produced = d.journal.produced
  consumed : e.journal.consumed = d.journal.consumed
  memory : e.journal.memory = d.journal.memory
  readPending : e.journal.readPending = d.journal.readPending

theorem SameJournal.of_eq {d e : Device} (h : e.journal = d.journal) : SameJournal d e := by
  constructor <;> rw [h]

theorem SameJournal.trans {d e f : Device} (h : SameJournal d e) (k : SameJournal e f) : SameJournal d f :=
  ⟨k.ring.trans h.ring, k.usable.trans h.usable, k.produced.trans h.produced, k.consumed.trans h.consumed,
    k.memory.trans h.memory, k.readPending.trans h.readPending⟩

theorem journalOverflow_journal (d : Device) : SameJournal d (journalOverflow d) := by
  unfold journalOverflow
  dsimp only
  split
  all_goals constructor <;> simp

theorem serveJournalSteps_journal (n : Nat) (d : Device) : SameJournal d (serveJournalSteps n d) := by
  induction n generalizing d with
  | zero => exact .of_eq rfl
  | succ n ih =>
    unfold serveJournalSteps
    split
    · rename_i r e rest _ _
      have popped : SameJournal d { d with journal := { d.journal with requests := rest } } := by constructor <;> rfl
      split
      · exact .of_eq rfl
      · split
        · exact popped.trans (.of_eq (by simp [writeJournal]))
        · exact (popped.trans (journalOverflow_journal _)).trans (ih _)
    · exact .of_eq rfl

theorem serveJournal_journal (d : Device) : SameJournal d (serveJournal d) := by
  unfold serveJournal
  split
  · exact serveJournalSteps_journal _ d
  · exact .of_eq rfl

/-! ### Commands put on the bus -/

theorem sendAll_behind (cs : List BusCommand) {d : Device} (busy : d.launch.sending.isSome) :
    cs.foldl (fun d c => sendCommand c d) d = { d with launch := { d.launch with waiting := d.launch.waiting ++ cs } } := by
  induction cs generalizing d with
  | nil => simp
  | cons c cs ih =>
    have sent : sendCommand c d = { d with launch := { d.launch with waiting := d.launch.waiting ++ [c] } } := by
      obtain ⟨b, hb⟩ := Option.isSome_iff_exists.1 busy
      rw [sendCommand, hb]
    rw [List.foldl_cons, ih (d := sendCommand c d) (by rw [sent]; exact busy), sent]
    simp

theorem sendAll_idle (c : BusCommand) (cs : List BusCommand) {d : Device} (idle : d.launch.sending = none) :
    (c :: cs).foldl (fun d c => sendCommand c d) d =
      { d with launch := { d.launch with sending := some c, waiting := d.launch.waiting ++ cs } } := by
  have sent : sendCommand c d = { d with launch := { d.launch with sending := some c } } := by
    rw [sendCommand, idle]
  rw [List.foldl_cons, sent, sendAll_behind cs rfl]

end Sys2Proof.Machine.Completions

/-! ## The step, the register window and the timers (O1, O2, O4, O5, O8 to O12, O17, O29, O33, O50, O54) -/

namespace Sys2Proof.Machine.RegisterCommands

open Completions

/-- Settles O1. -/
theorem stepRunsFrontCommand : Obligations.StepRunsFrontCommand := fun _ _ => rfl

/-- Settles O2: every command answers a next state. -/
theorem stepAlwaysAnswers : Obligations.StepAlwaysAnswers := by
  unfold Obligations.StepAlwaysAnswers
  refine fun s => ⟨?_, fun none_waits => by
    simp only [step, none_waits, idle]⟩
  unfold step
  split
  · exact ⟨_, rfl⟩
  · rename_i c rest _
    cases c <;> exact ⟨_, rfl⟩

/-! ### Resets -/

/-- Settles O4: the reset state is written out in `Device.cold`. -/
theorem coldReset : Obligations.ColdReset := by
  unfold Obligations.ColdReset
  refine fun s => ⟨Machine.coldReset s.dev, rfl, rfl, rfl, rfl, rfl, ?_⟩
  simp [Machine.coldReset, Device.cold, Slot.cold, SlotSchedule.cold, circuitEntry, CircuitEntry.fresh, Window.cold, Rounds.cold, ProbeTable.cold,
    Launch.cold, Context.cold, TapArray.cold, LeadLink.cold, Peer.cold, FollowerLink.cold, Area.cold, Classifier.cold,
    Journal.cold, discardAll, discardWhere, Sparse.get]

theorem resetPoints_eq (l : Launch) : resetPoints l =
    ((List.finRange 8).filter (fun c => l.contexts[c].state != .idle)).map (fun c => l.contexts[c].point) ++
      l.stuck.map (·.point) := by
  have listed : l.contexts.toList = (List.finRange 8).map (fun c => l.contexts[c]) :=
    List.ext_getElem (by simp) (fun i _ _ => by simp)
  rw [resetPoints, listed, List.filter_map, List.map_map]
  rfl

/-- The STOPs of a board reset follow the command being sent; with none they begin at once (R71). -/
theorem resetLaunch_eq (d : Device) (stops : List BusCommand)
    (h : stops = (resetPoints d.launch).map (fun p => .stop p none)) : resetLaunch d =
      { d with launch := match d.launch.sending with
        | some c => ⟨Vector.replicate 8 Context.cold, some c.orphan, stops, [], []⟩
        | none => ⟨Vector.replicate 8 Context.cold, stops.head?, stops.tail, [], []⟩ } := by
  have sends : resetLaunch d = stops.foldl (fun d c => sendCommand c d)
      { d with launch := ⟨Vector.replicate 8 Context.cold, d.launch.sending.map BusCommand.orphan, [], [], []⟩ } := by
    rw [h, List.foldl_map]
    rfl
  rw [sends]
  cases hs : d.launch.sending with
  | some c => exact sendAll_behind stops rfl
  | none =>
    cases stops with
    | nil => rfl
    | cons c cs => exact sendAll_idle c cs rfl

/-- Settles O5: the board reset beside its STOPs, which `resetLaunch_eq` gives. -/
theorem boardReset : Obligations.BoardReset := by
  unfold Obligations.BoardReset
  refine fun run s => ⟨Machine.boardReset s.dev, rfl, ?_⟩
  have launch := resetLaunch_eq s.dev _ rfl
  rw [resetPoints_eq] at launch
  rcases sending : s.dev.launch.sending with _ | c
  all_goals
    simp [Machine.boardReset, launch, sending, Slot.atBoardReset, Slot.cold, SlotSchedule.cold, circuitEntry, CircuitEntry.fresh,
      Window.cold, Rounds.cold, ProbeTable.cold, Context.cold, TapArray.cold, LeadLink.cold, Peer.cold, FollowerLink.cold,
      Area.cold, Classifier.cold, Journal.atBoardReset, Journal.cold, discardAll, discardWhere, Sparse.get]
    exact fun n => mapVec_get _ _ n

/-! ### Registers -/

/-- Settles O8. -/
theorem nudge : Obligations.Nudge := by
  unfold Obligations.Nudge
  refine fun v s => ⟨fun running idle => ⟨fun busy => ?_, fun free => ?_⟩, fun off => ?_⟩
  · show Host.Outcome.next { s with dev := Machine.nudge s.dev } = _
    simp [Machine.nudge, Device.running, running, idle, requestScan, busy]
  · refine ⟨issueScan s.dev, ?_, by simp [issueScan], fun within => inFlight_issue (canAccess_of_running running) within,
      fun outside => ?_⟩
    · show Host.Outcome.next { s with dev := Machine.nudge s.dev } = _
      simp [Machine.nudge, Device.running, running, idle, requestScan, free]
    · obtain ⟨a, mem, kind, addr, len, -⟩ := refused_issue (k := .scanRead) (b := []) (o := false)
        (canAccess_of_running running) outside
      exact ⟨a, mem, kind, addr, len⟩
  · show Host.Outcome.next { s with dev := Machine.nudge s.dev } = _
    have none_taken : (s.dev.running && s.dev.iface.start.isNone) = false := by
      rcases off with off | off
      · simp [Device.running, off]
      · simp [off]
    simp [Machine.nudge, none_taken]

/-- Settles O9. -/
theorem windowSizeWrite : Obligations.WindowSizeWrite := by
  unfold Obligations.WindowSizeWrite
  refine fun v s => ⟨storedSize v, rfl, ?_⟩
  have bound := v.isLt
  rw [storedSize, BitVec.toNat_ofNat, clampNat]
  omega

/-- The line is raised by a cause set and not masked (R178). -/
theorem irqLine_iff (d : Device) : irqLine d = true ↔ ∃ i, i < 5 ∧ d.regs.irqCause.getLsbD i = true ∧
    d.regs.irqMask.getLsbD i = true := by
  rw [irqLine, bne_iff_ne, ne_eq, ← not_iff_not, not_not]
  constructor
  · rintro zero ⟨i, -, cause, mask⟩
    have bit := congrArg (fun x => x.getLsbD i) zero
    simp [cause, mask] at bit
  · intro none_set
    refine BitVec.eq_of_getLsbD_eq (fun i hi => ?_)
    rw [BitVec.getLsbD_and, BitVec.getLsbD_zero, Bool.eq_false_iff]
    intro set
    exact none_set ⟨i, hi, by simpa using set⟩

/-- Settles O10. -/
theorem interruptRegisterWrites : Obligations.InterruptRegisterWrites := by
  unfold Obligations.InterruptRegisterWrites
  refine fun v s => ⟨⟨writeIrqCause v s.dev, rfl, fun i hi => ?_, rfl, rfl, irqLine_iff _, rfl⟩,
    ⟨writeIrqMask v s.dev, rfl, fun i hi => ?_, ?_, rfl⟩⟩
  · simp [writeIrqCause, hi]
  · simp [writeIrqMask, hi]
  · rw [irqLine_iff]
    refine exists_congr (fun i => and_congr_right (fun hi => ?_))
    simp [writeIrqMask, hi]

theorem clear_low (v : Word) : v &&& 0xFFFFF000#32 = BitVec.ofNat 32 (v.toNat / 4096 * 4096) := by
  have mask : ∀ i : Fin 32, (0xFFFFF000#32).getLsbD i = decide (12 ≤ i.val) := by decide
  have shifted : v &&& 0xFFFFF000#32 = (v >>> 12) <<< 12 := by
    refine BitVec.eq_of_getLsbD_eq (fun i hi => ?_)
    rw [BitVec.getLsbD_and, mask ⟨i, hi⟩, BitVec.getLsbD_shiftLeft, BitVec.getLsbD_ushiftRight]
    rcases Nat.lt_or_ge i 12 with low | high
    · simp [low]
    · simp [hi, Nat.not_lt.2 high, high, Nat.add_sub_cancel' high]
  rw [shifted]
  refine BitVec.eq_of_toNat_eq ?_
  simp [BitVec.toNat_shiftLeft, Nat.shiftLeft_eq, Nat.shiftRight_eq_div_pow]

theorem writeRegister_above {o : Nat} (h : 0x024 ≤ o) (v : Word) (d : Device) : writeRegister o v d = d := by
  unfold writeRegister
  split
  case h_8 => rfl
  all_goals omega

/-- Settles O11. -/
theorem registerWrite : Obligations.RegisterWrite := by
  unfold Obligations.RegisterWrite
  refine fun offset size v s => ⟨?_, ?_, fun none_of => ?_⟩
  · rintro rfl rfl
    rw [← clear_low]
    rfl
  · rintro rfl rfl
    rfl
  · show Host.Outcome.next { s with dev := writeBar offset.toNat size v s.dev } = _
    have same : writeBar offset.toNat size v s.dev = s.dev := by
      unfold writeBar
      split
      · rename_i word
        rcases none_of with rfl | rfl | above | narrow | unaligned
        · rfl
        · rfl
        · exact writeRegister_above above v s.dev
        · omega
        · exact absurd word.2 unaligned
      · rfl
    rw [same]

/-! ### Reads -/

theorem registerWord_above (d : Device) {o : Nat} (h : 0x024 ≤ o) : registerWord d o = 0#32 := by
  unfold registerWord
  split
  case h_9 => rfl
  all_goals omega

theorem bit_le (b : Bool) : bit b ≤ 1 := by cases b <;> decide

theorem bit_eq_one (b : Bool) : bit b = 1 ↔ b = true := by cases b <;> decide

/-- The fields of STATUS, each in its own bits. -/
theorem statusWord_toNat (d : Device) : (statusWord d).toNat = d.iface.state.code + 4 * bit d.iface.start.isSome +
    16 * d.iface.reason.code + 256 * modeCode d.iface.mode + 1024 * leadStateCode d ∧ d.iface.state.code < 4 ∧
    d.iface.reason.code < 16 ∧ modeCode d.iface.mode < 4 ∧ leadStateCode d < 3 := by
  have state : d.iface.state.code < 4 := by cases d.iface.state <;> decide
  have reason : d.iface.reason.code < 16 := by cases d.iface.reason <;> decide
  have mode : modeCode d.iface.mode < 4 := by
    unfold modeCode
    split <;> decide
  have lead : leadStateCode d < 3 := by
    unfold leadStateCode
    split <;> decide
  have started := bit_le d.iface.start.isSome
  refine ⟨?_, state, reason, mode, lead⟩
  rw [statusWord, BitVec.toNat_ofNat]
  omega

theorem leadStateCode_eq (d : Device) : leadStateCode d = if d.iface.mode ≠ some .follow then 0
    else if d.rounds.leadState = .following then 1 else 2 := by
  unfold leadStateCode
  cases d.iface.mode with
  | none => simp
  | some m => cases m <;> cases d.rounds.leadState <;> simp

theorem barByte_toNat (d : Device) {o : Nat} (aligned : o % 4 = 0) (i : Fin 4) :
    (barByte d (o + i.val)).toNat = (registerWord d o).toNat / 256 ^ i.val % 256 := by
  have register : (o + i.val) / 4 * 4 = o := by omega
  have byte : (o + i.val) % 4 = i.val := by omega
  rw [barByte, register, byte, BitVec.extractLsb'_toNat, Nat.shiftRight_eq_div_pow, Nat.pow_mul]

/-- Settles O12. -/
theorem barReads : Obligations.BarReads := by
  unfold Obligations.BarReads
  intro d
  obtain ⟨status, state, reason, mode, lead⟩ := statusWord_toNat d
  have started := bit_le d.iface.start.isSome
  refine ⟨by simp [barRead, List.range, List.range.loop, barByte, registerWord, Config.idValue], fun o above => ?_, ?_, by omega, ?_, by omega, by omega, ?_, by omega, rfl, rfl, rfl, rfl, rfl, ?_, ?_,
    fun o i aligned => barByte_toNat d aligned i⟩
  · rw [barByte, registerWord_above d (by omega)]
    simp
  · have run := bit_le d.regs.run
    show (BitVec.ofNat 32 (bit d.regs.run)).toNat = _
    rw [BitVec.toNat_ofNat]
    omega
  · rw [← bit_eq_one]
    omega
  · rw [← leadStateCode_eq]
    omega
  · show (d.regs.irqCause.setWidth 32).toNat = _
    have := d.regs.irqCause.isLt
    rw [BitVec.toNat_setWidth]
    omega
  · show (d.regs.irqMask.setWidth 32).toNat = _
    have := d.regs.irqMask.isLt
    rw [BitVec.toNat_setWidth]
    omega

/-! ### Timers and completions -/

/-- Settles O17. -/
theorem scanTimerExpiry : Obligations.ScanTimerExpiry := by
  unfold Obligations.ScanTimerExpiry
  intro t s timer running within
  refine ⟨scanTimerExpired t (s.dev.advance t), ?_, ?_⟩
  · show Host.Outcome.next { s with dev := settleAt s.dev.iface.scanTimer scanTimerExpired s.dev } = _
    rw [timer]
    rfl
  · generalize hd : { s.dev.advance t with iface := { s.dev.iface with scanTimer := some (t + 100) } } = d
    have expired : scanTimerExpired t (s.dev.advance t) = requestScan d := by rw [← hd]; rfl
    have same : live d isScanRead = live s.dev isScanRead := by rw [← hd]; rfl
    rw [expired, requestScan]
    cases busy : live s.dev isScanRead with
    | true =>
      rw [same, busy, if_pos rfl, ← hd]
      exact ⟨rfl, rfl, rfl, fun _ => ⟨rfl, rfl⟩, nofun⟩
    | false =>
      have can : canAccess d = true := canAccess_of_running (by rw [← hd]; exact running)
      have issued : inFlight (issueScan d) (boardAddr s.dev 0x100) 112 .scanRead := by
        have place : boardAddr d 0x100 = boardAddr s.dev 0x100 := by rw [← hd]; rfl
        have bounds : d.iface.bounds = s.dev.iface.bounds := by rw [← hd]
        rw [← place] at within ⊢
        exact inFlight_issue can (by rw [bounds]; exact within)
      rw [same, busy, if_neg (by simp)]
      refine ⟨?_, ?_, ?_, nofun, fun _ => ⟨?_, issued⟩⟩
      · simp [issueScan, ← hd]
      · simp [issueScan, ← hd]
      · simp [issueScan, ← hd]
      · simp [issueScan, ← hd]

/-- Settles O29: the served list leaves the count cached and the read in flight. -/
theorem consumedReadDone : Obligations.ConsumedReadDone := by
  unfold Obligations.ConsumedReadDone
  intro a b s h
  refine ⟨consumedTaken (word b 0) (dropAccess s.dev a.tag), congrArg Host.Outcome.next (complete_landed h _), ?_⟩
  unfold consumedTaken
  dsimp only
  generalize cached : { dropAccess s.dev a.tag with
    journal := { (dropAccess s.dev a.tag).journal with consumed := word b 0, readPending := false } } = d
  have place : boardAddr d 0x18 = boardAddr s.dev 0x18 := by rw [← cached]; rfl
  have bounds : d.iface.bounds = s.dev.iface.bounds := by rw [← cached]; rfl
  have lives : live d isConsumedRead = live (dropAccess s.dev a.tag) isConsumedRead := by rw [← cached]; rfl
  have counts : d.journal.consumed = word b 0 ∧ d.journal.produced = s.dev.journal.produced ∧ d.journal.readPending = false := by
    rw [← cached]
    exact ⟨rfl, rfl, rfl⟩
  have served : ∀ e : Device, e.journal = d.journal → (serveJournal e).journal.consumed = word b 0 ∧
      (serveJournal e).journal.produced = s.dev.journal.produced ∧ (serveJournal e).journal.readPending = false := by
    intro e same
    obtain ⟨-, -, produced, consumed, -, pending⟩ := serveJournal_journal e
    rw [produced, consumed, pending, same]
    exact counts
  by_cases pending : ((dropAccess s.dev a.tag).journal.readPending && (dropAccess s.dev a.tag).running) = true
  · rw [if_pos pending]
    have both : s.dev.journal.readPending = true ∧ s.dev.running = true := (Bool.and_eq_true _ _).mp pending
    obtain ⟨consumed, produced, read⟩ := served (issueRead .consumedRead (boardAddr d 0x18) 4 d) (by simp)
    refine ⟨consumed, produced, read, fun _ running within => ?_, fun off => ?_⟩
    · have can : canAccess d = true := canAccess_of_running (by rw [← cached]; exact beq_iff_eq.1 running)
      rw [place]
      exact inFlight_after (inFlight_issue can (by rw [bounds]; exact within))
        (serveJournal_adds (q := isConsumedRead) (fun _ _ => rfl) rfl _)
    · rcases off with off | off
      · rw [both.1] at off; cases off
      · rw [both.2] at off; cases off
  · rw [if_neg pending]
    obtain ⟨consumed, produced, read⟩ := served d rfl
    refine ⟨consumed, produced, read, fun read running => absurd ?_ pending, fun _ => ?_⟩
    · rw [Bool.and_eq_true]
      exact ⟨read, running⟩
    · rw [← lives]
      exact (serveJournal_adds (q := isConsumedRead) (fun _ _ => rfl) rfl d).live_eq

/-- Settles O33. -/
theorem commandSent : Obligations.CommandSent := by
  unfold Obligations.CommandSent
  refine fun s => ⟨fun idle => ?_, fun c sending => ⟨commandDone s.dev, rfl, ?_⟩⟩
  · show Host.Outcome.next { s with dev := commandDone s.dev } = _
    rw [commandDone, idle]
  · obtain ⟨l, frame, stuck, -⟩ := StepLaws.commandDone_frame s.dev
    have next : (commandDone s.dev).launch.sending = s.dev.launch.waiting.head? ∧
        (commandDone s.dev).launch.waiting = s.dev.launch.waiting.tail ∧
        (commandDone s.dev).launch.contexts = (startReplyTimer c s.dev).launch.contexts := by
      obtain ⟨-, waiting, -⟩ := startReplyTimer_bus c s.dev
      unfold commandDone
      rw [sending]
      dsimp only
      split
      · rename_i empty
        rw [← waiting, empty]
        exact ⟨rfl, rfl, rfl⟩
      · rename_i listed
        rw [← waiting, listed]
        exact ⟨rfl, rfl, rfl⟩
    obtain ⟨first, rest, contexts⟩ := next
    refine ⟨by rw [frame], first, rest, by rw [frame]; exact stuck, fun x => ?_⟩
    rw [contexts, startReplyTimer_contexts]
    exact ⟨fun awaits => by rw [if_pos awaits]; rfl, fun other => by rw [other]; rfl⟩

/-! ### The framer -/

theorem leading_of_following {d : Device} (h : d.following = true) : d.leading = false := by
  simp only [Device.following, Bool.and_eq_true, beq_iff_eq] at h
  simp [Device.leading, h.2]

theorem handOver_following {d : Device} (following : d.following = true) (state : d.rounds.leadState = .following) :
    handOver d = followerHandOver d := by
  simp [handOver, leading_of_following following, following, state]

theorem availableCredit_none {f : FollowerLink} (h : f.grant = none) : availableCredit f = 0 := by
  rw [availableCredit, h]

/-- Settles O50. -/
theorem framerReady : Obligations.FramerReady := by
  unfold Obligations.FramerReady
  refine fun s => ⟨fun f rest leading front => ?_, fun st following state hello => ?_,
    fun x rest g following state hello held grant => ⟨fun some_left few => ?_, fun none_left => ?_⟩, fun none_due => ?_⟩
  all_goals show Host.Outcome.next { s with dev := handOver s.dev } = _
  · simp [handOver, leading, leadHandOver, front]
  · simp [handOver_following following state, followerHandOver, hello]
  · have credit : 0 < availableCredit s.dev.follower := by
      rw [availableCredit, grant]
      dsimp only
      rw [if_pos few]
      omega
    simp [handOver_following following state, followerHandOver, hello, held, credit]
  · have credit : availableCredit s.dev.follower = 0 := by
      rw [availableCredit, grant]
      dsimp only
      split <;> omega
    simp [handOver_following following state, followerHandOver, hello, held, credit]
  · have same : handOver s.dev = s.dev := by
      rcases none_due with off | ⟨leading, empty⟩ | ⟨following, lost | ⟨hello, held | grant⟩⟩
      · simp [handOver, Device.leading, Device.following, Device.running, off]
      · simp [handOver, leading, leadHandOver, empty]
      · simp [handOver, leading_of_following following, lost]
      · simp [handOver, leading_of_following following, followerHandOver, hello, held]
      · simp only [handOver, leading_of_following following, followerHandOver, hello, availableCredit_none grant]
        split
        · contradiction
        · split
          · split <;> rfl
          · rfl
    rw [same]

/-! ### Area sweeps -/

/-- Settles O54. -/
theorem sweepStep : Obligations.SweepStep := by
  unfold Obligations.SweepStep
  refine fun n s => ⟨fun none_swept => ?_, fun k sweeps early => ?_, fun k sweeps last => ⟨sweepArea n s.dev, rfl, ?_⟩⟩
  · show Host.Outcome.next { s with dev := settle (sweepArea n s.dev) } = _
    rw [sweepArea, none_swept]
  · show Host.Outcome.next { s with dev := settle (sweepArea n s.dev) } = _
    rw [sweepArea, sweeps]
    dsimp only
    rw [if_pos early]
  · have swept : sweepArea n s.dev = (fun d1 => if d1.slots[n].state = .sweeping then moveSlot n .free d1 else d1)
        (s.dev.setArea n ⟨Sparse.erase s.dev.areas[n].entries k, 0#64, none⟩) := by
      rw [sweepArea, sweeps]
      dsimp only
      rw [if_neg (Nat.not_lt.2 last)]
    generalize hd : s.dev.setArea n ⟨Sparse.erase s.dev.areas[n].entries k, 0#64, none⟩ = d at swept
    have area : ∀ m : Fin 8, d.areas[m] = if m = n then ⟨Sparse.erase s.dev.areas[n].entries k, 0#64, none⟩ else s.dev.areas[m] :=
      fun m => by rw [← hd, Device.setArea_areas_get]
    have slots : d.slots = s.dev.slots := by rw [← hd]; simp
    have start : Adds (ofChannel (.shadow n)) s.dev d := .of_eq (by rw [← hd]; simp) (by rw [← hd]; simp)
    by_cases sweeping : s.dev.slots[n].state = .sweeping
    · have result : sweepArea n s.dev = moveSlot n .free d := by
        rw [swept]
        exact if_pos (by rw [slots]; exact sweeping)
      obtain ⟨shown, announced, moved⟩ := moveSlot_slots n n .free d
      rw [if_pos rfl] at moved
      have due : shadowDue s.dev (moveSlot n .free d) n False := (owe_setSlot_due n _ d False).before start
      have areas : (moveSlot n .free d).areas = d.areas := by simp [moveSlot]
      rw [result, areas, moved, area n, if_pos rfl, if_pos sweeping, ← slots]
      exact ⟨rfl, rfl, rfl, rfl, fun _ => due, rfl, fun m hm => ⟨by rw [area, if_neg hm], owe_setSlot_slots n m _ d hm⟩⟩
    · have result : sweepArea n s.dev = d := by
        rw [swept]
        exact if_neg (by rw [slots]; exact sweeping)
      rw [result, area n, if_pos rfl, if_neg sweeping, slots]
      exact ⟨rfl, rfl, rfl, rfl, fun h => absurd h sweeping, rfl, fun m hm => ⟨by rw [area, if_neg hm], rfl⟩⟩

end Sys2Proof.Machine.RegisterCommands

/-! ## Voids, halts and drains

What a void leaves of the probe table, what a halt and the entry to FAULTED do to every block, and a slot's entry to DRAINING. -/

namespace Sys2Proof.Machine.Halts
open Completions

/-! ### Voids -/

/-- What a void of the probes that pass a test leaves of a record: an EVALUATING probe stays (R35). -/
def spared (sel : Probe → Bool) (x : Option Probe) : Option Probe := x.filter (fun p => !sel p || p.state == .evaluating)

theorem spared_eq_some (sel : Probe → Bool) (x : Option Probe) (p : Probe) :
    spared sel x = some p ↔ x = some p ∧ (sel p = true → p.state = .evaluating) := by
  cases h : sel p <;> simp [spared, Option.filter_eq_some_iff, h]

theorem spared_gone {sel : Probe → Bool} {p : Probe} (h : sel p = true) (launched : p.state ≠ .evaluating) :
    spared sel (some p) = none := by simp [spared, h, launched]

theorem spared_stays {sel : Probe → Bool} {p : Probe} (h : sel p = true → p.state = .evaluating) :
    spared sel (some p) = some p := (spared_eq_some sel _ p).2 ⟨rfl, h⟩

theorem voidProbe_records {r : Fin 16} {p : Probe} {d : Device} (h : d.probes.records[r] = some p) (launched : p.state ≠ .evaluating)
    (q : Fin 16) : (voidProbe r d).probes.records[q] = if q = r then none else d.probes.records[q] := by
  unfold voidProbe
  rw [h]
  dsimp only
  rw [if_neg launched, freeRecord_records]
  split
  · rfl
  · unfold voidTone
    have kept : ∀ e : Device, (requeue p.slot p.circuit (releaseOwner p.ctx r e)).probes = e.probes := fun e => by
      unfold requeue
      dsimp only
      split <;> simp [setCircuit]
    rw [kept]
    split <;> simp

theorem voidIf_records (sel : Probe → Bool) (d : Device) (r q : Fin 16) :
    (voidIf sel d r).probes.records[q] = if q = r then spared sel d.probes.records[q] else d.probes.records[q] := by
  unfold voidIf
  split
  case h_1 p hp =>
    by_cases gone : sel p = true ∧ p.state ≠ .evaluating
    · obtain ⟨passes, launched⟩ := gone
      rw [if_pos passes, voidProbe_records hp launched]
      split
      · next e => rw [e, hp, spared_gone passes launched]
      · rfl
    · have stays : spared sel (some p) = some p := spared_stays (fun passes => by simpa [passes] using gone)
      have same : (if sel p = true then voidProbe r d else d) = d := by
        split
        · next passes =>
          have evaluating : p.state = .evaluating := by simpa [passes] using gone
          simp [voidProbe, hp, evaluating]
        · rfl
      rw [same]
      split
      · next e => rw [e, hp, stays]
      · rfl
  case h_2 hp =>
    split
    · next e => rw [e, hp]; rfl
    · rfl

theorem voids_records (sel : Probe → Bool) (xs : List (Fin 16)) (nodup : xs.Nodup) (d : Device) (q : Fin 16) :
    (xs.foldl (voidIf sel) d).probes.records[q] = if q ∈ xs then spared sel d.probes.records[q] else d.probes.records[q] := by
  induction xs generalizing d with
  | nil => simp
  | cons x xs ih =>
    obtain ⟨fresh, nodup⟩ := List.nodup_cons.1 nodup
    rw [List.foldl_cons, ih nodup, voidIf_records]
    by_cases e : q = x
    · subst e; simp [fresh]
    · simp [e]

theorem voidProbes_records (sel : Probe → Bool) (d : Device) (q : Fin 16) :
    (voidProbes sel d).probes.records[q] = spared sel d.probes.records[q] := by
  rw [voidProbes, (requestStops_keeps _ _).2.2.2.2.2.2.2.2.2.1, voids_records sel _ (List.nodup_finRange 16)]
  simp

/-! ### A halt -/

theorem haltBlocks_rounds (d : Device) : (haltBlocks d).rounds =
    { d.rounds with watchAt := none, nextAt := none, awaitFirst := false, phase := .closed } := by
  simp [haltBlocks, emptyQueue, stopRounds]

theorem haltBlocks_lead (d : Device) : (haltBlocks d).lead =
    { d.lead with pool := 64, transmit := [], peers := mapVec (fun _ (x : Peer) => x.atHalt) d.lead.peers } := by
  simp [haltBlocks, emptyQueue, stopLink, Config.creditPool]

theorem haltBlocks_follower (d : Device) : (haltBlocks d).follower =
    { d.follower with hold := [], grant := none, hello := none, leadLostAt := none } := by
  simp [haltBlocks, emptyQueue, stopLink]

theorem haltBlocks_taps (d : Device) : (haltBlocks d).taps = { d.taps with
    detectors := Vector.replicate 4 .idle, plan := [], watched := [], sweepFirst := none, sweepOver := false
    localWatches := [], heldWatches := [] } := by
  simp [haltBlocks, emptyQueue, stopDetectors, dropPlan]

theorem haltBlocks_queue (d : Device) : (haltBlocks d).classifier.queue = [] := rfl

theorem haltBlocks_evaluating {d : Device} {r : Fin 16} {p : Probe} (h : (haltBlocks d).probes.records[r] = some p) :
    p.state = .evaluating := by
  have same : (haltBlocks d).probes = (voidProbes (fun _ => true) d).probes := by simp [haltBlocks, emptyQueue]
  rw [same, voidProbes_records] at h
  exact ((spared_eq_some _ _ _).1 h).2 rfl

theorem haltBlocks_stops (d : Device) : stopsIssued d (haltBlocks d) (sounding d (fun _ => True)) := by
  have same : (haltBlocks d).launch = (voidProbes (fun _ => true) d).launch := by simp [haltBlocks, emptyQueue]
  exact (voidProbes_stops (fun _ => true) d).sandwich (.of_eq rfl) (.of_eq same) (fun c => by simp [sounding])

/-- A halt owes a lead's peers the status writes of those it changes (R105, R115). -/
theorem haltBlocks_peer {d : Device} {p : Fin 16} (lead : d.iface.mode = some .lead)
    (changed : peerStatusBytes (haltBlocks d).lead.peers[p] ≠ peerStatusBytes d.lead.peers[p]) : peerDue d (haltBlocks d) p False := by
  generalize he : { stopRounds (voidProbes (fun _ => true) d) with
    lead := { d.lead with pool := 64, transmit := [], peers := mapVec (fun _ (x : Peer) => x.atHalt) d.lead.peers }
    follower := { d.follower with hold := [], grant := none, hello := none, leadLostAt := none } } = e
  have halted : haltBlocks d = emptyQueue (stopDetectors (owePeers d.lead.peers e)) := by
    rw [← he]; simp [haltBlocks, stopLink, Config.creditPool]
  have iface : e.iface = d.iface := by rw [← he]; simp
  have dma : e.dma = d.dma := by rw [← he]; simp
  have peers : (haltBlocks d).lead.peers = e.lead.peers := by rw [haltBlocks_lead, ← he]
  have due := (owePeers_due d.lead.peers e).2.2 p (by rw [iface]; exact lead) (by rw [← peers]; exact changed.symm)
  refine (due.before (.of_eq iface dma)).after (.of_eq ?_ ?_) ?_ id
  · rw [halted]; simp [emptyQueue]
  · rw [halted]; simp [emptyQueue]
  · rw [peers, (owePeers_keeps _ _).2.2.2.2.2.2.2.2.2.2.2.2.2.1]

theorem owe_without_access {ch : Channel} {d : Device} (h : canAccess d = false) : owe ch d = d := by
  simp [owe, oweAs, h]

theorem owePeers_without_access {b : Vector Peer 16} {d : Device} (h : canAccess d = false) : owePeers b d = d := by
  have none_owed : ∀ xs : List (Fin 16), xs.foldl (owePeerIfChanged b) d = d := by
    intro xs
    induction xs with
    | nil => rfl
    | cons x xs ih => rw [List.foldl_cons, owePeerIfChanged, owe_without_access h, ite_self, ih]
  unfold owePeers
  rw [none_owed, ite_self]

/-- Where the part may begin no access, a halt leaves the accesses as they are. -/
theorem haltBlocks_dma {d : Device} (h : canAccess d = false) : (haltBlocks d).dma = d.dma := by
  simp only [haltBlocks, emptyQueue, stopLink, stopDetectors_keeps]
  rw [owePeers_without_access]
  · simp
  · simpa [canAccess] using h

/-! ### Entry to FAULTED -/

/-- What the entry to FAULTED for a reason leaves (R5, R7, R11). -/
structure Faulted (reason : FaultReason) (d e : Device) : Prop where
  state : e.iface.state = .faulted
  reason : e.iface.reason = reason
  start : e.iface.start = none
  scanTimer : e.iface.scanTimer = none
  run : e.regs.run = false
  cause : e.regs.irqCause.getLsbD 4 = true
  count : e.dma.inFlight.length = d.dma.inFlight.length
  discarded : ∀ x ∈ e.dma.inFlight, x.discarded = true
  owed : e.dma.owed = []
  requests : e.journal.requests = []
  walks : ∀ w : Fin 4, e.walks[w] = none
  slots : e.slots = d.slots
  windows : e.windows = d.windows
  evaluating : ∀ (r : Fin 16) (p : Probe), e.probes.records[r] = some p → p.state = .evaluating
  stops : stopsIssued d e (sounding d (fun _ => True))

theorem enterFaulted_faults (reason : FaultReason) {d : Device} (h : d.iface.state ≠ .faulted) :
    Faulted reason d (enterFaulted reason d) := by
  unfold enterFaulted
  rw [if_neg h]
  dsimp only
  generalize he : raise .deviceFault (discardAll { d with
    iface := { d.iface with state := .faulted, start := none, reason := reason, scanTimer := none, scanPending := false }
    regs := { d.regs with run := false }
    walks := Vector.replicate 4 none
    journal := { d.journal with requests := [], readPending := false } }) = e
  have iface : (haltBlocks e).iface = e.iface := (haltBlocks_keeps e).2.2.2.1
  have dma : (haltBlocks e).dma = e.dma := haltBlocks_dma (by rw [← he]; rfl)
  have inFlight : e.dma.inFlight = d.dma.inFlight.map (fun a => { a with discarded := true }) := by
    rw [← he]; simp [raise, discardAll, discardWhere]
  refine {
    state := by rw [iface, ← he]; rfl
    reason := by rw [iface, ← he]; rfl
    start := by rw [iface, ← he]; rfl
    scanTimer := by rw [iface, ← he]; rfl
    run := by rw [(haltBlocks_keeps e).2.2.1, ← he]; rfl
    cause := by rw [(haltBlocks_keeps e).2.2.1, ← he]; simp [raise, Cause.mask]
    count := by rw [dma, inFlight, List.length_map]
    discarded := fun x hx => ?_
    owed := by rw [dma, ← he]; rfl
    requests := by rw [(haltBlocks_keeps e).2.2.2.2.2.2.2.2.2.2, ← he]; rfl
    walks := fun w => by rw [(haltBlocks_keeps e).2.2.2.2.2.2.2.2.2.1, ← he]; simp [raise, discardAll, discardWhere]
    slots := by rw [(haltBlocks_keeps e).2.2.2.2.2.1, ← he]; rfl
    windows := by rw [(haltBlocks_keeps e).2.2.2.2.2.2.1, ← he]; rfl
    evaluating := fun r p hp => haltBlocks_evaluating hp
    stops := (haltBlocks_stops e).sandwich (.of_eq (by rw [← he]; rfl)) (.of_eq rfl) (fun c => by rw [← he]; rfl) }
  rw [dma, inFlight] at hx
  obtain ⟨a, -, rfl⟩ := List.mem_map.1 hx
  rfl

end Sys2Proof.Machine.Halts

/-! ## Board structures read back

What stands at each offset of the header, of a slot shadow and of a journal entry (11.1, 11.2.4). -/

namespace Sys2Proof.Machine.BoardBytes
open HopVerdicts

@[simp] theorem length_put32 (n : Nat) : (put32 n).length = 4 := length_putWord _
@[simp] theorem length_producedBytes (j : Journal) : (producedBytes j).length = 8 := by simp [producedBytes]
@[simp] theorem length_offsetBytes (v : Vector (BitVec 6) 4) : (offsetBytes v).length = 4 := by simp [offsetBytes]
@[simp] theorem length_markCounterBytes (r : Rounds) : (markCounterBytes r).length = 8 := by simp [markCounterBytes]
@[simp] theorem length_linkCounterBytes (f : FollowerLink) : (linkCounterBytes f).length = 8 := by simp [linkCounterBytes]
@[simp] theorem length_sightingCounterBytes (c : Classifier) : (sightingCounterBytes c).length = 12 := by
  simp [sightingCounterBytes]

@[simp] theorem length_acknowledgmentBytes (a : Option (Half × Round)) : (acknowledgmentBytes a).length = 8 := by
  cases a <;> simp [acknowledgmentBytes]

@[simp] theorem length_windowStatusBytes (w : Window) : (windowStatusBytes w).length = 8 := by
  simp [windowStatusBytes]

@[simp] theorem length_shadowBytes (st : SlotState) (s : Slot) : (shadowBytes st s).length = 16 := by simp [shadowBytes]

@[simp] theorem length_peerStatusBytes (p : Peer) : (peerStatusBytes p).length = 24 := by simp [peerStatusBytes]

theorem word_put32 (n : Nat) (ys : List Byte) : word (put32 n ++ ys) 0 = BitVec.ofNat 32 n := word_putWord _ _

theorem word_putWord_alone (x : Word) : word (putWord x) 0 = x := by simpa using word_putWord x []

theorem half_putHalf_alone (x : Half) : half (putHalf x) 0 = x := by simpa using half_putHalf x []

theorem word_reserved : word (reserved 4) 0 = 0#32 := rfl

/-! ### A slot shadow (11.1.3) -/

theorem shadowBytes_fields (st : SlotState) (s : Slot) :
    u8 (shadowBytes st s) 0 = st.code ∧ u8 (shadowBytes st s) 1 = s.reason.code ∧ half (shadowBytes st s) 2 = s.generation ∧
    half (shadowBytes st s) 4 = s.lastSeq ∧ u8 (shadowBytes st s) 6 = s.outcome.code ∧ u8 (shadowBytes st s) 7 = 0 ∧
    word (shadowBytes st s) 8 = BitVec.ofNat 32 s.verdicts ∧ word (shadowBytes st s) 0x0C = 0#32 := by
  have state : st.code % 256 = st.code := by cases st <;> rfl
  have reason : s.reason.code % 256 = s.reason.code := by cases s.reason <;> rfl
  have outcome : s.outcome.code % 256 = s.outcome.code := by cases s.outcome <;> rfl
  simp [shadowBytes, u8, byteAt_append_right, half_append_right, word_append_right, byteAt_put8, byteAt_reserved,
    half_putHalf, word_put32, word_reserved, state, reason, outcome]

/-! ### The header (11.1.1) -/

/-- The header's first 44 bytes but for the acknowledgment and the counters. -/
def headerHead (d : Device) (header : List Byte) : List Byte :=
  putWord Config.idValue ++ (List.range 24).map (fun i => byteAt header (4 + i)) ++ producedBytes d.journal ++ offsetBytes d.fuses

@[simp] theorem length_headerHead (d : Device) (header : List Byte) : (headerHead d header).length = 40 := by simp [headerHead]

theorem headerBytes_eq (d : Device) (header : List Byte) : headerBytes d header =
    headerHead d header ++ (acknowledgmentBytes d.rounds.applied ++ (markCounterBytes d.rounds ++
      (linkCounterBytes d.follower ++ sightingCounterBytes d.classifier))) := by
  simp only [headerBytes, headerHead, List.append_assoc]

theorem length_headerBytes (d : Device) (header : List Byte) : (headerBytes d header).length = 76 := by
  simp [headerBytes_eq]

theorem headerBytes_id (d : Device) (header : List Byte) :
    (headerBytes d header).take 4 = [0x00#8, 0x01#8, 0x80#8, 0x04#8] := rfl

theorem headerBytes_kept (d : Device) (header : List Byte) {k : Nat} (h : k < 24) :
    byteAt (headerBytes d header) (4 + k) = byteAt header (4 + k) := by
  rw [headerBytes_eq, headerHead, byteAt_append_left (by simp; omega), byteAt_append_left (by simp; omega),
    byteAt_append_left (by simp; omega), byteAt_append_right (by simp)]
  simp [byteAt, h]

theorem headerBytes_offset (d : Device) (header : List Byte) (k : Fin 4) :
    byteAt (headerBytes d header) (0x24 + k.val) = (d.fuses[k]).signExtend 8 := by
  rw [headerBytes_eq, headerHead, byteAt_append_left (by simp; omega), byteAt_append_right (by simp)]
  simp [byteAt, offsetBytes]

theorem headerBytes_produced (d : Device) (header : List Byte) :
    word (headerBytes d header) 0x1C = d.journal.produced ∧ word (headerBytes d header) 0x20 = d.journal.overflow := by
  simp [headerBytes, producedBytes, word_append_right, word_putWord]

theorem headerBytes_unapplied (d : Device) (header : List Byte) (h : d.rounds.applied = none) {k : Nat} (hk : k < 8) :
    byteAt (headerBytes d header) (0x28 + k) = 0#8 := by
  rw [headerBytes_eq, byteAt_append_right (by simp), byteAt_append_left (by simp; omega), h]
  have zero : (List.replicate 8 (0#8 : Byte)).getD k 0#8 = 0#8 := by
    rw [List.getD_eq_getElem?_getD, List.getElem?_replicate]
    split <;> rfl
  rw [length_headerHead, Nat.add_sub_cancel_left]
  exact zero

theorem headerBytes_applied (d : Device) (header : List Byte) {seq : Half} {n : Round} (h : d.rounds.applied = some (seq, n)) :
    half (headerBytes d header) 0x28 = seq ∧ half (headerBytes d header) 0x2A = 1#16 ∧ word (headerBytes d header) 0x2C = n := by
  have one : half (put8 1 ++ (reserved 1 ++ (putWord n ++ (markCounterBytes d.rounds ++ (linkCounterBytes d.follower ++
      sightingCounterBytes d.classifier))))) 0 = 1#16 := by
    simp [half, byteAt, put8, reserved]
  simp [headerBytes_eq, h, acknowledgmentBytes, half_append_right, word_append_right, half_putHalf, word_putWord, one]

theorem headerBytes_counters (d : Device) (header : List Byte) :
    word (headerBytes d header) 0x30 = d.rounds.marksTooClose ∧ word (headerBytes d header) 0x34 = d.rounds.marksForeign ∧
    word (headerBytes d header) 0x38 = d.follower.shed ∧ word (headerBytes d header) 0x3C = d.follower.malformed ∧
    word (headerBytes d header) 0x40 = d.classifier.stale ∧ word (headerBytes d header) 0x44 = d.classifier.lateTone ∧
    word (headerBytes d header) 0x48 = d.classifier.stray := by
  simp [headerBytes_eq, markCounterBytes, linkCounterBytes, sightingCounterBytes, word_append_right, word_putWord,
    word_putWord_alone]

/-! ### A journal entry (11.2.4) -/

/-- A journal entry's first 18 bytes. -/
def entryHead (sequence : Word) (e : JournalEntry) : List Byte :=
  putWord sequence ++ putWord e.stamp ++ put8 e.kind.code ++ [e.node] ++ put8 e.slot ++ put8 e.tone ++
    putHalf e.generation ++ put16 e.circuit ++ put16 e.second

@[simp] theorem length_entryHead (sequence : Word) (e : JournalEntry) : (entryHead sequence e).length = 18 := by
  simp [entryHead]

theorem journalBytes_eq (sequence : Word) (e : JournalEntry) : journalBytes sequence e =
    entryHead sequence e ++ (put8 e.loc.node.val ++ (put8 e.loc.port.val ++ (put8 e.loc.slot.val ++ (put8 e.code ++
      (put16 e.level ++ (putWord e.round ++ reserved 4)))))) := by
  simp only [journalBytes, entryHead, locationBytes, List.append_assoc]

theorem length_journalBytes (sequence : Word) (e : JournalEntry) : (journalBytes sequence e).length = 32 := by
  simp [journalBytes_eq]

theorem byteAt_cons (x : Byte) (ys : List Byte) (i : Nat) : byteAt (x :: ys) (i + 1) = byteAt ys i := rfl

theorem half_cons (x : Byte) (ys : List Byte) (i : Nat) : half (x :: ys) (i + 1) = half ys i := rfl

theorem journalBytes_head (sequence : Word) (e : JournalEntry) :
    word (journalBytes sequence e) 0 = sequence ∧ word (journalBytes sequence e) 4 = e.stamp ∧
    byteAt (journalBytes sequence e) 8 = BitVec.ofNat 8 e.kind.code ∧ byteAt (journalBytes sequence e) 9 = e.node ∧
    byteAt (journalBytes sequence e) 0x0A = BitVec.ofNat 8 e.slot ∧ byteAt (journalBytes sequence e) 0x0B = BitVec.ofNat 8 e.tone ∧
    half (journalBytes sequence e) 0x0C = e.generation ∧ half (journalBytes sequence e) 0x0E = BitVec.ofNat 16 e.circuit ∧
    half (journalBytes sequence e) 0x10 = BitVec.ofNat 16 e.second := by
  have node : ∀ ys : List Byte, byteAt (e.node :: ys) 0 = e.node := fun _ => rfl
  simp [journalBytes_eq, entryHead, byteAt_append_right, half_append_right, word_append_right, byteAt_put8, half_putHalf,
    word_putWord, put16, node, byteAt_cons, half_cons]

theorem journalBytes_tail (sequence : Word) (e : JournalEntry) :
    byteAt (journalBytes sequence e) 0x12 = BitVec.ofNat 8 e.loc.node.val ∧
    byteAt (journalBytes sequence e) 0x13 = BitVec.ofNat 8 e.loc.port.val ∧
    byteAt (journalBytes sequence e) 0x14 = BitVec.ofNat 8 e.loc.slot.val ∧
    byteAt (journalBytes sequence e) 0x15 = BitVec.ofNat 8 e.code ∧ half (journalBytes sequence e) 0x16 = BitVec.ofNat 16 e.level ∧
    word (journalBytes sequence e) 0x18 = e.round ∧ word (journalBytes sequence e) 0x1C = 0#32 := by
  simp [journalBytes_eq, byteAt_append_right, half_append_right, word_append_right, byteAt_put8, half_putHalf,
    word_putWord, put16, word_reserved]

end Sys2Proof.Machine.BoardBytes

/-! ## Starts and halts (1.1, 1.2) -/

namespace Sys2Proof.Machine.Starts
open Completions Halts BoardBytes

theorem canAccess_of_start {d : Device} (h : d.iface.state = .detached ∨ d.iface.state = .stopped) (st : d.iface.start.isSome) :
    canAccess d = true := by
  rcases h with h | h <;> simp [canAccess, h, st]

theorem not_faulted {d : Device} (h : d.iface.state = .detached ∨ d.iface.state = .stopped) : d.iface.state ≠ .faulted := by
  rcases h with h | h <;> simp [h]

/-! ### RUN_SET -/

theorem runSet_begins {d : Device} (idle : d.iface.start = none) (h : d.iface.state = .detached ∨ d.iface.state = .stopped) :
    runSet d = settle (beginStart d) := by
  rcases h with h | h <;> simp [runSet, idle, h]

theorem runSet_ignored {d : Device} (h : d.iface.start.isSome ∨ d.iface.state = .running ∨ d.iface.state = .faulted) :
    runSet d = d := by
  unfold runSet
  split
  case h_1 hs hn => simp [hs, hn] at h
  case h_2 hs hn => simp [hs, hn] at h
  case h_3 => rfl

/-- Settles O6, by the three cases of the write. -/
theorem runSet : Obligations.RunSet := by
  intro s
  refine ⟨fun idle h ok size => ?_, fun idle h bad => ?_, fun h => ?_⟩
  · generalize he : ({ s.dev with
      regs := { s.dev.regs with run := true }
      iface := { s.dev.iface with
        bounds := some ⟨boardBase s.dev.regs, s.dev.regs.windowSize.toNat⟩, start := some ⟨.headerRead, [], []⟩ } } : Device) = e
    have iface : e.iface = { s.dev.iface with
        bounds := some ⟨boardBase s.dev.regs, s.dev.regs.windowSize.toNat⟩, start := some ⟨.headerRead, [], []⟩ } := by rw [← he]
    refine ⟨issue .startHeaderRead (boardBase s.dev.regs) 256 [] true e, ?_, ?_, ?_, ?_, ?_, ?_⟩
    · show Host.Outcome.next { s with dev := Machine.runSet s.dev } = _
      rw [runSet_begins idle h, beginStart, if_pos ok, he]
    · rw [(issue_keeps _ _ _ _ _ _).2.2.2.1, iface]
    · rw [(issue_keeps _ _ _ _ _ _).2.2.2.1, iface]
    · rw [(issue_keeps _ _ _ _ _ _).2.2.1, ← he]
    · rw [(issue_keeps _ _ _ _ _ _).2.2.2.1, iface]
    · refine inFlight_issue (canAccess_of_start (by rw [iface]; exact h) (by rw [iface]; rfl)) ?_
      rw [iface]
      simp only [inWindow, Bool.and_eq_true, decide_eq_true_eq]
      omega
  · have faults := enterFaulted_faults .noWindow (not_faulted h)
    refine ⟨enterFaulted .noWindow s.dev, ?_, faults.state, faults.reason, faults.run, faults.cause, faults.count⟩
    show Host.Outcome.next { s with dev := Machine.runSet s.dev } = _
    rw [runSet_begins idle h, beginStart, if_neg (by simp [bad])]
  · show Host.Outcome.next { s with dev := Machine.runSet s.dev } = _
    rw [runSet_ignored h]

/-! ### RUN_CLEAR -/

theorem live_discardWhere {q : AccessKind → Bool} {p : Access → Bool} {d : Device} (h : ∀ a, p a = true → q a.kind = false) :
    live (discardWhere p d) q = live d q := by
  have each : ∀ xs : List Access, (xs.map (fun a => if p a then { a with discarded := true } else a)).any
      (fun a => !a.discarded && q a.kind) = xs.any (fun a => !a.discarded && q a.kind) := by
    intro xs
    rw [List.any_map]
    congr 1
    funext a
    cases hp : p a <;> simp [hp, h a]
  simp only [live, List.any_append]
  rw [← each d.dma.inFlight]
  rfl

/-- Of the device before a reaction a write due reads the access right, the window and the accesses of its channel. -/
theorem peerDue_of_same {c d e : Device} {n : Fin 16} {l : Prop} (can : canAccess d = canAccess c) (bounds : d.iface.bounds = c.iface.bounds)
    (same : live d (ofChannel (.peer n)) = live c (ofChannel (.peer n))) (due : peerDue d e n l) : peerDue c e n l := by
  have addr : boardAddr d = boardAddr c := by unfold boardAddr; rw [bounds]
  intro may
  rw [peerDue, writeDue, can, bounds, same, addr] at due
  exact due may

/-- Settles O7, from what a halt does to each block. -/
theorem runClear : Obligations.RunClear := by
  intro s
  refine ⟨fun idle running => ?_, fun starting => ?_, fun idle h => ?_⟩
  · generalize he : discardWhere (fun a => isScanRead a.kind) { s.dev with
      iface := { s.dev.iface with state := .stopped, scanTimer := none, scanPending := false }
      regs := { s.dev.regs with run := false }
      journal := { s.dev.journal with readPending := false } } = e
    have iface : e.iface = { s.dev.iface with state := .stopped, scanTimer := none, scanPending := false } := by rw [← he]; rfl
    have kept := haltBlocks_keeps e
    obtain ⟨-, -, regs, ifaceKept, -, slots, windows, -, areas, walks, -⟩ := kept
    have rounds := haltBlocks_rounds e
    have sameRounds : e.rounds = s.dev.rounds := by rw [← he]; rfl
    have lead := haltBlocks_lead e
    have follower := haltBlocks_follower e
    have taps := haltBlocks_taps e
    have same : e.lead = s.dev.lead := by rw [← he]; rfl
    refine ⟨haltBlocks e, ?_, by rw [ifaceKept, iface], by rw [regs, ← he]; rfl, by rw [ifaceKept, iface], by rw [ifaceKept, iface],
      by rw [ifaceKept, iface], by rw [slots, ← he]; rfl, by rw [windows, ← he]; rfl, by rw [rounds, sameRounds],
      by rw [rounds, sameRounds], by rw [rounds], by rw [rounds], fun r p hp => haltBlocks_evaluating hp,
      fun i => by rw [taps]; simp, by rw [taps, ← he]; rfl, rfl, by rw [lead], by rw [lead], by rw [follower],
      by rw [follower], by rw [areas, ← he]; rfl, by rw [walks, ← he]; rfl, ?_, fun p mode changed => ?_⟩
    · show Host.Outcome.next { s with dev := Machine.runClear s.dev } = _
      rw [Machine.runClear, if_neg (by simp [idle]), if_pos running, halt, he]
    · exact (haltBlocks_stops e).sandwich (.of_eq (by rw [← he]; rfl)) (.of_eq rfl) (fun c => by rw [← he]; rfl)
    · have due := haltBlocks_peer (d := e) (p := p) (by rw [iface]; exact mode) (by rw [same]; exact changed)
      refine peerDue_of_same (by simp [canAccess, iface, running]) (by rw [iface]) ?_ due
      rw [← live_discardWhere (p := fun a => isScanRead a.kind) (d := s.dev), live, ← he]
      · rfl
      · intro a ha
        cases hk : a.kind <;> simp [hk, isScanRead] at ha
        rfl
  · obtain ⟨x, hx, -, -, startOwed, owed, inFlight⟩ := dropStartAccesses_keeps { s.dev with
      iface := { s.dev.iface with start := none }, regs := { s.dev.regs with run := false } }
    refine ⟨abandonStart s.dev, ?_, rfl, rfl, fun a ha own => ?_, fun a ha other => ?_, rfl, rfl⟩
    · show Host.Outcome.next { s with dev := Machine.runClear s.dev } = _
      rw [Machine.runClear, if_pos starting]
    · rw [abandonStart, hx] at ha
      obtain ⟨b, -, rfl⟩ := List.mem_map.1 (inFlight ▸ ha)
      split
      · rfl
      · next h => simp [h] at own
    · rw [abandonStart, hx]
      show a ∈ x.inFlight
      rw [inFlight]
      exact List.mem_map.2 ⟨a, ha, by simp [other]⟩
  · show Host.Outcome.next { s with dev := Machine.runClear s.dev } = _
    rw [Machine.runClear, if_neg (by simp [idle]), if_neg h]

/-! ### The header read -/

theorem dropAccess_canAccess (d : Device) (tag : Nat) : canAccess (dropAccess d tag) = canAccess d := rfl

/-- Settles O13, by the checks of step 3. -/
theorem startHeaderReadDone : Obligations.StartHeaderReadDone := by
  intro a st b s h starting state within
  refine ⟨startHeaderTaken b (dropAccess s.dev a.tag), ?_, fun i hi ok => ?_, fun hi => ?_, fun i hi bad => ?_⟩
  · have taken := complete_landed h (fun _ => withStart (fun _ => startHeaderTaken b))
    rw [withStart, show (dropAccess s.dev a.tag).iface.start = some st from starting] at taken
    exact congrArg Host.Outcome.next taken
  · have read : startHeaderTaken b (dropAccess s.dev a.tag) = issue .startRequestRead (boardAddr s.dev 0x100) 112 [] true
        { dropAccess s.dev a.tag with iface := { s.dev.iface with start := some ⟨.requestRead, b, []⟩ } } := by
      unfold startHeaderTaken
      rw [hi]
      exact if_pos ok
    rw [read]
    exact ⟨(issue_keeps _ _ _ _ _ _).2.2.2.1, inFlight_issue (canAccess_of_start state rfl) within⟩
  · have failed : startHeaderTaken b (dropAccess s.dev a.tag) = enterFaulted .badIdentity (dropAccess s.dev a.tag) := by
      unfold startHeaderTaken
      rw [hi]
    have faults := enterFaulted_faults .badIdentity (d := dropAccess s.dev a.tag) (not_faulted state)
    rw [failed]
    exact ⟨faults.state, faults.reason, faults.start⟩
  · have failed : startHeaderTaken b (dropAccess s.dev a.tag) = enterFaulted .badJournal
        { dropAccess s.dev a.tag with journal := { s.dev.journal with usable := false } } := by
      unfold startHeaderTaken
      rw [hi]
      exact if_neg (by rw [show (dropAccess s.dev a.tag).iface = s.dev.iface from rfl, bad]; exact Bool.false_ne_true)
    have faults := enterFaulted_faults .badJournal
      (d := { dropAccess s.dev a.tag with journal := { s.dev.journal with usable := false } }) (not_faulted state)
    rw [failed]
    exact ⟨faults.state, faults.reason, faults.start⟩

/-! ### The header write and the peer status writes of step 5 -/

theorem noteChannel_dma (ch : Channel) (d : Device) : (noteChannel ch d).dma = d.dma := by
  unfold noteChannel
  split <;> rfl

theorem issueChannel_dma {ch : Channel} {o : Bool} {d : Device} (can : canAccess d = true)
    (within : inWindow d.iface.bounds (channelExtent ch d).1 (channelExtent ch d).2.length = true) :
    (issueChannel ch o d).dma = { d.dma with nextTag := d.dma.nextTag + 1, inFlight := d.dma.inFlight ++
      [⟨d.dma.nextTag, channelKind ch d, (channelExtent ch d).1, (channelExtent ch d).2.length, (channelExtent ch d).2, false, o⟩] } := by
  unfold issueChannel
  dsimp only
  rw [noteChannel_dma, issue_inWindow _ _ _ _ _ _ can within]

theorem oweAs_peerDue (o : Bool) (p : Fin 16) (d : Device) : peerDue d (oweAs o (.peer p) d) p False := by
  have peers : (oweAs o (.peer p) d).lead = d.lead := (oweAs_keeps _ _ _).2.2.2.2.2.2.2.2.2.2.2.2.1
  rw [peerDue, peers]
  intro can
  refine ⟨fun inUse => ?_, fun none_live within => ?_⟩
  · rw [oweAs_live o _ d can inUse]
    simp
  · rw [oweAs_issues o _ d can none_live, issueChannel_dma (ch := .peer p) can within]
    exact ⟨⟨d.dma.nextTag, channelKind (.peer p) d, (channelExtent (.peer p) d).1, (channelExtent (.peer p) d).2.length,
      (channelExtent (.peer p) d).2, false, o⟩, List.mem_append_right _ (List.mem_singleton.2 rfl), ⟨false, false, rfl⟩, rfl, rfl,
      .inl rfl, rfl⟩

theorem issue_inFlight (k : AccessKind) (a l : Nat) (b : List Byte) (o : Bool) (d : Device) :
    ∃ xs, (issue k a l b o d).dma.inFlight = d.dma.inFlight ++ xs ∧ ∀ x ∈ xs, x.ofStart = o := by
  unfold issue
  split
  · dsimp only
    split
    · exact ⟨_, rfl, by simp⟩
    · exact ⟨[], by simp, by simp⟩
  · exact ⟨[], by simp, by simp⟩

theorem oweAs_inFlight (o : Bool) (ch : Channel) (d : Device) :
    ∃ xs, (oweAs o ch d).dma.inFlight = d.dma.inFlight ++ xs ∧ ∀ x ∈ xs, x.ofStart = o := by
  unfold oweAs
  split
  · split
    · exact ⟨[], by simp, by simp⟩
    · unfold issueChannel
      dsimp only
      rw [noteChannel_dma]
      exact issue_inFlight _ _ _ _ o d
  · exact ⟨[], by simp, by simp⟩

/-- The peer status writes of step 5, of some of the peers. -/
def owePeerWrites (xs : List (Fin 16)) (d : Device) : Device := xs.foldl (fun d p => oweAs true (.peer p) d) d

theorem owePeerWrites_adds {q : AccessKind → Bool} {xs : List (Fin 16)} (h : ∀ p ∈ xs, ∀ c b, q (.channelWrite (.peer p) c b) = false)
    (d : Device) : Adds q d (owePeerWrites xs d) := by
  induction xs generalizing d with
  | nil => exact .refl q d
  | cons x xs ih =>
    exact (oweAs_adds true _ d (h x (by simp))).trans (ih (fun p hp => h p (List.mem_cons_of_mem x hp)) _)

theorem owePeerWrites_keeps (xs : List (Fin 16)) (d : Device) :
    (owePeerWrites xs d).lead = d.lead ∧ (owePeerWrites xs d).slots = d.slots :=
  ⟨foldl_keeps (·.lead) _ (fun _ _ => (oweAs_keeps _ _ _).2.2.2.2.2.2.2.2.2.2.2.2.1) xs d,
    foldl_keeps (·.slots) _ (fun _ _ => oweAs_peer_slots _ _ _) xs d⟩

theorem owePeerWrites_inFlight (xs : List (Fin 16)) (d : Device) :
    ∃ ys, (owePeerWrites xs d).dma.inFlight = d.dma.inFlight ++ ys ∧ ∀ y ∈ ys, y.ofStart = true := by
  induction xs generalizing d with
  | nil => exact ⟨[], by simp [owePeerWrites], by simp⟩
  | cons x xs ih =>
    obtain ⟨as, first, own⟩ := oweAs_inFlight true (.peer x) d
    obtain ⟨bs, rest, owns⟩ := ih (oweAs true (.peer x) d)
    refine ⟨as ++ bs, by rw [← List.append_assoc, ← first]; exact rest, fun y hy => ?_⟩
    rcases List.mem_append.1 hy with hy | hy
    · exact own y hy
    · exact owns y hy

theorem owePeerWrites_due {xs : List (Fin 16)} (nodup : xs.Nodup) {p : Fin 16} (hp : p ∈ xs) (d : Device) :
    peerDue d (owePeerWrites xs d) p False := by
  induction xs generalizing d with
  | nil => simp at hp
  | cons x xs ih =>
    obtain ⟨fresh, nodup⟩ := List.nodup_cons.1 nodup
    rcases List.mem_cons.1 hp with rfl | hp
    · exact (oweAs_peerDue true p d).after (owePeerWrites_adds (xs := xs) (fun _ _ _ _ => rfl) _)
        (congrArg (fun l : LeadLink => peerStatusBytes l.peers[p]) (owePeerWrites_keeps xs _).1) id
    · have other : x ≠ p := fun e => fresh (e ▸ hp)
      exact (ih nodup hp (oweAs true (.peer x) d)).before (oweAs_adds true (.peer x) d fun c b => by simp [ofChannel, other])

theorem startPeerWrites_lead (d : Device) : startPeerWrites .lead d = owePeerWrites (List.finRange 16) d := rfl

theorem startPeerWrites_follow (d : Device) : startPeerWrites .follow d = d := rfl

theorem adoptSequences_frame (b : List Byte) (d : Device) : ∃ v, adoptSequences b d = { d with slots := v } ∧
    (d.iface.fresh = true → ∀ n : Fin 8, v[n] = { d.slots[n] with lastSeq := requestSequence b n }) ∧
    (d.iface.fresh = false → v = d.slots) := by
  unfold adoptSequences
  split
  · next h => exact ⟨_, rfl, fun _ n => mapVec_get _ _ _, fun n => absurd h (by simp [n])⟩
  · next h => exact ⟨_, rfl, fun n => absurd n h, fun _ => rfl⟩

/-- Settles O14, from what adopting the sequences, the header write and each peer status write add. -/
theorem startRequestReadDone : Obligations.StartRequestReadDone := by
  intro a st b s h starting state within
  obtain ⟨v, adopted, fresh, known⟩ := adoptSequences_frame b { dropAccess s.dev a.tag with
    iface := { s.dev.iface with start := some ⟨.headerWrite, st.header, b⟩ } }
  generalize he : ({ dropAccess s.dev a.tag with
    iface := { s.dev.iface with start := some ⟨.headerWrite, st.header, b⟩ }, slots := v } : Device) = e at adopted
  have iface : e.iface = { s.dev.iface with start := some ⟨.headerWrite, st.header, b⟩ } := by rw [← he]
  have can : canAccess e = true := canAccess_of_start (by rw [iface]; exact state) (by rw [iface]; rfl)
  have bounds : e.iface.bounds = s.dev.iface.bounds := by rw [iface]
  have bytes : headerBytes e st.header = headerBytes s.dev st.header := by rw [← he]; rfl
  have addr : boardAddr e 0 = boardAddr s.dev 0 := by unfold boardAddr; rw [bounds]
  obtain ⟨w, hw⟩ : ∃ w : Access, w = ⟨e.dma.nextTag, .startHeaderWrite, boardAddr s.dev 0, 76, headerBytes s.dev st.header, false, true⟩ :=
    ⟨_, rfl⟩
  generalize hf : issue .startHeaderWrite (boardAddr e 0) 76 (headerBytes e st.header) true e = f
  have issued : f.dma.inFlight = (dropAccess s.dev a.tag).dma.inFlight ++ [w] := by
    rw [← hf, issue_inWindow _ _ _ _ _ _ can (by rw [bounds, addr]; exact within), hw, addr, bytes, ← he]
  have ifaceF : f.iface = e.iface := by rw [← hf]; exact (issue_keeps _ _ _ _ _ _).2.2.2.1
  have slotsF : f.slots = v := by rw [← hf, (issue_keeps _ _ _ _ _ _).2.2.2.2.2.1, ← he]
  have adds (m : Mode) : Adds (fun _ => false) f (startPeerWrites m f) := by
    cases m
    · exact owePeerWrites_adds (fun _ _ _ _ => rfl) f
    · exact .refl _ f
  have slots (m : Mode) : (startPeerWrites m f).slots = v := by
    cases m
    · exact ((owePeerWrites_keeps _ f).2).trans slotsF
    · exact slotsF
  refine ⟨startPeerWrites (startMode st.header) f, ?_, ((adds _).iface.trans ifaceF).trans iface,
    fun hn n => by rw [slots]; exact fresh hn n, fun hn => by rw [slots]; exact known hn, ?_, length_headerBytes _ _,
    headerBytes_id _ _, fun k hk => headerBytes_kept _ _ hk, (headerBytes_produced _ _).1, (headerBytes_produced _ _).2,
    headerBytes_offset _ _, fun hn k hk => headerBytes_unapplied _ _ hn hk, fun seq n hn => headerBytes_applied _ _ hn,
    (headerBytes_counters _ _).1, (headerBytes_counters _ _).2.1, (headerBytes_counters _ _).2.2.1,
    (headerBytes_counters _ _).2.2.2.1, (headerBytes_counters _ _).2.2.2.2.1, (headerBytes_counters _ _).2.2.2.2.2.1,
    (headerBytes_counters _ _).2.2.2.2.2.2, fun i p hi lead => ?_, fun follows => ?_⟩
  · have taken := complete_landed h (fun _ => withStart (fun st => startRequestTaken st b))
    rw [withStart, show (dropAccess s.dev a.tag).iface.start = some st from starting] at taken
    refine (congrArg Host.Outcome.next taken).trans ?_
    dsimp only
    rw [startRequestTaken]
    dsimp only
    rw [show ({ dropAccess s.dev a.tag with iface := { (dropAccess s.dev a.tag).iface with
      start := some ⟨.headerWrite, st.header, b⟩ } } : Device) = { dropAccess s.dev a.tag with
      iface := { s.dev.iface with start := some ⟨.headerWrite, st.header, b⟩ } } from rfl, adopted, hf]
  · obtain ⟨xs, more, -⟩ := (adds (startMode st.header)).inFlight
    exact ⟨w, by rw [more, issued]; simp, by rw [hw], by rw [hw], by rw [hw], by rw [hw], by rw [hw], by rw [hw]⟩
  · have mode : startMode st.header = .lead := by rw [startMode, hi]; exact lead
    have same : live f (ofChannel (.peer p)) = live (dropAccess s.dev a.tag) (ofChannel (.peer p)) := by
      have header : Adds (ofChannel (.peer p)) e f := by rw [← hf]; exact issue_adds _ _ _ _ _ _ rfl
      rw [header.live_eq, ← he]
      rfl
    rw [mode, startPeerWrites_lead]
    refine ⟨peerDue_of_same ?_ (by rw [ifaceF, bounds]; rfl) same (owePeerWrites_due (List.nodup_finRange 16) (List.mem_finRange p) f),
      fun none_live x hx counts kind => ?_⟩
    · rw [dropAccess_canAccess, canAccess_of_start state (by rw [starting]; rfl), canAccess, ifaceF]
      exact can
    · obtain ⟨ys, more, own⟩ := owePeerWrites_inFlight (List.finRange 16) f
      rw [more, issued] at hx
      rcases List.mem_append.1 hx with hx | hx
      · rcases List.mem_append.1 hx with hx | hx
        · have hit : live (dropAccess s.dev a.tag) (ofChannel (.peer p)) = true := by
            rw [live, List.any_eq_true]
            exact ⟨x, List.mem_append_left _ hx, by simp [counts, kind, ofChannel]⟩
          exact absurd hit (by simp [none_live])
        · rw [List.mem_singleton.1 hx, hw]
      · exact own x hx
  · obtain ⟨i, hi, follow⟩ := follows
    have mode : startMode st.header = .follow := by rw [startMode, hi]; exact follow
    rw [mode, startPeerWrites_follow]
    exact ⟨w, issued⟩

/-! ### The shadow writes of step 6 -/

theorem startShadow_adds (d : Device) (n : Fin 8) : Adds (fun _ => false) d (startShadow d n) := issue_adds _ _ _ _ _ _ rfl

theorem startShadows_writing {xs : List (Fin 8)} {d : Device} (can : canAccess d = true)
    (within : ∀ n : Fin 8, inWindow d.iface.bounds (boardAddr d (0x620 + 0x100 * n.val)) 16 = true) {n : Fin 8} (hn : n ∈ xs) :
    writing (xs.foldl startShadow d) (boardAddr d (0x620 + 0x100 * n.val)) (shadowBytes d.slots[n].state d.slots[n])
      (.startShadowWrite n) := by
  induction xs generalizing d with
  | nil => simp at hn
  | cons x xs ih =>
    have iface : (startShadow d x).iface = d.iface := (issue_keeps _ _ _ _ _ _).2.2.2.1
    rcases List.mem_cons.1 hn with rfl | hn
    · have issued : writing (startShadow d n) (boardAddr d (0x620 + 0x100 * n.val)) (shadowBytes d.slots[n].state d.slots[n])
          (.startShadowWrite n) := by
        have write := writing_issue (k := .startShadowWrite n) (b := shadowBytes d.slots[n].state d.slots[n]) (o := true) can
          (by rw [length_shadowBytes]; exact within n)
        rw [length_shadowBytes] at write
        exact write
      exact writing_after issued (Adds.foldl _ startShadow_adds xs _)
    · have rest := ih (d := startShadow d x) (by rw [canAccess, iface]; exact can) (fun m => by rw [boardAddr, iface]; exact within m) hn
      rw [boardAddr, iface, startShadow, (issue_keeps _ _ _ _ _ _).2.2.2.2.2.1] at rest
      exact rest

/-- Settles O16, each shadow write issued in its turn. -/
theorem freshStartWritesShadows : Obligations.FreshStartWritesShadows := by
  intro a st s h starting fresh state within
  generalize he : ({ dropAccess s.dev a.tag with iface := { s.dev.iface with start := some { st with step := .shadowWrites } } } :
    Device) = e
  have iface : e.iface = { s.dev.iface with start := some { st with step := .shadowWrites } } := by rw [← he]
  have slots : e.slots = s.dev.slots := by rw [← he]; rfl
  refine ⟨(List.finRange 8).foldl startShadow e, ?_, ?_, ?_, fun n => ⟨?_, fun b hb => ?_⟩⟩
  · have taken := complete_landed h (fun _ => withStart startHeaderWritten)
    rw [withStart, show (dropAccess s.dev a.tag).iface.start = some st from starting] at taken
    refine (congrArg Host.Outcome.next taken).trans ?_
    dsimp only
    rw [startHeaderWritten, if_pos (show (dropAccess s.dev a.tag).iface.fresh = true from fresh), ← he]
    rfl
  · rw [foldl_keeps (·.iface) startShadow (fun _ _ => (issue_keeps _ _ _ _ _ _).2.2.2.1), iface]
  · rw [foldl_keeps (·.slots) startShadow (fun _ _ => (issue_keeps _ _ _ _ _ _).2.2.2.2.2.1), slots]
  · have same : ∀ o, boardAddr e o = boardAddr s.dev o := fun o => by rw [boardAddr, iface]; rfl
    rw [← same, ← slots]
    exact startShadows_writing (canAccess_of_start (by rw [iface]; exact state) (by rw [iface]; rfl))
      (fun m => by rw [same, iface]; exact within m) (List.mem_finRange n)
  · subst hb
    exact ⟨length_shadowBytes _ _, shadowBytes_fields _ _⟩

end Sys2Proof.Machine.Starts

/-! ## Campaign slots (1.5, 1.6) -/

namespace Sys2Proof.Machine.Slots
open Completions Halts BoardBytes

/-! ### What owing a shadow write notes of its slot -/

/-- A slot but for what its latest shadow write carried and announced. -/
def Noted (s t : Slot) : Prop := ∃ k b, t = { s with shadowVerdicts := k, announce := b }

theorem Noted.refl (s : Slot) : Noted s s := same_slot s

theorem Noted.fields {s t : Slot} (h : Noted s t) : t.state = s.state ∧ t.reason = s.reason ∧ t.generation = s.generation ∧
    t.lastSeq = s.lastSeq ∧ t.outcome = s.outcome ∧ t.verdicts = s.verdicts ∧ t.desc = s.desc ∧ t.summary = s.summary ∧
    t.validating = s.validating ∧ t.closing = s.closing := by
  obtain ⟨k, b, rfl⟩ := h
  exact ⟨rfl, rfl, rfl, rfl, rfl, rfl, rfl, rfl, rfl, rfl⟩

theorem owe_shadow_noted (n : Fin 8) (d : Device) : Noted d.slots[n] (owe (.shadow n) d).slots[n] := by
  obtain ⟨x, k, b, h⟩ := owe_shadow_frame n d
  refine ⟨k, b, ?_⟩
  rw [h]
  exact (vec_set_get _ _ _ _).trans (if_pos rfl)

/-- A slot replaced with its shadow write owed. -/
theorem owe_setSlot_noted (n : Fin 8) (x : Slot) (d : Device) : Noted x (owe (.shadow n) (d.setSlot n x)).slots[n] := by
  have noted := owe_shadow_noted n (d.setSlot n x)
  rwa [Device.setSlot_slots_get, if_pos rfl] at noted

theorem moveSlot_noted (n : Fin 8) (st : SlotState) (d : Device) : Noted { d.slots[n] with state := st } (moveSlot n st d).slots[n] :=
  owe_setSlot_noted _ _ _

/-! ### Entry to DRAINING -/

theorem drainSlot_drainable {n : Fin 8} {r : Reason} {d : Device} (h : d.slots[n].state.drainable = true) : drainSlot n r d =
    voidProbes (fun p => p.slot == n)
      (discardStage n (owe (.shadow n) (d.setSlot n { d.slots[n] with state := .draining, reason := r }))) := by
  have other : d.slots[n].state ≠ .draining := fun e => by rw [e] at h; exact Bool.noConfusion h
  unfold drainSlot
  dsimp only
  rw [if_neg other, if_pos h]

theorem drainSlot_noted {n : Fin 8} {r : Reason} {d : Device} (h : d.slots[n].state.drainable = true) :
    Noted { d.slots[n] with state := .draining, reason := r } (drainSlot n r d).slots[n] := by
  rw [drainSlot_drainable h, voidProbes_slots]
  exact owe_setSlot_noted n { d.slots[n] with state := .draining, reason := r } d

theorem drainSlot_records {n : Fin 8} {r : Reason} {d : Device} (h : d.slots[n].state.drainable = true) (q : Fin 16) :
    (drainSlot n r d).probes.records[q] = spared (fun p => p.slot == n) d.probes.records[q] := by
  rw [drainSlot_drainable h, voidProbes_records]
  have same : (discardStage n (owe (.shadow n) (d.setSlot n { d.slots[n] with state := .draining, reason := r }))).probes = d.probes :=
    (owe_keeps _ _).2.2.2.2.2.2.2.2.1
  rw [same]

theorem replacesReason_iff (old new : Reason) :
    replacesReason old new = true ↔ new = .memoryFault ∧ (old = .aborted ∨ old = .planError) := by simp [replacesReason]

/-- Settles O26, from the two cases of `drainSlot`. -/
theorem drainingEntry : Obligations.DrainingEntry := by
  intro n r d
  refine ⟨fun h => ?_, fun h => ?_⟩
  · have drainable : d.slots[n].state.drainable = true := by rcases h with h | h | h <;> rw [h] <;> rfl
    obtain ⟨state, reason⟩ := (drainSlot_state n r d).1 drainable
    obtain ⟨due, stops⟩ := drainSlot_enters n r d drainable
    refine ⟨state, reason, (drainSlot_slot n r d).2.2, fun i p hp slot => ?_, fun i p hp slot => ?_, fun q => ?_, stops, due⟩
    · rw [drainSlot_records drainable] at hp
      exact ((spared_eq_some _ _ _).1 hp).2 (by simp [slot])
    · rw [drainSlot_records drainable, hp]
      exact spared_stays (fun e => absurd (by simpa using e) slot)
    · rw [drainSlot_stage n r d drainable q]
      exact ⟨fun c rec place => by rw [place]; rfl, fun c place => by rw [place]; rfl⟩
  · obtain ⟨due, launch, probes⟩ := drainSlot_again n r d h
    obtain ⟨state, replaced, stands⟩ := (drainSlot_state n r d).2 h
    refine ⟨state, ?_, due, launch, probes⟩
    split
    · next e => rw [replaced ((replacesReason_iff _ _).2 e), e.1]
    · next e => rw [stands (Bool.eq_false_iff.2 (fun t => e ((replacesReason_iff _ _).1 t)))]

/-! ### Requests -/

theorem judgeRequest_same {area : List Byte} {n : Fin 8} {d : Device} (h : requestSequence area n = d.slots[n].lastSeq) :
    judgeRequest area d n = d := by
  unfold judgeRequest
  dsimp only
  rw [if_pos h]

theorem judgeRequest_ignored {area : List Byte} {n : Fin 8} {d : Device} (h : requestSequence area n ≠ d.slots[n].lastSeq)
    (ignored : requestTaken d.slots[n].state (requestKind area n) = false) : judgeRequest area d n =
      owe (.shadow n) (d.setSlot n { d.slots[n] with lastSeq := requestSequence area n, outcome := .ignored }) := by
  unfold judgeRequest
  dsimp only
  rw [if_neg h, ignored]
  rfl

theorem judgeRequest_taken {area : List Byte} {n : Fin 8} {d : Device} (h : requestSequence area n ≠ d.slots[n].lastSeq)
    (taken : requestTaken d.slots[n].state (requestKind area n) = true) : judgeRequest area d n = actOnRequest n (requestKind area n)
      (d.setSlot n { d.slots[n] with lastSeq := requestSequence area n, outcome := .taken }) := by
  unfold judgeRequest
  dsimp only
  rw [if_neg h, taken]
  rfl

theorem takeSubmit_follow {n : Fin 8} {d : Device} (h : d.iface.mode = some .follow) :
    takeSubmit n d = owe (.shadow n) (d.setSlot n (d.slots[n].submitted d.iface.mode)) := by
  unfold takeSubmit
  dsimp only
  rw [if_pos h]

theorem takeSubmit_lead {n : Fin 8} {d : Device} (h : d.iface.mode ≠ some .follow) : takeSubmit n d =
    readDescriptor n (owe (.shadow n) (d.setSlot n (d.slots[n].submitted d.iface.mode))) := by
  unfold takeSubmit
  dsimp only
  rw [if_neg h]

theorem takeSubmit_noted (n : Fin 8) (d : Device) : Noted (d.slots[n].submitted d.iface.mode) (takeSubmit n d).slots[n] := by
  by_cases h : d.iface.mode = some .follow
  · rw [takeSubmit_follow h]
    exact owe_setSlot_noted n _ d
  · rw [takeSubmit_lead h, readDescriptor, (issueRead_keeps _ _ _ _).2.2.2.2.2.1]
    exact owe_setSlot_noted n _ d

/-- A request that is taken notes its sequence and outcome, whatever it then does. -/
theorem actOnRequest_noted {n : Fin 8} {k : RequestKind} {d : Device} (h : requestTaken d.slots[n].state k = true) :
    (actOnRequest n k d).slots[n].lastSeq = d.slots[n].lastSeq ∧ (actOnRequest n k d).slots[n].outcome = d.slots[n].outcome := by
  cases k with
  | submit =>
    have noted := takeSubmit_noted n d
    exact ⟨noted.fields.2.2.2.1, noted.fields.2.2.2.2.1⟩
  | abort =>
    have noted := drainSlot_noted (r := .aborted) h
    exact ⟨noted.fields.2.2.2.1, noted.fields.2.2.2.2.1⟩
  | release =>
    have noted : Noted { d.slots[n] with state := .sweeping, announce := false } (takeRelease n d).slots[n] :=
      owe_setSlot_noted n _ (d.setArea n { d.areas[n] with sweep := some 0 })
    exact ⟨noted.fields.2.2.2.1, noted.fields.2.2.2.2.1⟩
  | other => exact ⟨rfl, rfl⟩

/-- The read a SUBMIT taken in LEAD mode issues. -/
theorem takeSubmit_reads {n : Fin 8} {d : Device} (can : canAccess d = true) (h : d.iface.mode ≠ some .follow) :
    (inWindow d.iface.bounds (boardAddr d (0x600 + 0x100 * n.val)) 32 = true →
      inFlight (takeSubmit n d) (boardAddr d (0x600 + 0x100 * n.val)) 32 (.descriptorRead n)) ∧
    (inWindow d.iface.bounds (boardAddr d (0x600 + 0x100 * n.val)) 32 = false →
      ∃ a ∈ (takeSubmit n d).dma.refused, a.kind = .descriptorRead n) := by
  rw [takeSubmit_lead h, readDescriptor, issueRead]
  generalize he : owe (.shadow n) (d.setSlot n (d.slots[n].submitted d.iface.mode)) = e
  have iface : e.iface = d.iface := by rw [← he]; exact (owe_keeps _ _).2.2.2.1
  have addr : ∀ o, boardAddr e o = boardAddr d o := fun o => by rw [boardAddr, iface]; rfl
  have canE : canAccess e = true := by rw [canAccess, iface]; exact can
  rw [addr]
  refine ⟨fun within => inFlight_issue canE (by rw [iface]; exact within), fun outside => ?_⟩
  obtain ⟨x, mem, kind, -⟩ := refused_issue (k := .descriptorRead n) (b := []) (o := false) canE (by rw [iface]; exact outside)
  exact ⟨x, mem, kind⟩

/-- Settles O19, by what the request's kind does in the slot's state. -/
theorem requestsJudged : Obligations.RequestsJudged := by
  intro area n d can
  refine ⟨judgeRequest_same, fun h => ?_⟩
  generalize he : d.setSlot n { d.slots[n] with lastSeq := requestSequence area n, outcome := .taken } = e
  have slot : e.slots[n] = { d.slots[n] with lastSeq := requestSequence area n, outcome := .taken } := by
    rw [← he, Device.setSlot_slots_get, if_pos rfl]
  have iface : e.iface = d.iface := by rw [← he]; rfl
  have acted (taken : requestTaken d.slots[n].state (requestKind area n) = true) :
      judgeRequest area d n = actOnRequest n (requestKind area n) e := by rw [← he]; exact judgeRequest_taken h taken
  have outcome (taken : requestTaken d.slots[n].state (requestKind area n) = true) :
      (judgeRequest area d n).slots[n].lastSeq = requestSequence area n ∧ (judgeRequest area d n).slots[n].outcome = .taken := by
    have noted := actOnRequest_noted (n := n) (k := requestKind area n) (d := e) (by rw [slot]; exact taken)
    rw [acted taken, noted.1, noted.2, slot]
    exact ⟨rfl, rfl⟩
  have ignored (no : requestTaken d.slots[n].state (requestKind area n) = false) :=
    owe_setSlot_noted n { d.slots[n] with lastSeq := requestSequence area n, outcome := .ignored } d
  refine ⟨?_, fun m hm => judgeRequest_slots area d n m hm, judgeRequest_due area n d h, fun no => ?_, fun kind free => ?_,
    fun kind state => ?_, fun kind state => ?_, fun kind state => ?_⟩
  · cases taken : requestTaken d.slots[n].state (requestKind area n) with
    | true => exact (outcome taken).1
    | false =>
      rw [judgeRequest_ignored h taken]
      exact (ignored taken).fields.2.2.2.1
  · rw [judgeRequest_ignored h no]
    exact ⟨ignored no, (owe_keeps _ _).2.2.2.2.2.2.2.2.1, (owe_keeps _ _).2.2.2.2.2.2.2.2.2.2.2.2.2.2.2.1⟩
  · have taken : requestTaken d.slots[n].state (requestKind area n) = true := by rw [kind, free]; rfl
    have submitted : judgeRequest area d n = takeSubmit n e := by rw [acted taken, kind]; rfl
    have noted := takeSubmit_noted n e
    obtain ⟨state, reason, generation, -, -, verdicts, desc, summary, -⟩ := noted.fields
    have reads (lead : d.iface.mode ≠ some .follow) :=
      takeSubmit_reads (n := n) (d := e) (by rw [canAccess, iface]; exact can) (by rw [iface]; exact lead)
    refine ⟨(outcome taken).2, ?_, ?_, ?_, ?_, ?_, ?_, fun lead => ?_, fun follow => ?_⟩
    · rw [submitted, generation, slot]; rfl
    · rw [submitted, verdicts]; rfl
    · rw [submitted, state, iface]; rfl
    · rw [submitted, reason, iface]; rfl
    · rw [submitted, desc]; rfl
    · rw [submitted, summary]; rfl
    · have addr : boardAddr e (0x600 + 0x100 * n.val) = boardAddr d (0x600 + 0x100 * n.val) := by rw [boardAddr, iface]; rfl
      rw [submitted, ← addr, ← iface]
      exact reads lead
    · rw [submitted, takeSubmit_follow (by rw [iface]; exact follow)]
      have adds : Adds isDescriptorRead d (owe (.shadow n) (e.setSlot n (e.slots[n].submitted e.iface.mode))) := by
        rw [← he]
        exact (owe_adds (.shadow n) _ (fun _ _ => rfl)).start rfl rfl
      exact adds.live_eq
  · have drainable : d.slots[n].state.drainable = true := by rcases state with s | s <;> rw [s] <;> rfl
    have taken : requestTaken d.slots[n].state (requestKind area n) = true := by rw [kind]; exact drainable
    have drained : judgeRequest area d n = drainSlot n .aborted e := by rw [acted taken, kind]; rfl
    have entered := (drainSlot_state n .aborted e).1 (by rw [slot]; exact drainable)
    rw [← drained] at entered
    exact ⟨(outcome taken).2, entered⟩
  · rw [acted (by rw [kind]; exact state), kind]
    rw [← he]
    rfl
  · have taken : requestTaken d.slots[n].state (requestKind area n) = true := by
      rw [kind]; rcases state with s | s <;> rw [s] <;> rfl
    have released : judgeRequest area d n = takeRelease n e := by rw [acted taken, kind]; rfl
    have noted := owe_setSlot_noted n { e.slots[n] with state := .sweeping, announce := false }
      (e.setArea n { e.areas[n] with sweep := some 0 })
    refine ⟨(outcome taken).2, by rw [released]; exact noted.fields.1, ?_⟩
    rw [released, takeRelease, (owe_keeps _ _).2.2.2.2.2.2.2.2.2.2.2.2.2.2.2.1, Device.setSlot_areas,
      Device.setArea_areas_get, if_pos rfl]

end Sys2Proof.Machine.Slots

/-! ## Completions of a slot's accesses (1.5, 1.6) -/

namespace Sys2Proof.Machine.SlotWrites
open Completions Halts BoardBytes HopVerdicts Starts Slots

/-! ### Searching for a circuit -/

theorem findFrom_eq_some {p : Nat → Bool} {k c x : Nat} :
    findFrom p k c = some x ↔ c ≤ x ∧ x < c + k ∧ p x = true ∧ ∀ y, c ≤ y → y < x → p y = false := by
  induction k generalizing c with
  | zero => simp [findFrom]; omega
  | succ k ih =>
    unfold findFrom
    split
    · next hit =>
      constructor
      · rintro ⟨⟩
        exact ⟨Nat.le_refl _, by omega, hit, fun y least less => by omega⟩
      · rintro ⟨least, -, -, first⟩
        by_contra other
        have before := first c (Nat.le_refl _) (Nat.lt_of_le_of_ne least (fun e => other (by rw [e])))
        simp [hit] at before
    · next miss =>
      rw [ih]
      constructor
      · rintro ⟨least, most, found, first⟩
        refine ⟨by omega, by omega, found, fun y leastY less => ?_⟩
        rcases Nat.eq_or_lt_of_le leastY with rfl | later
        · simpa using miss
        · exact first y later less
      · rintro ⟨least, most, found, first⟩
        have other : c ≠ x := fun e => miss (e ▸ found)
        exact ⟨by omega, by omega, found, fun y later less => first y (by omega) less⟩

theorem findFrom_eq_none {p : Nat → Bool} {k c : Nat} : findFrom p k c = none ↔ ∀ y, c ≤ y → y < c + k → p y = false := by
  induction k generalizing c with
  | zero => simp [findFrom]; omega
  | succ k ih =>
    unfold findFrom
    split
    · next hit => simp only [reduceCtorEq, false_iff]; exact fun h => by simp [h c (Nat.le_refl _) (by omega)] at hit
    · next miss =>
      rw [ih]
      refine ⟨fun h y least most => ?_, fun h y least most => h y (by omega) (by omega)⟩
      rcases Nat.eq_or_lt_of_le least with rfl | later
      · simpa using miss
      · exact h y later (by omega)

/-! ### The descriptor read -/

theorem admitsCampaign_iff (d : Device) (s : Slot) : admitsCampaign d s = true ↔
    s.desc.windowId = 7 ∨ ∃ w : Fin 4, s.desc.windowId = w.val ∧ d.windows[w].phase = .quiet := by
  simp [admitsCampaign, boundTo]

theorem latchDescriptor_slot (n : Fin 8) (x : Descriptor) (d : Device) :
    (latchDescriptor n x d).slots[n] = { d.slots[n] with desc := x, validating := false } := by
  rw [latchDescriptor, Device.setSched_slots, Device.setSlot_slots_get, if_pos rfl]

theorem latchDescriptor_other {n m : Fin 8} (x : Descriptor) (d : Device) (h : m ≠ n) : (latchDescriptor n x d).slots[m] = d.slots[m] := by
  rw [latchDescriptor, Device.setSched_slots, Device.setSlot_slots_get, if_neg h]

theorem latchDescriptor_circuits (n : Fin 8) (x : Descriptor) (d : Device) (c : Nat) :
    circuitEntry (latchDescriptor n x d) n c = ⟨.queued, 0⟩ := by
  unfold circuitEntry
  rw [latchDescriptor, Device.setSched_sched_get, if_pos rfl]
  rfl

/-- Where a campaign that passes validation goes (R19). -/
def placed (d : Device) (n : Fin 8) : SlotState := if d.leading && admitsCampaign d d.slots[n] then .running else .waiting

theorem placeCampaign_follow {n : Fin 8} {d : Device} (h : d.slots[n].state = .validating) (follows : d.following = true) :
    placeCampaign n d = drainSlot n .aborted d := by
  rw [placeCampaign, if_neg (not_not.2 h), if_pos follows]

theorem placeCampaign_lead {n : Fin 8} {d : Device} (h : d.slots[n].state = .validating) (leads : d.following = false) :
    placeCampaign n d = moveSlot n (placed d n) d := by
  rw [placeCampaign, if_neg (not_not.2 h), if_neg (by simp [leads]), placed]
  split <;> rfl

/-- Validation owes the shadow write of the state it gives (R25). -/
theorem placeCampaign_due {n : Fin 8} {d : Device} (h : d.slots[n].state = .validating) : shadowDue d (placeCampaign n d) n False := by
  cases follows : d.following with
  | true =>
    rw [placeCampaign_follow h follows]
    exact (drainSlot_enters n .aborted d (by rw [h]; rfl)).1
  | false =>
    rw [placeCampaign_lead h follows]
    exact owe_setSlot_due n _ d False

theorem rejectSlot_noted (n : Fin 8) (r : Reason) (d : Device) :
    Noted { d.slots[n] with state := .rejected, reason := r, announce := true, validating := false } (rejectSlot n r d).slots[n] :=
  owe_setSlot_noted n _ d

theorem validated_rejects {n : Fin 8} {b : List Byte} {r : Reason} {d : Device} (h : descriptorFault d.iface.bounds (descriptorOf b) = some r) :
    validated n (.bytes b) d = rejectSlot n r d := by rw [validated, h]

theorem validated_latches {n : Fin 8} {b : List Byte} {d : Device} (h : descriptorFault d.iface.bounds (descriptorOf b) = none) :
    validated n (.bytes b) d = placeCampaign n (latchDescriptor n (descriptorOf b) d) := by rw [validated, h]

/-- Settles O20, by the descriptor's checks in the two states the slot may be in. -/
theorem descriptorReadDone : Obligations.DescriptorReadDone := by
  have taken (a : Access) (n : Fin 8) (b : List Byte) (s : State) (h : awaited s.dev a isDescriptorRead) (kind : a.kind = .descriptorRead n) :
      exec (.descriptorReadDone a.tag (.bytes b)) s = .next { s with
        board := landed s.board a true, dev := settle (validated n (.bytes b) (dropAccess s.dev a.tag)) } := by
    have done := complete_landed h (descriptorTaken b)
    rw [kind] at done
    exact congrArg Host.Outcome.next done
  refine ⟨fun a n b s h kind state => ⟨_, taken a n b s h kind, fun r fault => ?_, ?_, fun good => ?_⟩,
    fun a n b s h kind state => ⟨_, taken a n b s h kind, fun r fault => ?_, fun good => ?_, fun m hm => ?_, ?_⟩⟩
  · rw [validated_rejects (d := dropAccess s.dev a.tag) fault]
    obtain ⟨st, reason, -, -, -, -, desc, -⟩ := (rejectSlot_noted n r (dropAccess s.dev a.tag)).fields
    exact ⟨st, reason, desc⟩
  · cases fault : descriptorFault s.dev.iface.bounds (descriptorOf b) with
    | some r =>
      rw [validated_rejects (d := dropAccess s.dev a.tag) fault]
      exact owe_setSlot_due n _ _ False
    | none =>
      rw [validated_latches (d := dropAccess s.dev a.tag) fault]
      exact (placeCampaign_due (d := latchDescriptor n (descriptorOf b) (dropAccess s.dev a.tag))
        (by rw [latchDescriptor_slot]; exact state)).before (.of_eq rfl rfl)
  · rw [validated_latches (d := dropAccess s.dev a.tag) good]
    generalize he : latchDescriptor n (descriptorOf b) (dropAccess s.dev a.tag) = e
    have slot : e.slots[n] = { s.dev.slots[n] with desc := descriptorOf b, validating := false } := by
      rw [← he]; exact latchDescriptor_slot _ _ _
    have validating : e.slots[n].state = .validating := by rw [slot]; exact state
    have sameLead : e.leading = s.dev.leading := by rw [← he]; rfl
    have sameFollow : e.following = s.dev.following := by rw [← he]; rfl
    have windows : e.windows = s.dev.windows := by rw [← he]; rfl
    have drained := drainSlot_noted (n := n) (r := .aborted) (d := e) (by rw [validating]; rfl)
    refine ⟨?_, fun follows => ?_, fun leads => ?_⟩
    · cases follows : e.following with
      | true => rw [placeCampaign_follow validating follows, drained.fields.2.2.2.2.2.2.1, slot]
      | false => rw [placeCampaign_lead validating follows, (moveSlot_noted n (placed e n) e).fields.2.2.2.2.2.2.1, slot]
    · rw [placeCampaign_follow validating (by rw [sameFollow]; exact follows)]
      exact ⟨drained.fields.1, drained.fields.2.1⟩
    · rw [placeCampaign_lead validating (by rw [sameFollow]; exact leads), (moveSlot_noted n (placed e n) e).fields.1]
      show placed e n = _
      have admits := admitsCampaign_iff e e.slots[n]
      simp only [slot, windows] at admits
      simp only [placed, slot, sameLead, Bool.and_eq_true, admits]
  · rw [validated_rejects (d := dropAccess s.dev a.tag) fault]
    obtain ⟨st, reason, -, -, -, -, -, -, validating, -⟩ := (rejectSlot_noted n r (dropAccess s.dev a.tag)).fields
    exact ⟨st, reason, validating, owe_setSlot_due n _ _ False⟩
  · have stays : validated n (.bytes b) (dropAccess s.dev a.tag) = latchDescriptor n (descriptorOf b) (dropAccess s.dev a.tag) := by
      rw [validated_latches (d := dropAccess s.dev a.tag) good, placeCampaign, if_pos]
      rw [latchDescriptor_slot, show (dropAccess s.dev a.tag).slots[n].state = .draining from state]
      exact SlotState.noConfusion
    rw [stays]
    exact ⟨latchDescriptor_slot _ _ _, latchDescriptor_circuits _ _ _⟩
  · cases fault : descriptorFault s.dev.iface.bounds (descriptorOf b) with
    | some r =>
      rw [validated_rejects (d := dropAccess s.dev a.tag) fault]
      exact owe_setSlot_slots n m _ _ hm
    | none =>
      rw [validated_latches (d := dropAccess s.dev a.tag) fault, placeCampaign, if_pos, latchDescriptor_other _ _ hm]
      · rfl
      · rw [latchDescriptor_slot, show (dropAccess s.dev a.tag).slots[n].state = .draining from state]
        exact SlotState.noConfusion
  · cases fault : descriptorFault s.dev.iface.bounds (descriptorOf b) with
    | some r =>
      rw [validated_rejects (d := dropAccess s.dev a.tag) fault]
      exact (owe_keeps _ _).2.2.2.2.2.2.2.2.1
    | none =>
      rw [validated_latches (d := dropAccess s.dev a.tag) fault, placeCampaign, if_pos]
      · rfl
      · rw [latchDescriptor_slot, show (dropAccess s.dev a.tag).slots[n].state = .draining from state]
        exact SlotState.noConfusion

/-! ### The shadow write -/

theorem issueChannel_shadow_slots (n : Fin 8) (o : Bool) (d : Device) : (issueChannel (.shadow n) o d).slots =
    d.slots.set n { d.slots[n] with shadowVerdicts := d.slots[n].verdicts, announce := false } := by
  unfold issueChannel
  dsimp only [noteChannel]
  rw [Device.setSlot]
  dsimp only
  rw [(issue_keeps _ _ _ _ _ _).2.2.2.2.2.1]

theorem reissue_idle {ch : Channel} {d : Device} (h : ch ∉ d.dma.owed) : reissue ch d = d := by rw [reissue, if_neg h]

theorem reissue_shadow_slots (n m : Fin 8) (d : Device) :
    Noted d.slots[m] (reissue (.shadow n) d).slots[m] ∧ (m ≠ n → (reissue (.shadow n) d).slots[m] = d.slots[m]) := by
  by_cases h : Channel.shadow n ∈ d.dma.owed
  · have slots := issueChannel_shadow_slots n (decide (.shadow n ∈ d.dma.startOwed)) { d with dma := d.dma.settleOwed (.shadow n) }
    rw [reissue_owed _ _ h, slots, vec_set_get]
    refine ⟨?_, fun other => if_neg other⟩
    split
    · next e => exact ⟨_, _, by rw [e]⟩
    · exact .refl _
  · rw [reissue_idle h]
    exact ⟨.refl _, fun _ => rfl⟩

/-- A write owed goes out at the completion of the one before it, and is owed no more. -/
theorem reissue_issues {ch : Channel} {d : Device} (can : canAccess d = true) (owed : ch ∈ d.dma.owed)
    (within : inWindow d.iface.bounds (channelExtent ch d).1 (channelExtent ch d).2.length = true) :
    ch ∉ (reissue ch d).dma.owed ∧ (reissue ch d).dma.inFlight = d.dma.inFlight ++
      [⟨d.dma.nextTag, channelKind ch d, (channelExtent ch d).1, (channelExtent ch d).2.length, (channelExtent ch d).2, false,
        decide (ch ∈ d.dma.startOwed)⟩] := by
  have same : channelExtent ch { d with dma := d.dma.settleOwed ch } = channelExtent ch d := by cases ch <;> rfl
  have kind : channelKind ch { d with dma := d.dma.settleOwed ch } = channelKind ch d := by cases ch <;> rfl
  have issued := issueChannel_dma (ch := ch) (o := decide (ch ∈ d.dma.startOwed)) (d := { d with dma := d.dma.settleOwed ch }) can
    (by rw [same]; exact within)
  rw [reissue_owed _ _ owed, issued, same, kind]
  exact ⟨by simp, rfl⟩

theorem shadowExtent_length (n : Fin 8) (d : Device) : (channelExtent (.shadow n) d).2.length = 16 := length_shadowBytes _ _

/-- The slot's closing write and the cause it raises. -/
def shown (n : Fin 8) (closing announces : Bool) (d : Device) : Device :=
  let d1 := if closing then d.setSlot n { d.slots[n] with state := .closed, closing := none } else d
  if closing || announces then raise .campaignDone d1 else d1

theorem shown_frame (n : Fin 8) (closing announces : Bool) (d : Device) : ∃ c, shown n closing announces d =
      { d with slots := (shown n closing announces d).slots, regs := { d.regs with irqCause := c } } ∧
    c.getLsbD 0 = (d.regs.irqCause.getLsbD 0 || closing || announces) := by
  cases closing <;> cases announces
  · exact ⟨_, rfl, by simp⟩
  all_goals exact ⟨d.regs.irqCause ||| Cause.campaignDone.mask, rfl, by simp [Cause.mask]⟩

theorem shown_slots (n m : Fin 8) (closing announces : Bool) (d : Device) : (shown n closing announces d).slots[m] =
    if m = n ∧ closing = true then { d.slots[m] with state := .closed, closing := none } else d.slots[m] := by
  have raised : (shown n closing announces d).slots =
      (if closing then d.setSlot n { d.slots[n] with state := .closed, closing := none } else d).slots := by
    unfold shown
    dsimp only
    split <;> rfl
  rw [raised]
  cases closing with
  | false => simp
  | true =>
    rw [if_pos rfl, Device.setSlot_slots_get]
    by_cases e : m = n
    · subst e; simp
    · simp [e]

/-- Settles O21, from the closing write's own effect and the write owed behind it. -/
theorem shadowWriteDone : Obligations.ShadowWriteDone := by
  intro a n closing announces s h kind
  generalize he : shown n closing announces (dropAccess s.dev a.tag) = e
  obtain ⟨c, frame, cause⟩ := shown_frame n closing announces (dropAccess s.dev a.tag)
  have slots := fun m => shown_slots n m closing announces (dropAccess s.dev a.tag)
  rw [he] at frame slots
  have kept := reissue_keeps (.shadow n) e
  have noted := (reissue_shadow_slots n n e).1.fields
  refine ⟨reissue (.shadow n) e, ?_, ?_, ?_, ?_, ?_, fun m hm => ?_, ?_, ?_, fun owed can write_open unclosed within => ?_⟩
  · have done := complete_landed h channelLanded
    rw [kind] at done
    refine (congrArg Host.Outcome.next done).trans ?_
    rw [← he]
    rfl
  · rw [noted.1, slots n]
    cases closing <;> simp [dropAccess]
  · rw [noted.2.2.2.2.2.1, slots n]
    cases closing <;> simp [dropAccess]
  · rw [noted.2.2.1, slots n]
    cases closing <;> simp [dropAccess]
  · rw [kept.2.2.1, frame]
    exact cause
  · rw [(reissue_shadow_slots n m e).2 hm, slots m, if_neg (fun t => hm t.1)]
    rfl
  · rw [kept.2.2.2.2.2.2.2.2.1, frame]; rfl
  · rw [kept.2.2.2.2.2.2.2.1, frame]; rfl
  · have slot : e.slots[n] = s.dev.slots[n] := (slots n).trans (if_neg (by simp [write_open]))
    have iface : e.iface = s.dev.iface := by rw [frame]; rfl
    have dma : e.dma = (dropAccess s.dev a.tag).dma := by rw [frame]
    have addr : (channelExtent (.shadow n) e).1 = boardAddr s.dev (0x620 + 0x100 * n.val) := by
      show boardAddr e _ = _
      rw [boardAddr, iface]; rfl
    obtain ⟨gone, more⟩ := reissue_issues (ch := .shadow n) (d := e) (by rw [canAccess, iface]; exact can)
      (by rw [dma]; exact owed) (by rw [shadowExtent_length, addr, iface]; exact within)
    have kindE : channelKind (.shadow n) e =
        .channelWrite (.shadow n) false (s.dev.slots[n].state == .rejected && s.dev.slots[n].announce) := by
      show AccessKind.channelWrite _ (e.slots[n].closing == _) _ = _
      rw [slot, unclosed]
      rfl
    exact ⟨gone, _, by rw [more]; exact List.mem_append_right _ (List.mem_singleton.2 rfl), kindE, addr, shadowExtent_length n e, rfl⟩

end Sys2Proof.Machine.SlotWrites

/-! ## Walks end (R130, R131, R140)

What handing back and presenting again leave of the slots and of the queue. -/

namespace Sys2Proof.Machine.WalkEnds

/-- Of each slot no more than the summary changes. -/
def Tallied (d e : Device) : Prop := ∀ n : Fin 8, ∃ s, e.slots[n] = { d.slots[n] with summary := s }

theorem Tallied.of_eq {d e : Device} (h : e.slots = d.slots) : Tallied d e := fun n => ⟨d.slots[n].summary, by rw [h]⟩

theorem Tallied.trans {d e f : Device} (h : Tallied d e) (k : Tallied e f) : Tallied d f := fun n => by
  obtain ⟨s, hs⟩ := h n
  obtain ⟨t, ht⟩ := k n
  exact ⟨t, by rw [ht, hs]⟩

theorem countSlot_tallied (k : SlotCount) (n : Fin 8) (g : Half) (d : Device) : Tallied d (countSlot k n g d) := by
  unfold countSlot
  split
  · intro m
    rw [Device.setSlot_slots_get]
    split
    · next e => subst e; exact ⟨_, rfl⟩
    · exact ⟨d.slots[m].summary, rfl⟩
  · exact .of_eq rfl

theorem takeUnclassified_tallied (p : Probe) (x : Sighting) (d : Device) : Tallied d (takeUnclassified p x d) := by
  unfold takeUnclassified
  split
  · exact countSlot_tallied _ _ _ d
  · exact .of_eq rfl

theorem offerLook_tallied (r : Fin 16) (p : Probe) (h : Nat) (hop : Hop) (x : Sighting) (d : Device) :
    Tallied d (offerLook r p h hop x d) := .of_eq (offerLook_keeps r p h hop x d).2.2.2.2.1

theorem applyAnswer_tallied (r : Fin 16) (p : Probe) (x : Sighting) (a : Answer) (d : Device) : Tallied d (applyAnswer r p x a d) := by
  unfold applyAnswer
  split
  · split
    · split
      · split
        · exact offerLook_tallied _ _ _ _ _ d
        · exact takeUnclassified_tallied _ _ d
      · exact takeUnclassified_tallied _ _ d
    · split
      · exact .of_eq (takeCross_keeps _ _ _ _ d).2.2.2.2.1
      · exact .of_eq rfl
  · split
    · exact .of_eq (takeMisroute_keeps _ _ _ d).2.2.2.2.1
    · exact .of_eq rfl

theorem applyBypass_tallied (r : Fin 16) (p : Probe) (x : Sighting) (d : Device) : Tallied d (applyBypass r p x d) := by
  unfold applyBypass
  split
  · exact offerLook_tallied _ _ _ _ _ d
  · exact takeUnclassified_tallied _ _ d

theorem applyChecked_tallied (x : Sighting) (o : Checked) (d : Device) : Tallied d (applyChecked x o d) := by
  cases o with
  | stale | lateTone => exact .of_eq (countHeader_keeps _ d).2.2.2.2.2.1
  | stray => exact .of_eq (takeStray_keeps _ d).2.2.2.2.1
  | silent | pass => exact .of_eq rfl
  | late p | outOfReach p => exact countSlot_tallied _ _ _ d

theorem depart_tallied (i : Nat) (d : Device) : Tallied d (depart i d) := .of_eq (depart_keeps i d).2.2.2.2.2.1

theorem presentEntry_tallied (i : Nat) (d : Device) : Tallied d (presentEntry i d) := by
  unfold presentEntry
  split
  · exact .of_eq rfl
  · split
    · next e _ _ r p _ =>
      refine Tallied.trans (e := setEntry i { e with memo := some (memoOf r p) } d) (.of_eq rfl) ?_
      unfold translateEntry
      dsimp only
      split
      · exact (applyBypass_tallied _ _ _ _).trans (depart_tallied _ _)
      · split
        · exact (applyAnswer_tallied _ _ _ _ _).trans (depart_tallied _ _)
        · exact .of_eq (missEntry_keeps _ _ _ _).2.2.2.2.2.1
    · exact (applyChecked_tallied _ _ d).trans (depart_tallied _ _)

theorem unstall_tallied (d : Device) : Tallied d (unstall d) := by
  unfold unstall
  split
  · refine (Tallied.of_eq (d := d) rfl).trans ?_
    unfold classifyNext
    split
    · split
      · exact presentEntry_tallied _ _
      · exact .of_eq rfl
    · exact .of_eq rfl
  · exact .of_eq rfl

theorem applyHandedBack_tallied (x : Sighting) (m : Memo) (a : Option Answer) (d : Device) : Tallied d (applyHandedBack x m a d) := by
  unfold applyHandedBack
  split
  · exact .of_eq (countHeader_keeps _ d).2.2.2.2.2.1
  · split
    · exact countSlot_tallied _ _ _ d
    · split
      · split
        · exact .of_eq (countHeader_keeps _ d).2.2.2.2.2.1
        · split
          · exact applyAnswer_tallied _ _ _ _ d
          · exact countSlot_tallied _ _ _ d
          · exact applyChecked_tallied _ _ d
      · exact .of_eq (countHeader_keeps _ d).2.2.2.2.2.1
      · exact .of_eq (takeStray_keeps _ d).2.2.2.2.1
      · exact .of_eq rfl

theorem handBack_tallied (w : Fin 4) (a : Option Answer) (n : Nat) (d : Device) : Tallied d (handBack w a n d) := by
  induction n generalizing d with
  | zero => exact .of_eq rfl
  | succ n ih =>
    unfold handBack
    split
    · exact .of_eq rfl
    · split
      · exact ((applyHandedBack_tallied _ _ a d).trans (depart_tallied _ _)).trans (ih _)
      · exact (depart_tallied _ d).trans (ih _)

theorem releaseWalk_tallied (w : Fin 4) (a : Option Answer) (d : Device) : Tallied d (releaseWalk w a d) :=
  (Tallied.trans (e := d.setWalk w none) (.of_eq rfl) (handBack_tallied w a _ _)).trans (unstall_tallied _)

/-! ### The queue -/

/-- The queue has only grown at its tail, by entries that are not parked. -/
def Grown (q r : List QueueEntry) : Prop := ∃ xs, r = q ++ xs ∧ ∀ e ∈ xs, e.parked = none

theorem Grown.refl (q : List QueueEntry) : Grown q q := ⟨[], by simp, by simp⟩

theorem Grown.trans {p q r : List QueueEntry} (h : Grown p q) (k : Grown q r) : Grown p r := by
  obtain ⟨xs, rfl, free⟩ := h
  obtain ⟨ys, rfl, frees⟩ := k
  exact ⟨xs ++ ys, by simp, fun e he => (List.mem_append.1 he).elim (free e) (frees e)⟩

theorem serveDetector_grown (d : Device) (i : Fin 4) : Grown d.classifier.queue (serveDetector d i).classifier.queue := by
  have pushed : ∀ xs : List Sighting, Grown d.classifier.queue (pushQueue xs d).classifier.queue := fun xs =>
    ⟨xs.map (fun x => ⟨x, none, none⟩), rfl, fun e he => by
      obtain ⟨x, -, rfl⟩ := List.mem_map.1 he
      rfl⟩
  unfold serveDetector
  split
  · dsimp only
    split
    · rw [(takeWork_taps _ i).1]
      exact pushed _
    · exact pushed _
  · exact .refl _

theorem serveHolding_grown (d : Device) : Grown d.classifier.queue (serveHolding d).classifier.queue := by
  have served : ∀ (xs : List (Fin 4)) (d : Device), Grown d.classifier.queue (xs.foldl serveInTurn d).classifier.queue := by
    intro xs
    induction xs with
    | nil => exact fun d => .refl _
    | cons x xs ih =>
      intro d
      have first : Grown d.classifier.queue (serveInTurn d x).classifier.queue := by
        unfold serveInTurn
        split
        · exact serveDetector_grown d x
        · exact .refl _
      exact first.trans (ih _)
  exact served _ d

theorem depart_grown (i : Nat) (d : Device) : Grown (d.classifier.queue.eraseIdx i) (depart i d).classifier.queue := by
  unfold depart
  split
  · next h => rw [List.eraseIdx_of_length_le (List.getElem?_eq_none_iff.1 h)]; exact .refl _
  · dsimp only
    split
    · exact serveHolding_grown (d.setQueue _)
    · exact .refl _

theorem applyHandedBack_queue (x : Sighting) (m : Memo) (a : Option Answer) (d : Device) :
    (applyHandedBack x m a d).classifier.queue = d.classifier.queue := by
  have header (h : HeaderCount) : (countHeader h d).classifier.queue = d.classifier.queue := by
    unfold countHeader
    rw [(owe_keeps _ _).2.2.2.2.2.2.2.2.2.2.2.2.2.2.2.2.2.1]
    cases h <;> rfl
  have stray : (takeStray x d).classifier.queue = d.classifier.queue := by
    unfold takeStray
    rw [(journalRequest_keeps _ _ _).2.2.2.2.2.2.2.2.2.2.2.2.2.2.2.2.2, header]
  have slot (k : SlotCount) (n : Fin 8) (g : Half) : (countSlot k n g d).classifier.queue = d.classifier.queue := by
    unfold countSlot
    split <;> rfl
  have checked (o : Checked) : (applyChecked x o d).classifier.queue = d.classifier.queue := by
    cases o with
    | stale | lateTone => exact header _
    | stray => exact stray
    | silent | pass => rfl
    | late p | outOfReach p => exact slot _ _ _
  unfold applyHandedBack
  split
  · exact header _
  · split
    · exact slot _ _ _
    · split
      · split
        · exact header _
        · split
          · rw [(applyAnswer_keeps _ _ _ _ d).2.2.2.2.2.2.2.2.2.2.2.2.2]
          · exact slot _ _ _
          · exact checked _
      · exact header _
      · exact stray
      · rfl

/-- The entries parked on a walk record. -/
def parkedOn (w : Fin 4) (q : List QueueEntry) : Nat := q.countP (fun e => e.parked == some w)

theorem parkedOn_grown {w : Fin 4} {q r : List QueueEntry} (h : Grown q r) : parkedOn w r = parkedOn w q := by
  obtain ⟨xs, rfl, free⟩ := h
  have unparked : xs.countP (fun e => e.parked == some w) = 0 :=
    List.countP_eq_zero.2 fun e he => by simp [free e he]
  rw [parkedOn, List.countP_append, unparked]
  rfl

theorem parkedOn_eraseIdx {w : Fin 4} {q : List QueueEntry} {i : Nat} (h : q.findIdx? (fun e => e.parked == some w) = some i) :
    parkedOn w (q.eraseIdx i) + 1 = parkedOn w q := by
  obtain ⟨hi, found, -⟩ := List.findIdx?_eq_some_iff_getElem.1 h
  have split : q = q.take i ++ q[i] :: q.drop (i + 1) := by simp
  rw [parkedOn, parkedOn, List.eraseIdx_eq_take_drop_succ]
  conv => rhs; rw [split]
  rw [List.countP_append, List.countP_append, List.countP_cons_of_pos (p := fun e : QueueEntry => e.parked == some w) found]
  omega

/-- Handing back as many entries as the queue may park leaves none parked on the walk. -/
theorem handBack_unparked (w : Fin 4) (a : Option Answer) : ∀ (n : Nat) (d : Device), parkedOn w d.classifier.queue ≤ n →
    ∀ e ∈ (handBack w a n d).classifier.queue, e.parked ≠ some w := by
  have none_left (d : Device) (h : parkedOn w d.classifier.queue = 0) : ∀ e ∈ d.classifier.queue, e.parked ≠ some w :=
    fun e he parked => absurd (List.countP_eq_zero.1 h e he) (by simp [parked])
  intro n
  induction n with
  | zero => exact fun d h => none_left d (Nat.le_zero.1 h)
  | succ n ih =>
    intro d h
    unfold handBack
    split
    · next missing =>
      refine none_left d (List.countP_eq_zero.2 fun e he => ?_)
      exact Bool.not_eq_true _ ▸ List.findIdx?_eq_none_iff.1 missing e he
    · next i found =>
      have fewer := parkedOn_eraseIdx found
      split
      · refine ih _ ?_
        rw [parkedOn_grown (depart_grown i _), applyHandedBack_queue]
        omega
      · refine ih _ ?_
        rw [parkedOn_grown (depart_grown i _)]
        omega

theorem releaseWalk_ends (w : Fin 4) (ans : Option Answer) (d : Device) : endsWalk w ans d (releaseWalk w ans d) := by
  refine ⟨_, rfl, ?_, handBack_unparked w ans _ _ List.countP_le_length, rfl⟩
  rw [(handBack_keeps w ans _ _).2.2.2.2.2.2.2.2.2.2.2, vec_set_get, if_pos rfl]

end Sys2Proof.Machine.WalkEnds

/-! ## Closing writes and failures (1.2, 1.3, 1.6) -/

namespace Sys2Proof.Machine.Closing
open Completions Halts BoardBytes HopVerdicts Starts Slots SlotWrites WalkEnds

/-! ### The closing writes -/

theorem length_summaryBytes (s : Summary) : (summaryBytes s).length = 128 := by
  simp [summaryBytes]

theorem nextNotRun_eq_some {d : Device} {n : Fin 8} {from_ c : Nat} : nextNotRun d n from_ = some c ↔
    from_ ≤ c ∧ c < d.slots[n].desc.count ∧ (circuitEntry d n c).status ≠ .done ∧
      ∀ b, from_ ≤ b → b < c → (circuitEntry d n b).status = .done := by
  rw [nextNotRun, findFrom_eq_some]
  simp only [bne_iff_ne, bne_eq_false_iff_eq]
  constructor
  · rintro ⟨least, most, found, first⟩
    exact ⟨least, by omega, found, first⟩
  · rintro ⟨least, most, found, first⟩
    exact ⟨least, by omega, found, first⟩

theorem nextNotRun_eq_none {d : Device} {n : Fin 8} {from_ : Nat} (h : ∀ b, from_ ≤ b → b < d.slots[n].desc.count →
    (circuitEntry d n b).status = .done) : nextNotRun d n from_ = none := by
  rw [nextNotRun, findFrom_eq_none]
  intro b least most
  simp [h b least (by omega)]

theorem closeFrom_notRun {n : Fin 8} {from_ c : Nat} {d : Device} (reason : d.slots[n].reason = .aborted ∨ d.slots[n].reason = .planError)
    (next : nextNotRun d n from_ = some c) : closeFrom n from_ d = writeNotRun n c d := by rw [closeFrom, if_pos reason, next]

theorem closeFrom_summary {n : Fin 8} {from_ : Nat} {d : Device}
    (h : (d.slots[n].reason ≠ .aborted ∧ d.slots[n].reason ≠ .planError) ∨
      ∀ b, from_ ≤ b → b < d.slots[n].desc.count → (circuitEntry d n b).status = .done) : closeFrom n from_ d = writeSummary n d := by
  unfold closeFrom
  split
  · next reason =>
    rcases h with ⟨x, y⟩ | all
    · exact absurd reason (not_or.2 ⟨x, y⟩)
    · rw [nextNotRun_eq_none all]
  · rfl

theorem writeSummary_slots (n m : Fin 8) (d : Device) : (writeSummary n d).slots[m] =
    if m = n then { d.slots[n] with closing := some .summary } else d.slots[m] := by
  rw [writeSummary, (issueWrite_keeps _ _ _ _).2.2.2.2.2.1, Device.setSlot_slots_get]

theorem writeNotRun_slots (n m : Fin 8) (c : Nat) (d : Device) : (writeNotRun n c d).slots[m] =
    if m = n then { d.slots[n] with closing := some (.notRun c) } else d.slots[m] := by
  rw [writeNotRun, (issueWrite_keeps _ _ _ _).2.2.2.2.2.1, Device.setSlot_slots_get]

theorem writeSummary_writing {n : Fin 8} {d : Device} (can : canAccess d = true)
    (within : inWindow d.iface.bounds (boardAddr d (0x640 + 0x100 * n.val)) 128 = true) :
    writing (writeSummary n d) (boardAddr d (0x640 + 0x100 * n.val)) (summaryBytes d.slots[n].summary) (.summaryWrite n) :=
  writing_issue (d := d.setSlot n { d.slots[n] with closing := some .summary }) can (by rw [length_summaryBytes]; exact within)

theorem writeNotRun_writing {n : Fin 8} {c : Nat} {d : Device} (can : canAccess d = true)
    (within : inWindow d.iface.bounds (d.slots[n].desc.verdictBase + c * 64) 64 = true) :
    writing (writeNotRun n c d) (d.slots[n].desc.verdictBase + c * 64)
      (verdictBytes (notRunVerdict d.slots[n].generation (circuitEntry d n c).voids)) (.notRunWrite n c) :=
  writing_issue (d := d.setSlot n { d.slots[n] with closing := some (.notRun c) }) can (by rw [verdictBytes_length]; exact within)

/-- Settles O22, by what `closeFrom` finds behind the circuit. -/
theorem notRunWriteDone : Obligations.NotRunWriteDone := by
  intro a n c s h kind
  generalize he : (dropAccess s.dev a.tag).setSlot n (s.dev.slots[n].countVerdict 11 none) = e
  have slot : e.slots[n] = s.dev.slots[n].countVerdict 11 none := by rw [← he, Device.setSlot_slots_get, if_pos rfl]
  have iface : e.iface = s.dev.iface := by rw [← he]; rfl
  have circuits : ∀ b, circuitEntry e n b = circuitEntry s.dev n b := fun b => circuitEntry_congr (by rw [← he]; rfl) n b
  have addr : ∀ o, boardAddr e o = boardAddr s.dev o := fun o => by rw [boardAddr, iface]; rfl
  have can : canAccess e = canAccess s.dev := by rw [canAccess, iface]; rfl
  have closes : ∃ x, (closeFrom n (c + 1) e).slots[n] = { e.slots[n] with closing := some x } := by
    unfold closeFrom
    split
    · split
      · exact ⟨_, (writeNotRun_slots n n _ e).trans (if_pos rfl)⟩
      · exact ⟨_, (writeSummary_slots n n e).trans (if_pos rfl)⟩
    · exact ⟨_, (writeSummary_slots n n e).trans (if_pos rfl)⟩
  obtain ⟨x, closed⟩ := closes
  refine ⟨closeFrom n (c + 1) e, ?_, by rw [closed, slot]; rfl, ?_, by rw [closed, slot]; rfl, by rw [closed, slot]; rfl,
    fun b reason after below open_ before => ?_, fun done => ?_, ?_⟩
  · have taken := complete_landed h notRunTaken
    rw [kind] at taken
    refine (congrArg Host.Outcome.next taken).trans ?_
    rw [← he]
    rfl
  · rw [closed, slot]
    simp [Slot.countVerdict, Summary.count]
  · have next : nextNotRun e n (c + 1) = some b := nextNotRun_eq_some.2 ⟨after, by rw [slot]; exact below,
      by rw [circuits]; exact open_, fun b' least less => by rw [circuits]; exact before b' least less⟩
    rw [closeFrom_notRun (by rw [slot]; exact reason) next]
    refine ⟨by rw [writeNotRun_slots, if_pos rfl], fun access within => ?_⟩
    have write := writeNotRun_writing (n := n) (c := b) (d := e) (by rw [can]; exact access)
      (by rw [iface, slot]; exact within)
    rw [slot, circuits] at write
    exact write
  · rw [closeFrom_summary (done.imp (fun r => by rw [slot]; exact r)
      (fun all b least less => by rw [circuits]; exact all b least (by rw [slot] at less; exact less)))]
    refine ⟨by rw [writeSummary_slots, if_pos rfl], fun access within => ?_⟩
    obtain ⟨w, mem, wk, wa, wl, wd, live⟩ := writeSummary_writing (n := n) (d := e) (by rw [can]; exact access)
      (by rw [iface, addr]; exact within)
    refine ⟨w, mem, wk, live, by rw [wa, addr], by rw [wl, length_summaryBytes], ?_⟩
    rw [wd, writeSummary_slots, if_pos rfl]
  · rintro g voids v rfl
    exact ⟨rfl, rfl, rfl, rfl, rfl, rfl, rfl, rfl, rfl, rfl, rfl, rfl, rfl, rfl⟩

/-- Settles O23, the closing shadow write owed as CLOSED. -/
theorem summaryWriteDone : Obligations.SummaryWriteDone := by
  intro a n s h kind can within
  generalize he : (dropAccess s.dev a.tag).setSlot n { s.dev.slots[n] with closing := some .shadow } = e
  have slot : e.slots[n] = { s.dev.slots[n] with closing := some .shadow } := by rw [← he, Device.setSlot_slots_get, if_pos rfl]
  have iface : e.iface = s.dev.iface := by rw [← he]; rfl
  have dma : e.dma = (dropAccess s.dev a.tag).dma := by rw [← he]; rfl
  have canE : canAccess e = true := by rw [canAccess, iface]; exact can
  have live_eq : live e (ofChannel (.shadow n)) = live (dropAccess s.dev a.tag) (ofChannel (.shadow n)) := by
    rw [live, dma]; rfl
  have noted := (owe_shadow_noted n e).fields
  refine ⟨owe (.shadow n) e, ?_, by rw [noted.2.2.2.2.2.2.2.2.2, slot], by rw [noted.1, slot], fun inUse => ?_, fun none_live => ?_⟩
  · have taken := complete_landed h summaryTaken
    rw [kind] at taken
    refine (congrArg Host.Outcome.next taken).trans ?_
    rw [← he]
    rfl
  · rw [owe, oweAs_live false _ e canE (by rw [live_eq]; exact inUse)]
    simp
  · have extent : channelExtent (.shadow n) e = (boardAddr s.dev (0x620 + 0x100 * n.val), shadowBytes .closed e.slots[n]) := by
      show (boardAddr e _, shadowBytes (if e.slots[n].closing = some .shadow then .closed else e.slots[n].state) e.slots[n]) = _
      rw [if_pos (by rw [slot]), boardAddr, iface]
      rfl
    have kindE : channelKind (.shadow n) e = .channelWrite (.shadow n) true (e.slots[n].state == .rejected && e.slots[n].announce) := by
      show AccessKind.channelWrite _ (e.slots[n].closing == _) _ = _
      rw [slot]
      rfl
    rw [owe, oweAs_issues false _ e canE (by rw [live_eq]; exact none_live),
      issueChannel_dma canE (by rw [extent, length_shadowBytes, iface]; exact within), extent, kindE]
    exact ⟨_, List.mem_append_right _ (List.mem_singleton.2 rfl), rfl, length_shadowBytes _ _, rfl, rfl, _, rfl⟩

/-! ### The coalesced writes -/

theorem coalesced_completes {f : Nat → Bool → Instr} {sel : AccessKind → Bool} (h : (f, sel) ∈ coalescedWrites) :
    (∀ (tag : Nat) (ok : Bool) (s : State), exec (f tag ok) s = .next (complete tag sel ok channelLanded s)) ∧
      ∀ n c b, sel (.channelWrite (.shadow n) c b) = false := by
  simp only [coalescedWrites, List.mem_cons, Prod.mk.injEq, List.not_mem_nil, or_false] at h
  rcases h with ⟨rfl, rfl⟩ | ⟨rfl, rfl⟩ | ⟨rfl, rfl⟩ | ⟨rfl, rfl⟩ | ⟨rfl, rfl⟩ | ⟨rfl, rfl⟩ | ⟨rfl, rfl⟩
  all_goals exact ⟨fun _ _ _ => rfl, fun _ _ _ => rfl⟩

theorem channelLanded_plain {ch : Channel} (h : ∀ n, ch ≠ .shadow n) (d : Device) :
    channelLanded (.channelWrite ch false false) d = reissue ch d := by
  cases ch with
  | shadow n => exact absurd rfl (h n)
  | window | peer | markCounters | linkCounters | sightingCounters | acknowledgment | produced => rfl

theorem failAccess_plain {ch : Channel} (h : ∀ n, ch ≠ .shadow n) (d : Device) :
    failAccess (.channelWrite ch false false) d = enterFaulted .headerFault d := by
  cases ch with
  | shadow n => exact absurd rfl (h n)
  | window | peer | markCounters | linkCounters | sightingCounters | acknowledgment | produced => rfl

/-- Settles O24, the seven writes by the one rule of their completions. -/
theorem coalescedWritesComplete : Obligations.CoalescedWritesComplete := by
  refine ⟨fun f sel ch a s mem h kind => ?_, fun ch d => reissue_idle, fun ch d can owed within => ?_⟩
  · obtain ⟨completes, no_shadow⟩ := coalesced_completes mem
    have plain : ∀ n, ch ≠ .shadow n := fun n e => by
      have selected := awaited_selected h
      rw [kind, e, no_shadow] at selected
      exact Bool.noConfusion selected
    refine ⟨?_, fun running => ⟨enterFaulted .headerFault (dropAccess s.dev a.tag), ?_, ?_⟩⟩
    · rw [completes, complete_landed h, kind, channelLanded_plain plain]
      rfl
    · rw [completes, complete_failed h, kind, failAccess_plain plain]
    · have faults := enterFaulted_faults .headerFault (d := dropAccess s.dev a.tag) running
      exact ⟨faults.state, faults.reason, faults.run, faults.cause, faults.discarded⟩
  · obtain ⟨gone, more⟩ := reissue_issues can owed within
    exact ⟨gone, _, more, rfl, rfl, rfl⟩

/-! ### Failures -/

theorem deviceFailure_faults {f : Nat → Instr} {sel : AccessKind → Bool} {reason : FaultReason} (h : (f, sel, reason) ∈ deviceFailures)
    {a : Access} {s : State} (waits : awaited s.dev a sel) :
    exec (f a.tag) s = .next { s with dev := settle (enterFaulted reason (dropAccess s.dev a.tag)) } := by
  have fails (act : AccessKind → Device → Device) (kind : ∀ k d, sel k = true → failAccess k d = enterFaulted reason d) :
      complete a.tag sel false act s = { s with dev := settle (enterFaulted reason (dropAccess s.dev a.tag)) } := by
    rw [complete_failed waits, kind _ _ (awaited_selected waits)]
  simp only [deviceFailures, List.mem_cons, Prod.mk.injEq, List.not_mem_nil, or_false] at h
  rcases h with ⟨rfl, rfl, rfl⟩ | ⟨rfl, rfl, rfl⟩ | ⟨rfl, rfl, rfl⟩ | ⟨rfl, rfl, rfl⟩ | ⟨rfl, rfl, rfl⟩ | ⟨rfl, rfl, rfl⟩ |
    ⟨rfl, rfl, rfl⟩ | ⟨rfl, rfl, rfl⟩ | ⟨rfl, rfl, rfl⟩
  all_goals
    refine congrArg Host.Outcome.next (fails _ fun k d selected => ?_)
    cases k <;> cases selected
    rfl

theorem notRunFailed_slot {n : Fin 8} {d : Device} (state : d.slots[n].state = .draining)
    (reason : d.slots[n].reason = .aborted ∨ d.slots[n].reason = .planError) :
    (notRunFailed n d).slots[n].state = .draining ∧ (notRunFailed n d).slots[n].reason = .memoryFault ∧
      (notRunFailed n d).slots[n].closing = some .summary ∧ (notRunFailed n d).slots[n].verdicts = d.slots[n].verdicts ∧
      (notRunFailed n d).iface = d.iface := by
  obtain ⟨drained, replaced, -⟩ := (drainSlot_state n .memoryFault d).2 state
  have written := writeSummary_slots n n (drainSlot n .memoryFault d)
  rw [if_pos rfl] at written
  refine ⟨?_, ?_, ?_, ?_, ?_⟩
  · rw [notRunFailed, written]; exact drained
  · rw [notRunFailed, written]; exact replaced ((replacesReason_iff _ _).2 ⟨rfl, reason⟩)
  · rw [notRunFailed, written]
  · rw [notRunFailed, written]; exact (drainSlot_slot n .memoryFault d).1
  · rw [notRunFailed, writeSummary, (issueWrite_keeps _ _ _ _).2.2.2.1]
    exact (drainSlot_keeps _ _ _).2.2.2.1

theorem setPlace_stage (n m : Fin 8) (p q : Fin 2) (x : Place) (d : Device) :
    (d.setPlace n p x).sched[m].stage[q] = if m = n ∧ q = p then x else d.sched[m].stage[q] := by
  rw [Device.setPlace, Device.setSched_sched_get]
  by_cases e : m = n
  · subst e
    rw [if_pos rfl, vec_set_get]
    simp
  · simp [e]

/-- Settles O25, by the rule that owns each access. -/
theorem failedCompletions : Obligations.FailedCompletions := by
  have fails (a : Access) (sel : AccessKind → Bool) (k : AccessKind) (s : State) (h : awaited s.dev a sel) (kind : a.kind = k)
      (act : AccessKind → Device → Device) : (Host.Outcome.next (complete a.tag sel false act s) : Host.Outcome State Fault Refusal) =
        .next { s with dev := settle (failAccess k (dropAccess s.dev a.tag)) } := by
    rw [complete_failed h, kind]
  refine ⟨fun f sel reason a s mem h running => ?_, fun a n closing announces s h kind running => ?_, fun a n s h kind => ?_,
    fun a n p c s h kind state => ?_, fun a n c s h kind state reason => ?_, fun a w k s h kind walk state => ?_⟩
  · have faults := enterFaulted_faults reason (d := dropAccess s.dev a.tag) running
    exact ⟨_, deviceFailure_faults mem h, faults.state, faults.reason, faults.start, faults.scanTimer, faults.run, faults.cause,
      faults.discarded, faults.owed, faults.requests, faults.walks, faults.slots, faults.windows, faults.evaluating, faults.stops⟩
  · have faults := enterFaulted_faults (if closing then .closeFault else .slotWriteFault) (d := dropAccess s.dev a.tag) running
    exact ⟨_, fails a _ _ s h kind channelLanded, faults.state, faults.reason, faults.slots, faults.stops⟩
  · have noted := (rejectSlot_noted n .memoryFault (dropAccess s.dev a.tag)).fields
    exact ⟨_, fails a _ _ s h kind _, noted.1, noted.2.1, (owe_keeps _ _).2.2.2.1, owe_setSlot_due n _ _ False⟩
  · generalize he : (dropAccess s.dev a.tag).setPlace n p .empty = e
    have drainable : e.slots[n].state.drainable = true := by
      rw [← he, show ((dropAccess s.dev a.tag).setPlace n p .empty).slots[n].state = .running from state]; rfl
    obtain ⟨due, stops⟩ := drainSlot_enters n .memoryFault e drainable
    obtain ⟨drained, reason⟩ := (drainSlot_state n .memoryFault e).1 drainable
    refine ⟨drainSlot n .memoryFault e, by rw [← he]; exact fails a _ _ s h kind _, drained, reason, ?_, ?_,
      due.before (.of_eq (by rw [← he]; rfl) (by rw [← he]; rfl)),
      stops.sandwich (.of_eq (by rw [← he]; rfl)) (.of_eq rfl) (fun c => by rw [← he]; rfl)⟩
    · rw [drainSlot_stage n _ e drainable p, ← he, setPlace_stage, if_pos ⟨rfl, rfl⟩]
      rfl
    · rw [(drainSlot_keeps _ _ _).2.2.2.1, ← he]
      rfl
  · exact ⟨_, fails a _ _ s h kind _, notRunFailed_slot (d := dropAccess s.dev a.tag) state reason⟩
  · have drainable : (dropAccess s.dev a.tag).slots[k.area].state.drainable = true := by
      rcases state with x | x <;> rw [show (dropAccess s.dev a.tag).slots[k.area].state = _ from x] <;> rfl
    obtain ⟨drained, reason⟩ := (drainSlot_state k.area .memoryFault _).1 drainable
    have released := releaseWalk_keeps w none (drainSlot k.area .memoryFault (dropAccess s.dev a.tag))
    obtain ⟨sum, slot⟩ := releaseWalk_tallied w none (drainSlot k.area .memoryFault (dropAccess s.dev a.tag)) k.area
    refine ⟨releaseWalk w none (drainSlot k.area .memoryFault (dropAccess s.dev a.tag)), ?_, by rw [slot]; exact drained,
      by rw [slot]; exact reason, ?_, ?_, releaseWalk_ends _ _ _⟩
    · have failed := fails a _ _ s h kind (fun _ d => d)
      rw [failAccess, walkRead, show (dropAccess s.dev a.tag).walks[w] = some k from walk] at failed
      exact failed
    · rw [released.2.2.2.2.2.2.2.2.2.2]
      exact (drainSlot_keeps _ _ _).2.2.2.2.2.2.2.2.2.2.2.1
    · rw [released.2.2.1, (drainSlot_keeps _ _ _).2.2.2.1]
      rfl

end Sys2Proof.Machine.Closing

/-! ## Fetches, verdicts and the journal writer (1.6, 4.2, 9.8, 10.1) -/

namespace Sys2Proof.Machine.Verdicts
open Completions Halts BoardBytes HopVerdicts Starts Slots SlotWrites Closing

/-! ### Circuit fetches -/

theorem setStatus_entry {n : Fin 8} {c : Nat} {st : CircuitStatus} {d : Device} (h : st ≠ .queued) (m : Fin 8) (k : Nat) :
    circuitEntry (setStatus n c st d) m k = if m = n ∧ k = c then { circuitEntry d n c with status := st } else circuitEntry d m k :=
  setCircuit_entry n m c k _ d (fun e => h (congrArg CircuitEntry.status e))

theorem planErrorVerdict_bytes (id : Word) (g : Half) (voids : Nat) {b : List Byte}
    (h : b = verdictBytes (planErrorVerdict id g voids)) :
    word b 0 = id ∧ half b 4 = g ∧ u8 b 6 = 0 ∧ half b 8 = 1#16 ∧ s16 b 0x0C = -32768 := by
  have head := verdictBytes_head (planErrorVerdict id g voids)
  rw [← h] at head
  obtain ⟨circuit, generation, code, -, findings, -, -, margin, -⟩ := head
  have primary : (planErrorVerdict id g voids).code = 0 := rfl
  have alone : findingBits { Findings.clear with planError := true } = 1#16 := by decide
  have without : (planErrorVerdict id g voids).margin = none := rfl
  rw [primary] at code
  rw [without] at margin
  exact ⟨circuit, generation, by rw [u8, code]; decide, findings.trans alone, by rw [s16, margin]; decide⟩

theorem issueVerdict_writing {n : Fin 8} {c : Nat} {x : Option (Fin 16)} {v : Verdict} {d : Device} (can : canAccess d = true)
    (within : inWindow d.iface.bounds (d.slots[n].desc.verdictBase + c * 64) 64 = true) :
    writing (issueVerdict n c x v d) (d.slots[n].desc.verdictBase + c * 64) (verdictBytes v)
      (.verdictWrite n v.generation c x v.code v.margin) :=
  writing_issue can (by rw [verdictBytes_length]; exact within)

theorem verdictWithheld_open {n : Fin 8} {d : Device} (h : d.slots[n].state ≠ .draining) : verdictWithheld n d = !canAccess d := by
  rw [verdictWithheld, beq_eq_false_iff_ne.2 h, Bool.false_and, Bool.false_or]

/-- The device when a fetched circuit has failed its checks, before its verdict is written. -/
def refusedCircuit (n : Fin 8) (p : Fin 2) (c : Nat) (d : Device) : Device := setStatus n c .inFlight (d.setPlace n p .empty)

theorem planErrorAtFetch_does (n : Fin 8) (p : Fin 2) (c : Nat) (b : List Byte) {d : Device} (h : d.slots[n].state ≠ .draining) :
    (∃ x, planErrorAtFetch n p c b d = { refusedCircuit n p c d with dma := x }) ∧
    (canAccess d = true → inWindow d.iface.bounds (d.slots[n].desc.verdictBase + c * 64) 64 = true →
      writing (planErrorAtFetch n p c b d) (d.slots[n].desc.verdictBase + c * 64)
        (verdictBytes (planErrorVerdict (word b 0) d.slots[n].generation (circuitEntry d n c).voids))
        (.verdictWrite n d.slots[n].generation c none 0 none)) := by
  have withheld : verdictWithheld n (refusedCircuit n p c d) = !canAccess d := verdictWithheld_open (d := refusedCircuit n p c d) h
  have fetch : planErrorAtFetch n p c b d = if verdictWithheld n (refusedCircuit n p c d) then refusedCircuit n p c d else
    issueVerdict n c none (planErrorVerdict (word b 0) d.slots[n].generation (circuitEntry d n c).voids) (refusedCircuit n p c d) := rfl
  rw [fetch, withheld]
  cases can : canAccess d with
  | false => exact ⟨⟨_, rfl⟩, fun access => Bool.noConfusion access⟩
  | true =>
    exact ⟨issue_frame _ _ _ _ _ _, fun _ within =>
      issueVerdict_writing (n := n) (c := c) (x := none) (d := refusedCircuit n p c d) can within⟩

theorem refusedCircuit_place (n : Fin 8) (p : Fin 2) (c : Nat) (d : Device) : (refusedCircuit n p c d).sched[n].stage[p] = .empty := by
  rw [refusedCircuit, setStatus, setCircuit, Device.setSched_sched_get, if_pos rfl]
  exact (setPlace_stage n n p p .empty d).trans (if_pos ⟨rfl, rfl⟩)

theorem circuitFetched_staged {n : Fin 8} {p : Fin 2} {c : Nat} {b : List Byte} {d : Device} {rec : Circuit}
    (h : d.slots[n].state ≠ .draining) (good : circuit? d.slots[n].desc.reach d.slots[n].desc.nmax b = some rec) :
    circuitFetched n p c b d = d.setPlace n p (.fetched c rec) := by
  rw [circuitFetched, if_neg h, good]

theorem circuitFetched_refused {n : Fin 8} {p : Fin 2} {c : Nat} {b : List Byte} {d : Device}
    (h : d.slots[n].state ≠ .draining) (bad : circuit? d.slots[n].desc.reach d.slots[n].desc.nmax b = none) :
    circuitFetched n p c b d = planErrorAtFetch n p c b d := by
  rw [circuitFetched, if_neg h, bad]

/-- Settles O31, by the slot's state and the circuit's checks. -/
theorem circuitFetchDone : Obligations.CircuitFetchDone := by
  intro a n p c b s h kind
  have taken := complete_landed h (fetchTaken b)
  rw [kind] at taken
  by_cases draining : s.dev.slots[n].state = .draining
  · have fetched : circuitFetched n p c b (dropAccess s.dev a.tag) = (dropAccess s.dev a.tag).setPlace n p .empty := if_pos draining
    refine ⟨(dropAccess s.dev a.tag).setPlace n p .empty, ?_, fun _ => ⟨?_, ?_⟩, fun other => absurd draining other,
      fun other => absurd draining other, rfl, rfl⟩
    · rw [← fetched]; exact congrArg Host.Outcome.next taken
    · rw [setPlace_stage, if_pos ⟨rfl, rfl⟩]
    · unfold circuitEntry
      rw [Device.setPlace, Device.setSched_sched_get, if_pos rfl]
      rfl
  · cases good : circuit? s.dev.slots[n].desc.reach s.dev.slots[n].desc.nmax b with
    | some rec =>
      have fetched : circuitFetched n p c b (dropAccess s.dev a.tag) = (dropAccess s.dev a.tag).setPlace n p (.fetched c rec) := circuitFetched_staged draining good
      refine ⟨(dropAccess s.dev a.tag).setPlace n p (.fetched c rec), ?_, fun other => absurd other draining,
        fun _ rec' same => ?_, (fun _ bad => absurd bad (by simp)), rfl, rfl⟩
      · rw [← fetched]; exact congrArg Host.Outcome.next taken
      · obtain rfl := Option.some.inj same
        rw [setPlace_stage, if_pos ⟨rfl, rfl⟩]
    | none =>
      have fetched : circuitFetched n p c b (dropAccess s.dev a.tag) = planErrorAtFetch n p c b (dropAccess s.dev a.tag) := circuitFetched_refused draining good
      obtain ⟨⟨x, frame⟩, writes⟩ := planErrorAtFetch_does n p c b (d := dropAccess s.dev a.tag) draining
      refine ⟨planErrorAtFetch n p c b (dropAccess s.dev a.tag), ?_, fun other => absurd other draining,
        (fun _ rec' bad => absurd bad (by simp)), fun _ _ => ⟨?_, ?_, fun can within => ?_⟩, ?_, ?_⟩
      · rw [← fetched]; exact congrArg Host.Outcome.next taken
      · rw [frame]; exact refusedCircuit_place n p c _
      · rw [frame]
        show (circuitEntry (refusedCircuit n p c _) n c).status = _
        rw [refusedCircuit, setStatus_entry (by simp), if_pos ⟨rfl, rfl⟩]
      · obtain ⟨w, mem, wk, wa, wl, wd, live⟩ := writes can within
        obtain ⟨id, generation, code, findings, margin⟩ := planErrorVerdict_bytes _ _ _ wd
        exact ⟨w, mem, wk, wa, live, by rw [wd]; exact verdictBytes_length _, id, generation, code, findings, margin⟩
      · rw [frame]; rfl
      · rw [frame]; rfl

/-! ### Verdict writes -/

/-- The device when a verdict record write has landed, before the table may be full. -/
def counted (n : Fin 8) (c : Nat) (x : Option (Fin 16)) (code : Fin 12) (m : Option Int) (d : Device) : Device :=
  (setStatus n c .done (freeIfAny x d)).setSlot n (d.slots[n].countVerdict code m)

theorem freeIfAny_slots (x : Option (Fin 16)) (d : Device) : (freeIfAny x d).slots = d.slots := by
  obtain ⟨⟨p, h⟩, -⟩ := freeIfAny_frame x d
  rw [h]

theorem verdictLanded_eq {n : Fin 8} {g : Half} {c : Nat} {x : Option (Fin 16)} {code : Fin 12} {m : Option Int} {d : Device}
    (h : d.slots[n].generation = g) : verdictLanded n g c x code m d = completeIfDone n (counted n c x code m d) := by
  unfold verdictLanded
  dsimp only
  rw [freeIfAny_slots, if_pos h]
  rfl

/-- What a verdict's freed record leaves: the rest of the device, and of the probe table the other records. -/
structure Freed (x : Option (Fin 16)) (d e : Device) : Prop where
  iface : e.iface = d.iface
  launch : e.launch = d.launch
  dma : e.dma = d.dma
  gone : ∀ r, x = some r → e.probes.records[r] = none ∧ r ∉ e.probes.order
  kept : ∀ q : Fin 16, x ≠ some q → e.probes.records[q] = d.probes.records[q]

theorem freeIfAny_freed (x : Option (Fin 16)) (d : Device) : Freed x d (freeIfAny x d) := by
  obtain ⟨⟨p, h⟩, gone, kept⟩ := freeIfAny_frame x d
  exact ⟨by rw [h], by rw [h], by rw [h], gone, kept⟩

theorem counted_freed (n : Fin 8) (c : Nat) (x : Option (Fin 16)) (code : Fin 12) (m : Option Int) (d : Device) :
    Freed x d (counted n c x code m d) :=
  ⟨(freeIfAny_freed x d).iface, (freeIfAny_freed x d).launch, (freeIfAny_freed x d).dma, (freeIfAny_freed x d).gone,
    (freeIfAny_freed x d).kept⟩

theorem Freed.sounding {x : Option (Fin 16)} {d e : Device} (h : Freed x d e) (n : Fin 8) (c : Fin 8) :
    sounding e (fun q => q.slot = n) c ↔ soundingBeside d n x c := by
  constructor
  · rintro ⟨r, p, record, slot, state, ctx⟩
    have beside : x ≠ some r := fun e => by rw [(h.gone r e).1] at record; cases record
    exact ⟨r, p, beside, by rw [← h.kept r beside]; exact record, slot, state, ctx⟩
  · rintro ⟨r, p, beside, record, slot, state, ctx⟩
    exact ⟨r, p, by rw [h.kept r beside]; exact record, slot, state, ctx⟩

/-- A drain behind a freed record. -/
theorem Freed.drains {x : Option (Fin 16)} {d e : Device} (h : Freed x d e) {n : Fin 8} (r : Reason)
    (drainable : e.slots[n].state.drainable = true) :
    (drainSlot n r e).slots[n].state = .draining ∧ (drainSlot n r e).slots[n].reason = r ∧
      shadowDue d (drainSlot n r e) n False ∧ stopsIssued d (drainSlot n r e) (soundingBeside d n x) := by
  obtain ⟨due, stops⟩ := drainSlot_enters n r e drainable
  obtain ⟨state, reason⟩ := (drainSlot_state n r e).1 drainable
  exact ⟨state, reason, due.before (.of_eq h.iface h.dma), stops.sandwich (.of_eq h.launch) (.of_eq rfl) (h.sounding n)⟩

theorem Freed.drained {x : Option (Fin 16)} {d e : Device} (h : Freed x d e) (n : Fin 8) (r : Reason) :
    (drainSlot n r e).iface = d.iface ∧
      ∀ k, x = some k → (drainSlot n r e).probes.records[k] = none ∧ k ∉ (drainSlot n r e).probes.order := by
  refine ⟨((drainSlot_keeps n r e).2.2.2.1).trans h.iface, fun k hk => ?_⟩
  obtain ⟨records, order⟩ := (drainSlot_thins n r e).1
  obtain ⟨gone, out⟩ := h.gone k hk
  refine ⟨Option.eq_none_iff_forall_ne_some.2 fun p hp => ?_, fun mem => out (order k mem)⟩
  rw [records k p hp] at gone
  cases gone

theorem counted_slot (n : Fin 8) (c : Nat) (x : Option (Fin 16)) (code : Fin 12) (m : Option Int) (d : Device) :
    (counted n c x code m d).slots[n] = d.slots[n].countVerdict code m := by
  rw [counted, Device.setSlot_slots_get, if_pos rfl]

theorem counted_other {n k : Fin 8} (c : Nat) (x : Option (Fin 16)) (code : Fin 12) (m : Option Int) (d : Device) (h : k ≠ n) :
    (counted n c x code m d).slots[k] = d.slots[k] := by
  rw [counted, Device.setSlot_slots_get, if_neg h]
  exact congrArg (fun v : Vector Slot 8 => v[k]) (freeIfAny_slots x d)

theorem counted_entry (n : Fin 8) (c : Nat) (x : Option (Fin 16)) (code : Fin 12) (m : Option Int) (d : Device) :
    circuitEntry (counted n c x code m d) n c = ⟨.done, (circuitEntry d n c).voids⟩ := by
  have entry : circuitEntry (counted n c x code m d) n c = circuitEntry (setStatus n c .done (freeIfAny x d)) n c :=
    circuitEntry_congr rfl n c
  obtain ⟨⟨p, h⟩, -⟩ := freeIfAny_frame x d
  rw [entry, setStatus_entry (by simp), if_pos ⟨rfl, rfl⟩, h]
  rfl

/-- What a landed verdict write does, whether the table is then full or not. -/
theorem completeIfDone_counts (a : Access) (n : Fin 8) (c : Nat) (x : Option (Fin 16)) (code : Fin 12) (m : Option Int) (d : Device) :
    verdictCounted d (completeIfDone n (counted n c x code m (dropAccess d a.tag))) a n c x code m := by
  generalize he : counted n c x code m (dropAccess d a.tag) = e
  have freed : Freed x (dropAccess d a.tag) e := by rw [← he]; exact counted_freed _ _ _ _ _ _
  have slot : e.slots[n] = d.slots[n].countVerdict code m := by rw [← he]; exact counted_slot _ _ _ _ _ _
  have other : ∀ k : Fin 8, k ≠ n → e.slots[k] = d.slots[k] := fun k hk => by rw [← he]; exact counted_other _ _ _ _ _ hk
  have entry : circuitEntry e n c = ⟨.done, (circuitEntry d n c).voids⟩ := by rw [← he]; exact counted_entry _ _ _ _ _ _
  have sums : (d.slots[n].countVerdict code m).summary.codes[code] = d.slots[n].summary.codes[code] + 1#32 ∧
      (m = none → (d.slots[n].countVerdict code m).summary.bins = d.slots[n].summary.bins) ∧
      ∀ v, m = some v → (d.slots[n].countVerdict code m).summary.bins[marginBin v] = d.slots[n].summary.bins[marginBin v] + 1#32 := by
    refine ⟨by simp [Slot.countVerdict, Summary.count], fun hm => by rw [hm]; rfl, fun v hv => ?_⟩
    rw [hv]
    simp [Slot.countVerdict, Summary.count]
  have condition : (e.slots[n].verdicts = e.slots[n].desc.count ∧ (e.slots[n].state = .running ∨ e.slots[n].state = .suspended)) ↔
      ((d.slots[n].state = .running ∨ d.slots[n].state = .suspended) ∧ d.slots[n].verdicts + 1 = d.slots[n].desc.count) := by
    rw [slot]
    exact and_comm
  unfold completeIfDone
  by_cases full : e.slots[n].verdicts = e.slots[n].desc.count ∧ (e.slots[n].state = .running ∨ e.slots[n].state = .suspended)
  · have drainable : e.slots[n].state.drainable = true := by rcases full.2 with s | s <;> rw [s] <;> rfl
    obtain ⟨state, reason, due, stops⟩ := freed.drains (.complete) drainable
    obtain ⟨verdicts, summary, others⟩ := drainSlot_slot n .complete e
    have entryE : circuitEntry (drainSlot n .complete e) n c = circuitEntry e n c :=
      (drainSlot_thins n .complete e).2 c (.inl (by rw [entry]; simp))
    rw [if_pos full]
    refine ⟨by rw [entryE, entry], by rw [entryE, entry], by rw [verdicts, slot]; rfl, by rw [summary, slot]; exact sums.1,
      fun hm => by rw [summary, slot]; exact sums.2.1 hm, fun v hv => by rw [summary, slot]; exact sums.2.2 v hv,
      fun k hk => (others k hk).trans (other k hk), ?_⟩
    rw [if_pos (condition.1 full)]
    exact ⟨state, reason, due, stops.sandwich (.of_eq rfl) (.of_eq rfl) (fun _ => Iff.rfl)⟩
  · rw [if_neg full]
    refine ⟨by rw [entry], by rw [entry], by rw [slot]; rfl, by rw [slot]; exact sums.1, fun hm => by rw [slot]; exact sums.2.1 hm,
      fun v hv => by rw [slot]; exact sums.2.2 v hv, other, ?_⟩
    rw [if_neg (fun t => full (condition.2 t))]
    exact ⟨by rw [slot]; rfl, by rw [slot]; rfl, freed.kept, freed.launch⟩

/-- What a failed verdict write does. -/
theorem verdictFailed_loses (a : Access) (n : Fin 8) (c : Nat) (x : Option (Fin 16)) (d : Device) :
    verdictLost d (verdictFailed n x (dropAccess d a.tag)) a n c x := by
  unfold verdictFailed
  generalize he : freeIfAny x (dropAccess d a.tag) = e
  have freed : Freed x (dropAccess d a.tag) e := by rw [← he]; exact freeIfAny_freed _ _
  have slots : e.slots = d.slots := by rw [← he, freeIfAny_slots]; rfl
  obtain ⟨verdicts, summary, others⟩ := drainSlot_slot n .memoryFault e
  refine ⟨by rw [verdicts, slots], by rw [summary, slots], fun k hk => by rw [others k hk, slots], fun alone => ?_, fun state => ?_,
    fun state => ?_⟩
  · rw [(drainSlot_thins n .memoryFault e).2 c (.inr fun q p record slot => ?_)]
    · rw [← he]
      obtain ⟨⟨p, h⟩, -⟩ := freeIfAny_frame x (dropAccess d a.tag)
      exact circuitEntry_congr (by rw [h]; rfl) n c
    · have beside : x ≠ some q := fun hx => by rw [(freed.gone q hx).1] at record; cases record
      exact alone q p beside (by rw [freed.kept q beside] at record; exact record) slot
  · have drainable : e.slots[n].state.drainable = true := by rw [slots]; rcases state with s | s | s <;> rw [s] <;> rfl
    obtain ⟨drained, reason, due, stops⟩ := freed.drains .memoryFault drainable
    exact ⟨drained, reason, due, stops.sandwich (.of_eq rfl) (.of_eq rfl) (fun _ => Iff.rfl)⟩
  · have draining : e.slots[n].state = .draining := by rw [slots]; exact state
    obtain ⟨due, launch, probes⟩ := drainSlot_again n .memoryFault e draining
    obtain ⟨stays, replaced, stands⟩ := (drainSlot_state n .memoryFault e).2 draining
    refine ⟨stays, fun q hq => by rw [probes]; exact freed.kept q hq, by rw [launch]; exact freed.launch, ?_⟩
    split
    · next reason =>
      have faulty : (drainSlot n .memoryFault e).slots[n].reason = .memoryFault :=
        replaced ((replacesReason_iff _ _).2 ⟨rfl, by rw [slots]; exact reason⟩)
      refine ⟨faulty, (due ?_).before (.of_eq freed.iface freed.dma)⟩
      rw [faulty, slots]
      rcases reason with r | r <;> rw [r] <;> simp
    · next reason =>
      rw [stands (Bool.eq_false_iff.2 fun t => reason (by
        have back := ((replacesReason_iff _ _).1 t).2
        rwa [slots] at back)), slots]

/-- Settles O32, a probe's verdict and one of no probe by one rule. -/
theorem verdictWriteDone : Obligations.VerdictWriteDone := by
  have landed (a : Access) (n : Fin 8) (g : Half) (c : Nat) (x : Option (Fin 16)) (code : Fin 12) (m : Option Int) (s : State)
      (h : awaited s.dev a isVerdictWrite) (kind : a.kind = .verdictWrite n g c x code m) (current : s.dev.slots[n].generation = g) :
      exec (.verdictWriteDone a.tag true) s = .next { s with
        board := Memory.write s.board a.addr a.data
        dev := settle (completeIfDone n (counted n c x code m (dropAccess s.dev a.tag))) } := by
    have taken := complete_landed h verdictTaken
    rw [kind] at taken
    rw [← verdictLanded_eq (d := dropAccess s.dev a.tag) current]
    exact congrArg Host.Outcome.next taken
  have failed (a : Access) (n : Fin 8) (g : Half) (c : Nat) (x : Option (Fin 16)) (code : Fin 12) (m : Option Int) (s : State)
      (h : awaited s.dev a isVerdictWrite) (kind : a.kind = .verdictWrite n g c x code m) :
      exec (.verdictWriteDone a.tag false) s = .next { s with dev := settle (verdictFailed n x (dropAccess s.dev a.tag)) } := by
    have taken := complete_failed h verdictTaken
    rw [kind] at taken
    exact congrArg Host.Outcome.next taken
  have full (n : Fin 8) (c : Nat) (x : Option (Fin 16)) (code : Fin 12) (m : Option Int) (d : Device) :
      (completeIfDone n (counted n c x code m d)).iface = d.iface ∧ ∀ k, x = some k →
        (completeIfDone n (counted n c x code m d)).probes.records[k] = none ∧
          k ∉ (completeIfDone n (counted n c x code m d)).probes.order := by
    have freed := counted_freed n c x code m d
    unfold completeIfDone
    split
    · exact freed.drained n .complete
    · exact ⟨freed.iface, freed.gone⟩
  refine ⟨fun a n g c r code m s h kind => ⟨fun current => ?_, ?_⟩, fun a n g c code m s h kind => ⟨fun current => ?_, ?_⟩⟩
  · obtain ⟨iface, gone⟩ := full n c (some r) code m (dropAccess s.dev a.tag)
    exact ⟨_, landed a n g c (some r) code m s h kind current, (gone r rfl).1, (gone r rfl).2, iface,
      completeIfDone_counts a n c (some r) code m s.dev⟩
  · obtain ⟨iface, gone⟩ := (freeIfAny_freed (some r) (dropAccess s.dev a.tag)).drained n .memoryFault
    exact ⟨_, failed a n g c (some r) code m s h kind, (gone r rfl).1, (gone r rfl).2, iface, verdictFailed_loses a n c (some r) s.dev⟩
  · exact ⟨_, landed a n g c none code m s h kind current, (full n c none code m (dropAccess s.dev a.tag)).1,
      completeIfDone_counts a n c none code m s.dev⟩
  · exact ⟨_, failed a n g c none code m s h kind, ((freeIfAny_freed none (dropAccess s.dev a.tag)).drained n .memoryFault).1,
      verdictFailed_loses a n c none s.dev⟩

end Sys2Proof.Machine.Verdicts

/-! ## The journal writer (10.1, 11.2) -/

namespace Sys2Proof.Machine.Writer
open Completions BoardBytes SettingsInForce

/-! ### A request that overflows -/

theorem journalOverflow_counts (d : Device) :
    (journalOverflow d).journal = { d.journal with overflow := d.journal.overflow + 1#32, notified := true } := by
  unfold journalOverflow
  dsimp only
  split
  · next notified =>
    have before : d.journal.notified = true := by simpa using notified
    simp [← before]
  · simp [raise]

theorem journalOverflow_raises {d : Device} (h : d.journal.notified = false) :
    (journalOverflow d).regs.irqCause.getLsbD 1 = true := by
  unfold journalOverflow
  dsimp only
  rw [if_neg (by simp [h])]
  simp [raise, Cause.mask]

/-- An overflow does with the accesses what owing the produced-count write does. -/
theorem journalOverflow_owes (d : Device) : ∃ e : Device, e.iface = d.iface ∧ e.dma = d.dma ∧
    producedBytes e.journal = producedBytes (journalOverflow d).journal ∧ (journalOverflow d).iface = (owe .produced e).iface ∧
    (journalOverflow d).dma = (owe .produced e).dma := by
  refine ⟨{ d with journal := { d.journal with overflow := d.journal.overflow + 1#32 } }, rfl, rfl, ?_⟩
  rw [journalOverflow_counts]
  unfold journalOverflow
  dsimp only
  split
  · exact ⟨rfl, rfl, rfl⟩
  · exact ⟨rfl, rfl, rfl⟩

theorem live_of_dma {d e : Device} (h : e.dma = d.dma) (q : AccessKind → Bool) : live e q = live d q := by rw [live, live, h]

theorem canAccess_of_iface {d e : Device} (h : e.iface = d.iface) : canAccess e = canAccess d := by rw [canAccess, canAccess, h]

theorem journalOverflow_due (d : Device) :
    writeShown d (journalOverflow d) .produced (boardAddr d 0x1C) (producedBytes (journalOverflow d).journal) := by
  obtain ⟨e, iface, dma, bytes, iface', dma'⟩ := journalOverflow_owes d
  have due : writeShown e (owe .produced e) .produced (boardAddr e 0x1C) (producedBytes e.journal) := owe_due .produced e
  have address : boardAddr e 0x1C = boardAddr d 0x1C := by rw [boardAddr, boardAddr, iface]
  rw [bytes, address] at due
  exact (due.start iface dma).after (.of_eq iface' dma') id

theorem journalOverflow_writing {d : Device} (can : canAccess d = true) : live (journalOverflow d) (ofChannel .produced) = true := by
  obtain ⟨e, iface, -, -, -, dma'⟩ := journalOverflow_owes d
  rw [live_of_dma dma']
  exact live_owe .produced e ((canAccess_of_iface iface).trans can)

theorem journalOverflow_owed {d : Device} (can : canAccess d = true) (busy : live d (ofChannel .produced) = true) :
    Channel.produced ∈ (journalOverflow d).dma.owed := (journalOverflow_due d can).1 busy

/-! ### The request list -/

theorem serveJournal_waits {d : Device} (busy : live d isJournalWrite = true) : serveJournal d = d := by
  have steps (n : Nat) : serveJournalSteps n d = d := by
    cases n with
    | zero => rfl
    | succ n =>
      unfold serveJournalSteps
      split
      · rw [if_pos busy]
      · rfl
  rw [serveJournal, steps, ite_self]

theorem serveJournal_writes {r : Ring} {e : JournalEntry} {rest : List JournalEntry} {d : Device} (can : canAccess d = true)
    (ring : d.journal.ring = some r) (front : d.journal.requests = e :: rest) (idle : live d isJournalWrite = false)
    (room : d.journal.fill < r.size) : serveJournal d = writeJournal r e rest d := by
  rw [serveJournal, if_pos can, front, List.length_cons]
  unfold serveJournalSteps
  rw [ring, front]
  dsimp only
  rw [if_neg (by rw [idle]; exact Bool.false_ne_true), if_pos room]

/-- Against a full ring every request of the list overflows. -/
theorem serveSteps_full {r : Ring} (requests : List JournalEntry) : ∀ {d : Device}, d.journal.ring = some r →
    d.journal.requests = requests → live d isJournalWrite = false → r.size ≤ d.journal.fill →
    live (serveJournalSteps requests.length d) isJournalWrite = false ∧
      (serveJournalSteps requests.length d).journal.requests = [] ∧
      (serveJournalSteps requests.length d).journal.overflow = d.journal.overflow + BitVec.ofNat 32 requests.length := by
  induction requests with
  | nil => exact fun _ none idle _ => ⟨idle, none, by simp [serveJournalSteps]⟩
  | cons e rest ih =>
    intro d ring front idle full
    have step : serveJournalSteps (e :: rest).length d =
        serveJournalSteps rest.length (journalOverflow { d with journal := { d.journal with requests := rest } }) := by
      rw [List.length_cons]
      conv_lhs => unfold serveJournalSteps
      rw [ring, front]
      dsimp only
      rw [if_neg (by rw [idle]; exact Bool.false_ne_true), if_neg (by omega)]
    generalize hp : ({ d with journal := { d.journal with requests := rest } } : Device) = popped at step
    have journal := journalOverflow_counts popped
    have still : live (journalOverflow popped) isJournalWrite = false := by
      rw [(journalOverflow_adds popped (q := isJournalWrite) (fun _ _ => rfl)).live_eq, ← hp]
      exact idle
    obtain ⟨after, empty, count⟩ := ih (d := journalOverflow popped) (by rw [journal, ← hp]; exact ring)
      (by rw [journal, ← hp]) still (by rw [journal, ← hp]; exact full)
    rw [step]
    refine ⟨after, empty, ?_⟩
    rw [count, journal, ← hp]
    simp only [List.length_cons]
    rw [BitVec.ofNat_add, BitVec.add_assoc, BitVec.add_comm 1#32]

/-- Settles O30, by induction on the request list. -/
theorem fullRingWritesNothing : Obligations.FullRingWritesNothing := by
  intro d r ring full can idle
  rw [serveJournal, if_pos can]
  exact serveSteps_full d.journal.requests ring rfl idle full

/-- While a produced-count write is in flight, serving the list leaves the counts or owes another. -/
theorem serveSteps_produced (n : Nat) : ∀ {d : Device}, canAccess d = true → live d (ofChannel .produced) = true →
    (serveJournalSteps n d).journal.overflow = d.journal.overflow ∨ Channel.produced ∈ (serveJournalSteps n d).dma.owed := by
  induction n with
  | zero => exact fun _ _ => .inl rfl
  | succ n ih =>
    intro d can busy
    unfold serveJournalSteps
    split
    · next r e rest _ _ =>
      split
      · exact .inl rfl
      · split
        · exact .inl (by simp [writeJournal])
        · generalize hp : ({ d with journal := { d.journal with requests := rest } } : Device) = popped
          have owed : Channel.produced ∈ (journalOverflow popped).dma.owed :=
            journalOverflow_owed (by rw [← hp]; exact can) (by rw [← hp]; exact busy)
          have later := serveJournalSteps_adds (q := fun _ => false) (fun _ _ => rfl) rfl n (journalOverflow popped)
          exact .inr (later.owed _ owed)
    · exact .inl rfl

/-! ### Causes stay set -/

theorem raise_cause {c : Cause} {i : Nat} {d : Device} (h : d.regs.irqCause.getLsbD i = true) :
    (raise c d).regs.irqCause.getLsbD i = true := by
  simp only [raise, BitVec.getLsbD_or, h, Bool.true_or]

theorem journalOverflow_cause {i : Nat} {d : Device} (h : d.regs.irqCause.getLsbD i = true) :
    (journalOverflow d).regs.irqCause.getLsbD i = true := by
  unfold journalOverflow
  dsimp only
  split
  · simpa using h
  · exact raise_cause (by simpa using h)

theorem serveSteps_cause {i : Nat} (n : Nat) : ∀ {d : Device}, d.regs.irqCause.getLsbD i = true →
    (serveJournalSteps n d).regs.irqCause.getLsbD i = true := by
  induction n with
  | zero => exact fun h => h
  | succ n ih =>
    intro d h
    unfold serveJournalSteps
    split
    · split
      · exact h
      · split
        · simpa [writeJournal] using h
        · exact ih (journalOverflow_cause (by exact h))
    · exact h

theorem serveJournal_cause {i : Nat} {d : Device} (h : d.regs.irqCause.getLsbD i = true) :
    (serveJournal d).regs.irqCause.getLsbD i = true := by
  unfold serveJournal
  split
  · exact serveSteps_cause _ h
  · exact h

theorem journalRequest_cause (e : JournalEntry) (key : Option CoalesceKey) {i : Nat} {d : Device}
    (h : d.regs.irqCause.getLsbD i = true) : (journalRequest e key d).regs.irqCause.getLsbD i = true := by
  have enqueued {x : Device} (hx : x.regs.irqCause.getLsbD i = true) :
      (enqueueJournal e x).regs.irqCause.getLsbD i = true := by
    unfold enqueueJournal
    split
    · exact journalOverflow_cause hx
    · exact serveJournal_cause (by exact hx)
  unfold journalRequest
  split
  · split
    · exact enqueued h
    · split
      · exact h
      · exact enqueued (by exact h)
  · exact h

/-! ### A completed entry write -/

/-- The device when an entry write has landed, before the produced count is written and the list served. -/
def produced (d : Device) : Device :=
  let e := { d with journal := { d.journal with produced := d.journal.produced + 1#32 } }
  if crossesHalf ((d.journal.ring.map (·.size)).getD 0) d.journal.fill e.journal.fill then raise .journal e else e

theorem journalWritten_eq (d : Device) : journalWritten d = serveJournal (owe .produced (produced d)) := rfl

theorem produced_frame (d : Device) : ∃ c, produced d = { d with
    journal := { d.journal with produced := d.journal.produced + 1#32 }, regs := { d.regs with irqCause := c } } := by
  unfold produced
  dsimp only
  split
  · exact ⟨_, rfl⟩
  · exact ⟨_, rfl⟩

theorem journalWritten_counts (d : Device) : (journalWritten d).journal.produced = d.journal.produced + 1#32 ∧
    (journalWritten d).journal.consumed = d.journal.consumed := by
  obtain ⟨c, frame⟩ := produced_frame d
  have same := serveJournal_journal (owe .produced (produced d))
  rw [journalWritten_eq, same.produced, same.consumed]
  simp [frame]

theorem journalWritten_raises {r : Ring} {d : Device} (ring : d.journal.ring = some r) (below : 2 * d.journal.fill < r.size)
    (half : r.size ≤ 2 * ((journalWritten d).journal.produced - (journalWritten d).journal.consumed).toNat) :
    (journalWritten d).regs.irqCause.getLsbD 1 = true := by
  rw [(journalWritten_counts d).1, (journalWritten_counts d).2] at half
  have crosses : crossesHalf ((d.journal.ring.map (·.size)).getD 0) d.journal.fill
      (Journal.fill { d.journal with produced := d.journal.produced + 1#32 }) = true := by
    rw [ring]
    exact Bool.and_eq_true_iff.2 ⟨decide_eq_true below, decide_eq_true half⟩
  have raised : (produced d).regs.irqCause.getLsbD 1 = true := by
    unfold produced
    dsimp only
    rw [if_pos crosses]
    simp [raise, Cause.mask]
  rw [journalWritten_eq]
  exact serveJournal_cause (by simpa using raised)

theorem journalWritten_due (d : Device) : writeFollows d (journalWritten d) .produced (boardAddr d 0x1C)
    (producedBytes (journalWritten d).journal) := by
  intro can
  obtain ⟨c, frame⟩ := produced_frame d
  have iface : (produced d).iface = d.iface := by rw [frame]
  have dma : (produced d).dma = d.dma := by rw [frame]
  have address : boardAddr (produced d) 0x1C = boardAddr d 0x1C := by rw [boardAddr, boardAddr, iface]
  have can' : canAccess (produced d) = true := (canAccess_of_iface iface).trans can
  generalize he : owe .produced (produced d) = e
  have journal : e.journal = (produced d).journal := by rw [← he]; simp
  have due : writeShown (produced d) e .produced (boardAddr (produced d) 0x1C) (producedBytes (produced d).journal) := by
    rw [← he]; exact owe_due .produced (produced d)
  have writing : live e (ofChannel .produced) = true := by rw [← he]; exact live_owe .produced _ can'
  have canE : canAccess e = true := by
    rw [← he, canAccess_of_iface (owe_keeps .produced _).2.2.2.1]; exact can'
  have last : producedBytes (serveJournal e).journal = producedBytes (produced d).journal ∨
      Channel.produced ∈ (serveJournal e).dma.owed := by
    rw [serveJournal, if_pos canE]
    refine (serveSteps_produced _ canE writing).imp (fun counts => ?_) id
    rw [producedBytes, producedBytes, counts, (serveJournalSteps_journal _ e).produced, journal]
  rw [journalWritten_eq, he]
  rw [address] at due
  have later := (due.start iface dma).after (serveJournal_adds (q := fun _ => false) (fun _ _ => rfl) rfl e)
    (p' := Channel.produced ∈ (serveJournal e).dma.owed) False.elim can
  refine ⟨later.1, fun idle within => ?_⟩
  rcases last with same | owed
  · rw [same] at within ⊢
    exact later.2 idle within
  · obtain ⟨a, mem, kind, addr, len, -, live⟩ := later.2 idle (by rwa [length_producedBytes] at within ⊢)
    exact ⟨a, mem, kind, addr, by rw [len, length_producedBytes, length_producedBytes], .inr owed, live⟩

/-! ### Entry requests -/

theorem journalRequest_refused {e : JournalEntry} {key : Option CoalesceKey} {d : Device}
    (h : d.journal.usable = false ∨ d.iface.state = .faulted) : journalRequest e key d = d := by
  have shut : ¬ journalOpen d = true := by rcases h with h | h <;> simp [journalOpen, h]
  unfold journalRequest
  exact if_neg shut

theorem journalRequest_coalesced {e : JournalEntry} {k : CoalesceKey} {d : Device} (h : k ∈ d.journal.memory) :
    journalRequest e (some k) d = d := by
  unfold journalRequest
  split
  · exact if_pos h
  · rfl

section
variable {e : JournalEntry} {d : Device} (usable : d.journal.usable = true) (sound : d.iface.state ≠ .faulted)
include usable sound

theorem journalRequest_keyed {k : CoalesceKey} (h : k ∉ d.journal.memory) : journalRequest e (some k) d =
    journalRequest e none { d with journal := { d.journal with memory := d.journal.memory ++ [k] } } := by
  have isOpen : journalOpen d = true := by simp [journalOpen, usable, sound]
  have isOpen' : journalOpen { d with journal := { d.journal with memory := d.journal.memory ++ [k] } } = true := isOpen
  have keyed : journalRequest e (some k) d = if k ∈ d.journal.memory then d
      else enqueueJournal e { d with journal := { d.journal with memory := d.journal.memory ++ [k] } } := if_pos isOpen
  exact keyed.trans ((if_neg h).trans (if_pos isOpen').symm)

theorem journalRequest_unkeyed : journalRequest e none d = enqueueJournal e d := by
  have isOpen : journalOpen d = true := by simp [journalOpen, usable, sound]
  exact if_pos isOpen

theorem journalRequest_overflows (h : 16 ≤ d.journal.requests.length) : journalRequest e none d = journalOverflow d := by
  rw [journalRequest_unkeyed usable sound]
  exact if_pos h

theorem journalRequest_listed (h : d.journal.requests.length < 16) : journalRequest e none d = serveJournal { d with
    journal := { d.journal with requests := d.journal.requests ++ [{ e with stamp := d.rounds.number }] } } := by
  rw [journalRequest_unkeyed usable sound]
  exact if_neg (Nat.not_le.2 h)
end

/-- With no request listed and the ring not full, a request's entry is written at once. -/
theorem journalRequest_written {e : JournalEntry} {d : Device} {r : Ring} (usable : d.journal.usable = true)
    (sound : d.iface.state ≠ .faulted) (none : d.journal.requests = []) (ring : d.journal.ring = some r)
    (idle : live d isJournalWrite = false) (can : canAccess d = true) (room : d.journal.fill < r.size)
    (within : inWindow d.iface.bounds (r.base + d.journal.produced.toNat % r.size * 32) 32 = true) :
    (journalRequest e .none d).journal = d.journal ∧
    ∃ w, (journalRequest e .none d).dma.inFlight = d.dma.inFlight ++ [w] ∧ w.kind = .journalWrite ∧
      w.addr = r.base + d.journal.produced.toNat % r.size * 32 ∧ w.discarded = false ∧
      w.data = journalBytes d.journal.produced { e with stamp := d.rounds.number } := by
  have served : journalRequest e .none d = writeJournal r { e with stamp := d.rounds.number } [] { d with
      journal := { d.journal with requests := d.journal.requests ++ [{ e with stamp := d.rounds.number }] } } := by
    rw [journalRequest_listed usable sound (by rw [none]; decide)]
    exact serveJournal_writes (by exact can) (by exact ring) (by dsimp only; rw [none]; rfl) (by exact idle) (by exact room)
  have emptied : ({ d.journal with requests := [] } : Journal) = d.journal := by rw [← none]
  rw [served, writeJournal, issueWrite, issue_inWindow _ _ _ _ _ _ (by exact can) (by rw [length_journalBytes]; exact within)]
  exact ⟨emptied, _, rfl, rfl, rfl, rfl, rfl⟩

theorem takeSighting_coalesced {p : Fin 16} {b : SightingBody} {d : Device}
    (h : .creditViolation (BitVec.ofNat 8 p.val) ∈ d.journal.memory) : (takeSighting p b d).journal = d.journal := by
  unfold takeSighting
  dsimp only
  split
  · rw [journalRequest_coalesced (by exact h)]
    simp [countArrival, Device.setPeer]
  · simp [countArrival, Device.setPeer]

theorem u8_of_byteAt {b : List Byte} {i n : Nat} (h : byteAt b i = BitVec.ofNat 8 n) (small : n < 256) : u8 b i = n := by
  rw [u8, h, BitVec.toNat_ofNat, Nat.mod_eq_of_lt small]

theorem u16_of_half {b : List Byte} {i n : Nat} (h : half b i = BitVec.ofNat 16 n) (small : n < 65536) : u16 b i = n := by
  rw [u16, h, BitVec.toNat_ofNat, Nat.mod_eq_of_lt small]

/-- The bytes of an entry, field by field. -/
theorem journalBytes_fields (sequence : Word) (e : JournalEntry) {b : List Byte} (h : b = journalBytes sequence e) :
    b.length = 32 ∧ word b 0 = sequence ∧ word b 4 = e.stamp ∧ u8 b 8 = e.kind.code ∧ byteAt b 9 = e.node ∧
    (e.slot < 256 → u8 b 0x0A = e.slot) ∧ (e.tone < 256 → u8 b 0x0B = e.tone) ∧ half b 0x0C = e.generation ∧
    (e.circuit < 65536 → u16 b 0x0E = e.circuit) ∧ (e.second < 65536 → u16 b 0x10 = e.second) ∧
    u8 b 0x12 = e.loc.node.val ∧ u8 b 0x13 = e.loc.port.val ∧ u8 b 0x14 = e.loc.slot.val ∧
    (e.code < 256 → u8 b 0x15 = e.code) ∧ (e.level < 65536 → u16 b 0x16 = e.level) ∧ word b 0x18 = e.round ∧
    word b 0x1C = 0#32 := by
  have head := journalBytes_head sequence e
  have tail := journalBytes_tail sequence e
  rw [← h] at head tail
  obtain ⟨seq, stamp, kind, node, slot, tone, generation, circuit, second⟩ := head
  obtain ⟨locNode, port, locSlot, code, level, round, rest⟩ := tail
  have kinds : e.kind.code < 256 := by cases e.kind <;> decide
  exact ⟨by rw [h, length_journalBytes], seq, stamp, u8_of_byteAt kind kinds, node, u8_of_byteAt slot, u8_of_byteAt tone,
    generation, u16_of_half circuit, u16_of_half second, u8_of_byteAt locNode (by omega), u8_of_byteAt port (by omega),
    u8_of_byteAt locSlot (by omega), u8_of_byteAt code, u16_of_half level, round, rest⟩

/-- Settles O28, from what an entry request and an entry write's completion do. -/
theorem journalEntryWriteDone : Obligations.JournalEntryWriteDone := by
  refine ⟨fun a r s h ring => ?_, fun e key k d => ⟨journalRequest_refused, journalRequest_coalesced,
      fun new usable sound => journalRequest_keyed usable sound new⟩,
    fun e d usable sound => ⟨fun full y hy => ?_, fun room busy => ?_, fun r none ring idle can room addr at_ within => ?_⟩,
    fun x p b source kind byte fault reason d => ⟨⟨_, rfl, rfl, ?_, rfl, rfl, rfl, rfl, rfl⟩, takeSighting_coalesced,
      ⟨_, rfl, rfl, rfl, rfl, by cases fault <;> rfl⟩, ⟨_, rfl, rfl, ?_, rfl⟩⟩, by decide,
    fun sequence e b hb => journalBytes_fields sequence e hb⟩
  · have taken := complete_landed h (fun _ => journalWritten)
    obtain ⟨count, consumed⟩ := journalWritten_counts (dropAccess s.dev a.tag)
    exact ⟨_, congrArg Host.Outcome.next taken, count, consumed, journalWritten_raises (d := dropAccess s.dev a.tag) ring,
      journalWritten_due (dropAccess s.dev a.tag), rfl⟩
  · rw [journalRequest_overflows usable sound full] at hy
    subst hy
    exact ⟨journalOverflow_counts d, journalOverflow_raises, journalOverflow_writing, journalOverflow_due d⟩
  · rw [journalRequest_listed usable sound room]
    exact serveJournal_waits busy
  · subst at_
    exact journalRequest_written usable sound none ring idle can room within
  · cases x.source with
    | none => rfl
    | some p => exact Nat.mod_eq_of_lt (by omega)
  · exact Nat.mod_eq_of_lt (by omega)

end Sys2Proof.Machine.Writer

/-! ## Replies on the launch bus (4.4, 4.5) -/

namespace Sys2Proof.Machine.Replies
open StepLaws Writer

/-! ### Contexts a reply names -/

theorem contextOf_eq_some {d : Device} {point : Byte} {x : Fin 8} (h : contextOf d point = some x) :
    d.launch.contexts[x].state ≠ .idle ∧ d.launch.contexts[x].point = point := by
  have found := List.find?_some h
  simpa [-Fin.getElem_fin] using found

theorem onReply_matched {d : Device} {point : Byte} {x : Fin 8} (h : contextOf d point = some x) (f : Fin 8 → Device → Device)
    (u : Device → Device) : onReply point f u d = settle (f x d) := by rw [onReply, h]

theorem onReply_unmatched {d : Device} {point : Byte} (h : contextOf d point = none) (f : Fin 8 → Device → Device)
    (u : Device → Device) : onReply point f u d = u d := by rw [onReply, h]

theorem next_with (s : State) {d e : Device} (h : d = e) : (Host.Outcome.next { s with dev := d } : Host.Outcome State Fault Refusal) =
    .next { s with dev := e } := by rw [h]

theorem next_self (s : State) (d : Device) (h : d = s.dev) : (Host.Outcome.next { s with dev := d } : Host.Outcome State Fault Refusal) =
    .next s := by rw [h]

theorem issueStop_issues (x : Fin 8) (d : Device) : stopIssued d (issueStop x d) x d.launch.contexts[x].point :=
  ⟨(contextAt_issueStop x x d).trans (if_pos rfl), rfl, rfl, rfl⟩

/-! ### ACK_ON -/

theorem contextOn_owned {x : Fin 8} {r : Fin 16} {p : Probe} {d : Device} (arming : d.launch.contexts[x].state = .arming)
    (owner : d.launch.contexts[x].owner = some r) (record : d.probes.records[r] = some p) : contextOn x d =
      ((withdraw x d).setContext x { d.launch.contexts[x] with state := .on, timer := none }).setRecord r
        (some { p with state := .armed }) := by
  rw [contextOn, if_pos arming, if_pos (by rw [owner]; rfl)]
  exact withOwner_some _ (by rw [contextAt_setContext, if_pos rfl]; exact owner) (by exact record)

theorem contextOn_unowned {x : Fin 8} {d : Device} (arming : d.launch.contexts[x].state = .arming)
    (owner : d.launch.contexts[x].owner = none) : contextOn x d = issueStop x (withdraw x d) := by
  rw [contextOn, if_pos arming, if_neg (by rw [owner]; exact Bool.false_ne_true)]

/-- Settles O34, by the context's state and owner. -/
theorem ackOn : Obligations.AckOn := by
  intro point s
  refine ⟨fun unmatched => next_self s _ (onReply_unmatched unmatched _ _), fun x matched => ⟨fun r p arming owner record => ?_,
    fun arming owner => ?_, fun other => ?_⟩⟩
  · refine ⟨_, next_with s (onReply_matched matched _ _), ?_⟩
    rw [contextOn_owned arming owner record]
    refine ⟨(contextAt_setContext x _ _ x).trans (if_pos rfl), (recordAt_setRecord r _ _ r).trans (if_pos rfl), rfl, rfl,
      fun y other => (contextAt_setContext x _ _ y).trans (if_neg other), withdraw_ends x s.dev,
      fun q other => (recordAt_setRecord r _ _ q).trans (if_neg other)⟩
  · refine ⟨withdraw x s.dev, _, next_with s (onReply_matched matched _ _),
      withdraw_ends x s.dev, rfl, ?_⟩
    rw [contextOn_unowned arming owner, ← (contextOf_eq_some matched).2]
    exact ⟨issueStop_issues x (withdraw x s.dev), rfl, rfl⟩
  · have stands : contextOn x s.dev = s.dev := if_neg other
    exact next_with s ((onReply_matched matched _ _).trans (congrArg settle stands))

/-! ### ACK_OFF and NACK -/

theorem stopConfirmed_launch (x : Fin 8) (d : Device) : (stopConfirmed x d).launch = (idleContext x (withdraw x d)).launch := by
  simp [stopConfirmed]

theorem stopConfirmed_context (x : Fin 8) (d : Device) :
    (stopConfirmed x d).launch.contexts[x] = { d.launch.contexts[x] with state := .idle, timer := none } :=
  (contextAt_stopConfirmed x x d).trans (if_pos rfl)

/-- A reply that confirms a stop. -/
theorem stopConfirmed_does (x : Fin 8) (d : Device) :
    (stopConfirmed x d).launch.contexts[x] = { d.launch.contexts[x] with state := .idle, timer := none } ∧
    (∀ q, d.tones[d.launch.contexts[x].tone] = .quarantined q →
      (stopConfirmed x d).tones[d.launch.contexts[x].tone] = .quarantined { q with stopConfirmed := true }) ∧
    (∀ t : Fin 48, t ≠ d.launch.contexts[x].tone → (stopConfirmed x d).tones[t] = d.tones[t]) ∧
    commandEnded d (stopConfirmed x d) x ∧ (stopConfirmed x d).probes = d.probes ∧ (stopConfirmed x d).slots = d.slots ∧
    (stopConfirmed x d).launch.stuck = d.launch.stuck := by
  refine ⟨stopConfirmed_context x d, fun q quarantined => ?_, fun t other => ?_, stopConfirmed_ends x d, by simp, by simp,
    by rw [stopConfirmed_launch]; rfl⟩
  · rw [← toneAt_eq, toneAt_stopConfirmed]
    rcases toneAt_confirmStop (contextAt d x).tone d with ⟨-, free⟩ | ⟨q', before, after⟩
    · exact absurd quarantined (free q)
    · have same : q' = q := ToneState.quarantined.inj (before.symm.trans quarantined)
      exact after.trans (by rw [same])
  · rw [← toneAt_eq, toneAt_stopConfirmed]
    exact toneAt_confirmStop_other d other

theorem isStuck_of_find {d : Device} {point : Byte} {e : StuckEntry} (h : d.launch.stuck.find? (·.point == point) = some e) :
    isStuck d point = true :=
  List.any_eq_true.2 ⟨e, List.mem_of_find?_eq_some h, List.find?_some (p := fun x : StuckEntry => x.point == point) h⟩

/-- A reply that clears a stuck entry. -/
theorem clearStuck_does {d : Device} {point : Byte} {e : StuckEntry} (h : d.launch.stuck.find? (·.point == point) = some e) :
    (clearStuck point d).launch.stuck = d.launch.stuck.eraseP (·.point == point) ∧
    (clearStuck point d).tones[e.tone] = .quarantined ⟨d.rounds.number, none, .none, none, true⟩ ∧
    (∀ t : Fin 48, t ≠ e.tone → (clearStuck point d).tones[t] = d.tones[t]) ∧
    (clearStuck point d).launch.contexts = d.launch.contexts ∧ (clearStuck point d).probes = d.probes ∧
    (clearStuck point d).slots = d.slots := by
  unfold clearStuck
  rw [h]
  dsimp only
  generalize hm : releaseTone e.tone none .none none true { d with
    launch := { d.launch with stuck := d.launch.stuck.eraseP (·.point == point) } } = m
  have tones (t : Fin 48) : toneAt m t = if t = e.tone then .quarantined ⟨d.rounds.number, none, .none, none, true⟩ else toneAt d t := by
    rw [← hm]; exact toneAt_releaseTone _ _ _ _ _ _ _
  have launch : m.launch = { d.launch with stuck := d.launch.stuck.eraseP (·.point == point) } := by rw [← hm]; rfl
  refine ⟨by simp [launch], ?_, fun t other => ?_, by simp [launch], by rw [← hm]; simp, by rw [← hm]; simp⟩
  · simpa [toneAt, -Fin.getElem_fin] using tones e.tone
  · simpa [toneAt, other, -Fin.getElem_fin] using tones t

/-- What ACK_OFF and NACK have in common. -/
theorem stopReply_does {point : Byte} {s : State} {f : Fin 8 → Device → Device}
    (confirms : ∀ x, s.dev.launch.contexts[x].state = .stopping → f x s.dev = stopConfirmed x s.dev) {o : Device}
    (h : o = onReply point f (stuckReply point) s.dev) :
    (∀ x, contextOf s.dev point = some x → s.dev.launch.contexts[x].state = .stopping → o = settle (stopConfirmed x s.dev)) ∧
    (contextOf s.dev point = none → isStuck s.dev point = false → o = s.dev) ∧
    (∀ e, contextOf s.dev point = none → s.dev.launch.stuck.find? (·.point == point) = some e →
      o = settle (clearStuck point s.dev)) := by
  refine ⟨fun x matched stopping => ?_, fun unmatched free => ?_, fun e unmatched stuck => ?_⟩
  · rw [h, onReply_matched matched, confirms x stopping]
  · rw [h, onReply_unmatched unmatched, stuckReply, if_neg (by rw [free]; exact Bool.false_ne_true)]
  · rw [h, onReply_unmatched unmatched, stuckReply, if_pos (isStuck_of_find stuck)]

/-- Settles O35, ACK_OFF and NACK by one rule where they do the same. -/
theorem stopReplies : Obligations.StopReplies := by
  have taken {point : Byte} {x : Fin 8} {s : State} (matched : contextOf s.dev point = some x) {f : Fin 8 → Device → Device}
      {u : Device → Device} (stands : f x s.dev = s.dev) : (Host.Outcome.next { s with dev := onReply point f u s.dev } :
        Host.Outcome State Fault Refusal) = .next { s with dev := settle s.dev } := by
    rw [onReply_matched matched, stands]
  refine ⟨fun point x s matched => ⟨fun ignored => taken matched (if_neg ?_), fun on => taken matched ?_⟩, fun f point s which => ?_⟩
  · rcases ignored with h | h <;> rw [h] <;> simp
  · rw [contextNack, on]
  have does : ∃ o, exec (f point) s = .next { s with dev := o } ∧
      (∀ x, contextOf s.dev point = some x → s.dev.launch.contexts[x].state = .stopping → o = settle (stopConfirmed x s.dev)) ∧
      (contextOf s.dev point = none → isStuck s.dev point = false → o = s.dev) ∧
      (∀ e, contextOf s.dev point = none → s.dev.launch.stuck.find? (·.point == point) = some e →
        o = settle (clearStuck point s.dev)) := by
    rcases which with rfl | rfl
    · exact ⟨_, rfl, stopReply_does (f := contextOff) (fun x stopping => if_pos stopping) rfl⟩
    · exact ⟨_, rfl, stopReply_does (f := contextNack) (fun x stopping => by rw [contextNack, stopping]) rfl⟩
  obtain ⟨o, run, confirmed, ignored, cleared⟩ := does
  refine ⟨fun x matched stopping => ⟨stopConfirmed x s.dev, ?_, stopConfirmed_does x s.dev⟩, fun unmatched free => ?_,
    fun e unmatched stuck => ⟨clearStuck point s.dev, ?_, clearStuck_does stuck⟩⟩
  · rw [run, confirmed x matched stopping]
  · rw [run, ignored unmatched free]
  · rw [run, cleared e unmatched stuck]

/-! ### Launch faults -/

/-- What a launch fault does, whatever reply or timer brings it. -/
structure LaunchFaulted (r : Fin 16) (p : Probe) (cause : LaunchCause) (confirmed : Bool) (d e : Device) : Prop where
  bus : SameBus d e
  owner : e.launch.contexts[p.ctx].owner ≠ some r
  tone : e.tones[p.tone] = .quarantined ⟨d.rounds.number, some r, .ended, p.lastListen, confirmed⟩
  judged : evaluated d e r { p with launchFault := some cause }
  others : ∀ q : Fin 16, q ≠ r → e.probes.records[q] = d.probes.records[q]
  slots : e.slots = d.slots
  rounds : e.rounds = d.rounds

theorem launchFault_does (r : Fin 16) (p : Probe) (cause : LaunchCause) (confirmed : Bool) (d : Device) :
    LaunchFaulted r p cause confirmed d (launchFault r p cause confirmed d) := by
  unfold launchFault
  dsimp only
  generalize hm : journalRequest _ none (releaseTone p.tone (some r) .ended p.lastListen confirmed d) = m
  have iface : m.iface = d.iface := by rw [← hm]; simp
  have slots : m.slots = d.slots := by rw [← hm]; simp
  have launch : m.launch = d.launch := by rw [← hm]; simp
  have probes : m.probes = d.probes := by rw [← hm]; simp
  have tones : m.tones = (releaseTone p.tone (some r) .ended p.lastListen confirmed d).tones := by rw [← hm]; simp
  exact {
    bus := (SameBus.of_eq launch).trans (evaluateRecord_sameBus r _ m)
    owner := (evaluateRecord_contexts r { p with launchFault := some cause } m).1
    tone := by
      rw [(evaluateRecord_keeps r _ m).2.2.2.2.2.2.2.2.2.1, tones, ← toneAt_eq, toneAt_releaseTone, if_pos rfl]
    judged := (evaluateRecord_evaluated r _ m).before iface (by rw [verdictWithheld, verdictWithheld, slots,
      canAccess_of_iface iface]) (by rw [slots])
    others := fun q other => by rw [evaluateRecord_records, if_neg other, probes]
    slots := (evaluateRecord_slots r _ m).trans slots
    rounds := by rw [← hm]; simp }

/-- A fault after STOP has been issued, for a timeout or FAULT. -/
theorem LaunchFaulted.stopped {r : Fin 16} {p : Probe} {cause : LaunchCause} {x : Fin 8} {d e : Device}
    (h : LaunchFaulted r p cause false (issueStop x d) e) :
    e.launch.contexts[x].timer = none ∧ e.launch.contexts[x].state = .stopping ∧
    (e.launch.sending = d.launch.sending ∧ e.launch.waiting = d.launch.waiting ∧
      e.launch.issued = insertCommand (.stop d.launch.contexts[x].point (some x)) d.launch.issued) ∧
    evaluated d e r { p with launchFault := some cause } := by
  obtain ⟨context, issued, sending, waiting⟩ := issueStop_issues x d
  obtain ⟨state, timer, -⟩ := h.bus.context x
  rw [context] at state timer
  exact ⟨timer, state, ⟨h.bus.sending.trans sending, h.bus.waiting.trans waiting, h.bus.issued.trans issued⟩,
    h.judged.before rfl rfl rfl⟩

/-- A fault after the stop has been confirmed, for a NACK. -/
theorem LaunchFaulted.refused {r : Fin 16} {p : Probe} {cause : LaunchCause} {x : Fin 8} {d e : Device}
    (h : LaunchFaulted r p cause true (stopConfirmed x d) e) :
    e.launch.contexts[x].timer = none ∧ e.launch.contexts[x].state = .idle ∧ commandEnded d e x ∧
    evaluated d e r { p with launchFault := some cause } := by
  obtain ⟨sent, idle, waiting, issued⟩ := stopConfirmed_ends x d
  obtain ⟨state, timer, -⟩ := h.bus.context x
  rw [stopConfirmed_context] at state timer
  refine ⟨timer, state, ⟨fun b busy => h.bus.sending.trans (sent b busy), fun none => h.bus.sending.trans (idle none),
    h.bus.waiting.trans waiting, h.bus.issued.trans issued⟩, h.judged.before (d := stopConfirmed x d) (by simp) ?_ (by simp)⟩
  rw [verdictWithheld, verdictWithheld, canAccess_of_iface (d := d) (by simp)]
  simp

/-- Settles O36, by the three causes of a launch fault. -/
theorem launchFaults : Obligations.LaunchFaults := by
  refine ⟨fun point s => ⟨fun unmatched => next_self s _ (onReply_unmatched unmatched _ _), fun x matched other => ?_⟩,
    fun c cause x r p s reply owner record => ?_⟩
  · exact next_with s ((onReply_matched matched _ _).trans (congrArg settle (if_neg other)))
  rcases reply with ⟨rfl, arming, point, rfl, matched⟩ | ⟨rfl, arming, timer, rfl⟩ | ⟨rfl, on, point, rfl, matched⟩
  · have fault := launchFault_does r p .nack true (stopConfirmed x s.dev)
    obtain ⟨timer, state, ended, judged⟩ := fault.refused
    have taken : contextNack x s.dev = launchFault r p .nack true (stopConfirmed x s.dev) := by
      rw [contextNack, arming]
      refine withOwner_some _ ?_ ?_
      · rw [contextAt_stopConfirmed, if_pos rfl]; exact owner
      · rw [recordAt_of_probes (d := s.dev) (by simp)]; exact record
    refine ⟨_, next_with s ((onReply_matched matched _ _).trans (congrArg settle taken)),
      fault.owner, timer, state, ?_, judged, fun _ => ended, fun other => absurd rfl other, ?_, ?_, ?_⟩
    · rw [fault.tone]; simp
    · intro q other; rw [fault.others q other]; simp
    · rw [fault.slots]; simp
    · rw [fault.rounds]; simp
  · obtain ⟨t, running⟩ := Option.isSome_iff_exists.1 timer
    generalize hm : s.dev.advance t = m
    have fault := launchFault_does r p .timeout false (issueStop x m)
    obtain ⟨timer, state, issued, judged⟩ := fault.stopped
    have taken : replyTimeout x m = launchFault r p .timeout false (issueStop x m) := by
      rw [replyTimeout, show m.launch.contexts[x].state = .arming by rw [← hm]; exact arming]
      refine withOwner_some _ ?_ ?_
      · rw [contextAt_issueStop, if_pos rfl, ← hm]; exact owner
      · rw [← hm]; exact record
    have run : exec (.replyTimerExpiry x) s = .next { s with dev := settle (launchFault r p .timeout false (issueStop x m)) } := by
      show Host.Outcome.next { s with dev := settleAt s.dev.launch.contexts[x].timer (fun _ => replyTimeout x) s.dev } = _
      rw [running, ← taken, ← hm]
      rfl
    subst hm
    exact ⟨_, run, fault.owner, timer, state, fault.tone, judged.before rfl rfl rfl, fun bad => absurd bad (by simp),
      fun _ => issued, fault.others, fault.slots, fault.rounds⟩
  · have fault := launchFault_does r p.emptied .fault false (issueStop x s.dev)
    obtain ⟨timer, state, issued, judged⟩ := fault.stopped
    have taken : contextFault x s.dev = launchFault r p.emptied .fault false (issueStop x s.dev) := by
      rw [contextFault, if_pos on]
      exact withOwner_some _ (by rw [contextAt_issueStop, if_pos rfl]; exact owner) (by exact record)
    exact ⟨_, next_with s ((onReply_matched matched _ _).trans (congrArg settle taken)),
      fault.owner, timer, state, fault.tone, judged, fun bad => absurd bad (by simp), fun _ => issued, fault.others, fault.slots,
      fault.rounds⟩

/-! ### REPLY_TIMER_EXPIRY -/

/-- A STOP that times out. -/
theorem stickContext_does (x : Fin 8) (d : Device) :
    (stickContext x d).launch.contexts[x] = { d.launch.contexts[x] with state := .idle, timer := none } ∧
    (stickContext x d).launch.stuck = d.launch.stuck ++ [⟨d.launch.contexts[x].point, d.launch.contexts[x].tone⟩] ∧
    (stickContext x d).tones[d.launch.contexts[x].tone] = .stuck ∧ (stickContext x d).regs.irqCause.getLsbD 2 = true ∧
    (stickContext x d).slots = d.slots ∧ (stickContext x d).now = d.now := by
  rw [stickContext_eq]
  obtain ⟨q, frame⟩ : ∃ q, entered x d = { d with
      probes := q
      launch := { (idleContext x d).launch with
        stuck := d.launch.stuck ++ [⟨d.launch.contexts[x].point, d.launch.contexts[x].tone⟩] }
      tones := d.tones.set d.launch.contexts[x].tone .stuck } := by
    unfold entered
    dsimp only
    split
    · exact ⟨_, rfl⟩
    · split
      · split
        · exact ⟨_, rfl⟩
        · exact ⟨_, rfl⟩
      · exact ⟨_, rfl⟩
  have raised : (raise .launchStuck (entered x d)).regs.irqCause.getLsbD 2 = true := by simp [raise, Cause.mask]
  refine ⟨?_, ?_, ?_, journalRequest_cause _ _ raised, ?_, ?_⟩
  · rw [(journalRequest_keeps _ _ _).2.2.2.2.2.2.2.2.2.1]
    show (entered x d).launch.contexts[x] = _
    rw [frame]
    exact (vec_set_get _ _ _ _).trans (if_pos rfl)
  · rw [(journalRequest_keeps _ _ _).2.2.2.2.2.2.2.2.2.1]
    show (entered x d).launch.stuck = _
    rw [frame]
  · rw [(journalRequest_keeps _ _ _).2.2.2.2.2.2.2.2.2.2.1]
    show (entered x d).tones[d.launch.contexts[x].tone] = _
    rw [frame]
    exact (vec_set_get _ _ _ _).trans (if_pos rfl)
  · rw [(journalRequest_keeps _ _ _).2.2.2.2.1]
    show (entered x d).slots = _
    rw [frame]
  · rw [(journalRequest_keeps _ _ _).1]
    show (entered x d).now = _
    rw [frame]

theorem replyTimeout_now (x : Fin 8) (d : Device) : (replyTimeout x d).now = d.now := by
  unfold replyTimeout
  split
  · unfold withOwner
    split
    · simp
    · split <;> simp
  · exact (stickContext_does x d).2.2.2.2.2
  · rfl

/-- Settles O37, by the context's state at the expiry. -/
theorem replyTimerExpiry : Obligations.ReplyTimerExpiry := by
  intro x s
  have run : exec (.replyTimerExpiry x) s =
    .next { s with dev := settleAt s.dev.launch.contexts[x].timer (fun _ => replyTimeout x) s.dev } := rfl
  refine ⟨fun stopped => ?_, fun t running => ⟨replyTimeout x (s.dev.advance t), ?_, replyTimeout_now x _, fun arming free => ?_,
    fun stopping => ?_⟩⟩
  · rw [run, stopped]; rfl
  · rw [run, running]; rfl
  · have taken : replyTimeout x (s.dev.advance t) = issueStop x (s.dev.advance t) := by
      rw [replyTimeout, show (s.dev.advance t).launch.contexts[x].state = .arming from arming]
      exact withOwner_none _ (by rw [contextAt_issueStop, if_pos rfl]; exact free)
    rw [taken]
    exact ⟨issueStop_issues x (s.dev.advance t), rfl, rfl⟩
  · have taken : replyTimeout x (s.dev.advance t) = stickContext x (s.dev.advance t) := by
      rw [replyTimeout, show (s.dev.advance t).launch.contexts[x].state = .stopping from stopping]
    rw [taken]
    obtain ⟨context, stuck, tone, raised, slots, -⟩ := stickContext_does x (s.dev.advance t)
    exact ⟨context, stuck, tone, raised, slots⟩

end Sys2Proof.Machine.Replies

/-! ## The round timer: settings, ignored marks and a lost lead (chapter 3) -/

namespace Sys2Proof.Machine.RoundTimer
open Completions BoardBytes HopVerdicts Starts SettingsInForce Writer Replies

/-! ### Application of staged settings -/

/-- The rounds block once a copy is applied. -/
def appliedRounds (r : Rounds) (seq : Half) (x : Settings) : Rounds :=
  { r with inForce := some x.derived, applied := some (seq, r.number), staged := none }

/-- The peers once a peer table is applied. -/
def appliedPeers (d : Device) (table : Vector RawPeer 16) : Vector Peer 16 :=
  mapVec (fun i p => p.apply (configures d.ownNode table i) ((targetsOf d.ownNode table).getD i.val 0)) d.lead.peers

/-- The device when a copy is in force, before its acknowledgment. -/
def inForce (seq : Half) (x : Settings) (d : Device) : Device :=
  applyPeers x.peers (applyTaps x.taps { d with rounds := appliedRounds d.rounds seq x })

theorem applyStaged_applies {d : Device} {seq : Half} {x : Settings} (staged : d.rounds.staged = some (seq, x))
    (settled : settled d = true) (allowed : d.rounds.hold = false ∨ d.rounds.inForce = none) :
    applyStaged d = owe .acknowledgment (inForce seq x d) := by
  have test : (Machine.settled d && (!d.rounds.hold || d.rounds.inForce.isNone)) = true := by
    rcases allowed with h | h <;> simp [settled, h]
  unfold applyStaged
  rw [staged]
  exact if_pos test

theorem applyStaged_waits {d : Device} (h : settled d = false ∨ (d.rounds.hold = true ∧ d.rounds.inForce.isSome)) :
    applyStaged d = d := by
  have test : ¬ (settled d && (!d.rounds.hold || d.rounds.inForce.isNone)) = true := by
    rcases h with h | ⟨hold, force⟩
    · simp [h]
    · obtain ⟨y, hy⟩ := Option.isSome_iff_exists.1 force
      simp [hold, hy]
  unfold applyStaged
  split
  · rfl
  · exact if_neg test

section
variable {d : Device} {seq : Half} {x : Settings} (staged : d.rounds.staged = some (seq, x)) (settled : settled d = true)
  (allowed : d.rounds.hold = false ∨ d.rounds.inForce = none)
include staged settled allowed

theorem applyStaged_in_force : (applyStaged d).rounds = appliedRounds d.rounds seq x := by
  rw [applyStaged_applies staged settled allowed]
  simp [inForce, applyTaps]

theorem applyStaged_table : (applyStaged d).taps.table = some (mapVec (fun _ t => clampTap t) x.taps) := by
  rw [applyStaged_applies staged settled allowed]
  simp [inForce, applyTaps]

theorem applyStaged_lead : (applyStaged d).lead = { d.lead with peers := appliedPeers d x.peers } := by
  rw [applyStaged_applies staged settled allowed]
  simp only [owe_keeps, inForce, applyPeers, owePeers_keeps]
  rfl
end

/-! ### The peers of an application -/

theorem apply_configured (p : Peer) (c : Bool) (t : Nat) : (p.apply c t).configured = c := by
  unfold Peer.apply
  cases c <;> cases h : p.configured <;> simp

theorem apply_target (p : Peer) (c : Bool) (t : Nat) : (p.apply c t).target = t := by
  unfold Peer.apply
  split
  · rfl
  · split <;> rfl

theorem apply_reserve (p : Peer) (c : Bool) (t : Nat) : (p.apply c t).reserve = p.reserve := by
  unfold Peer.apply
  split
  · rfl
  · split <;> rfl

theorem apply_joins {p : Peer} (h : p.configured = false) (t : Nat) : p.apply true t = { p with
    configured := true, target := t, state := .unknown, silence := 0, capLevel := false, capEmpty := false, hello := none } := by
  simp [Peer.apply, h]

theorem apply_leaves {p : Peer} (h : p.configured = true) (t : Nat) : p.apply false t = { p with
    configured := false, target := t, state := .absent, capLevel := false, capEmpty := false } := by
  simp [Peer.apply, h]

theorem configures_iff (own : Fin 16) (table : Vector RawPeer 16) (p : Fin 16) :
    configures own table p = true ↔ table[p].configured = true ∧ p ≠ own := by
  simp [configures, -Fin.getElem_fin]

theorem trimTargets_length (left : Nat) (ws : List Nat) : (trimTargets left ws).length = ws.length := by
  induction ws generalizing left with
  | nil => rfl
  | cons w ws ih => rw [trimTargets, List.length_cons, List.length_cons, ih]

/-- A target is the credits wanted or what the targets before it leave, whichever is smaller. -/
theorem trimTargets_getD (ws : List Nat) : ∀ (left i : Nat), i < ws.length →
    (trimTargets left ws).getD i 0 = min (ws.getD i 0) (left - ((trimTargets left ws).take i).sum) := by
  induction ws with
  | nil => intro left i h; simp at h
  | cons w ws ih =>
    intro left i h
    cases i with
    | zero => simp [trimTargets]
    | succ i =>
      have rest := ih (left - min w left) i (by simpa using h)
      rw [trimTargets, List.getD_cons_succ, List.getD_cons_succ, List.take_succ_cons, List.sum_cons, rest, Nat.sub_sub]

theorem finRange_below (p : Fin 16) : (List.finRange 16).filter (· < p) = (List.finRange 16).take p.val := by
  revert p; decide

theorem getD_finRange (f : Fin 16 → Nat) (p : Fin 16) : ((List.finRange 16).map f).getD p.val 0 = f p := by
  have h : p.val < ((List.finRange 16).map f).length := by simp
  rw [List.getD_eq_getElem _ _ h]
  simp

/-- The targets of an application, each what is wanted within what the lower nodes leave of 128. -/
theorem targetsOf_spec (own : Fin 16) (table : Vector RawPeer 16) (p : Fin 16) :
    (targetsOf own table).getD p.val 0 = min (if configures own table p then codeCredits table[p].code else 0)
      (128 - (((List.finRange 16).filter (· < p)).map (fun q => (targetsOf own table).getD q.val 0)).sum) := by
  generalize hw : (List.finRange 16).map (fun p => if configures own table p then codeCredits table[p].code else 0) = ws
  have length : ws.length = 16 := by rw [← hw]; simp
  have targets : targetsOf own table = trimTargets 128 ws := by rw [← hw]; rfl
  have wanted : ws.getD p.val 0 = if configures own table p then codeCredits table[p].code else 0 := by
    rw [← hw]; exact getD_finRange (fun p => if configures own table p then codeCredits table[p].code else 0) p
  have copied : (List.finRange 16).map (fun q => (trimTargets 128 ws).getD q.val 0) = trimTargets 128 ws := by
    refine List.ext_getElem (by simp [trimTargets_length, length]) fun i h h' => ?_
    simp [List.getD_eq_getElem?_getD, List.getElem?_eq_getElem h']
  have before : (((List.finRange 16).filter (· < p)).map (fun q => (trimTargets 128 ws).getD q.val 0)).sum =
      ((trimTargets 128 ws).take p.val).sum := by
    rw [finRange_below, List.map_take, copied]
  rw [targets, before, ← wanted]
  exact trimTargets_getD ws 128 p.val (by omega)

/-! ### The acknowledgment -/

/-- A channel's write that is owed with none in flight is issued as the channel's access. -/
theorem owe_issues_kind {ch : Channel} {d : Device} (can : canAccess d = true) (idle : live d (ofChannel ch) = false)
    (within : inWindow d.iface.bounds (channelExtent ch d).1 (channelExtent ch d).2.length = true) :
    ∃ w ∈ (owe ch d).dma.inFlight, w.kind = channelKind ch d ∧ w.addr = (channelExtent ch d).1 ∧
      w.data = (channelExtent ch d).2 := by
  rw [owe, oweAs_issues _ _ _ can idle, issueChannel_dma can within]
  exact ⟨_, List.mem_append_right _ (List.mem_singleton.2 rfl), rfl, rfl, rfl⟩

theorem acknowledgment_fields (seq : Half) (n : Round) : half (acknowledgmentBytes (some (seq, n))) 0 = seq ∧
    word (acknowledgmentBytes (some (seq, n))) 4 = n := by
  simp [acknowledgmentBytes, word_append_right, half_putHalf, word_putWord_alone, length_reserved]

theorem applyPeers_adds {q : AccessKind → Bool} (table : Vector RawPeer 16) (d : Device)
    (h : ∀ p c b, q (.channelWrite (.peer p) c b) = false) : Adds q d (applyPeers table d) := by
  unfold applyPeers
  exact ((owePeers_due _ _).1 q h).start rfl rfl

/-- Settles O40, from what an application leaves of each block. -/
theorem stagedSettingsApply : Obligations.StagedSettingsApply := by
  intro d seq x staged
  refine ⟨fun settled allowed => ?_, applyStaged_waits⟩
  have rounds := applyStaged_in_force staged settled allowed
  have lead := applyStaged_lead staged settled allowed
  have peer (p : Fin 16) : (applyStaged d).lead.peers[p] =
      d.lead.peers[p].apply (configures d.ownNode x.peers p) ((targetsOf d.ownNode x.peers).getD p.val 0) := by
    rw [lead]; exact mapVec_get _ _ _
  have target (p : Fin 16) : (applyStaged d).lead.peers[p].target = (targetsOf d.ownNode x.peers).getD p.val 0 := by
    rw [peer, apply_target]
  have joins {p : Fin 16} (out : d.lead.peers[p].configured = false) (wanted : x.peers[p].configured = true) (other : p ≠ d.ownNode) :=
    (peer p).trans (by rw [(configures_iff d.ownNode x.peers p).2 ⟨wanted, other⟩, apply_joins out])
  refine ⟨by rw [rounds]; rfl, by rw [rounds]; rfl, ⟨x.derived, by rw [rounds]; rfl, rfl, rfl⟩,
    ⟨_, applyStaged_table staged settled allowed, fun t => ?_⟩, fun p => by rw [peer, apply_configured]; rfl, fun p => ?_,
    fun p => ⟨by rw [peer, apply_reserve], fun out wanted other => ?_, fun configured leaves => ?_, fun out wanted other => ?_,
      (applyStaged_peers d p).1⟩, fun can => ?_, by rw [rounds]; rfl⟩
  · rw [mapVec_get]
    exact ⟨rfl, rfl, rfl, rfl⟩
  · have wanted : (if configures d.ownNode x.peers p = true then codeCredits x.peers[p].code else 0) =
        if x.peers[p].configured = true ∧ p ≠ d.ownNode then codeCredits x.peers[p].code else 0 :=
      if_congr (configures_iff d.ownNode x.peers p) rfl rfl
    simp only [target]
    rw [targetsOf_spec, wanted]
  · rw [joins out wanted other]; exact ⟨rfl, rfl⟩
  · have unwanted : configures d.ownNode x.peers p = false := Bool.eq_false_iff.2 fun c => by
      obtain ⟨wanted, other⟩ := (configures_iff d.ownNode x.peers p).1 c
      exact leaves.elim (fun no => Bool.false_ne_true (no.symm.trans wanted)) other
    rw [target, peer, unwanted, apply_leaves configured]
  · rw [joins out wanted other]; exact ⟨rfl, rfl, rfl⟩
  · rw [applyStaged_applies staged settled allowed]
    generalize hm : inForce seq x d = m
    have adds : Adds (ofChannel .acknowledgment) d m := by
      rw [← hm]
      exact (applyPeers_adds _ _ (fun _ _ _ => rfl)).start rfl rfl
    have applied : m.rounds = appliedRounds d.rounds seq x := by rw [← hm]; simp [inForce, applyTaps]
    have extent : channelExtent .acknowledgment m = (boardAddr d 0x28, acknowledgmentBytes (some (seq, d.rounds.number))) := by
      rw [channelExtent, adds.boardAddr, applied]; rfl
    have can' : canAccess m = true := adds.canAccess.trans can
    refine ⟨fun busy => (owe_due .acknowledgment m can').1 (adds.live_eq.trans busy), fun idle within => ?_⟩
    obtain ⟨w, mem, kind, addr, data⟩ := owe_issues_kind can' (adds.live_eq.trans idle)
      (by rw [extent, adds.iface, length_acknowledgmentBytes]; exact within)
    rw [extent] at addr data
    obtain ⟨first, last⟩ := acknowledgment_fields seq d.rounds.number
    exact ⟨w, mem, kind, addr, by rw [data, length_acknowledgmentBytes], by rw [data]; exact first, by rw [data]; exact last⟩

/-! ### Settings reads -/

theorem firstRound_waits {d : Device} (h : d.rounds.awaitFirst = false) : firstRound d = d := by simp [firstRound, h]

theorem readSettings_rounds (seq : Half) (d : Device) : (readSettings seq d).rounds = d.rounds := by
  simp [readSettings, issueRead]

/-- The lead's first ROUND_START, with a settled copy and no settings in force. -/
theorem firstRound_begins {d : Device} {seq : Half} {x : Settings} (leading : d.leading = true) (awaits : d.rounds.awaitFirst = true)
    (none : d.rounds.inForce = none) (staged : d.rounds.staged = some (seq, x)) (settled : settled d = true) :
    (firstRound d).rounds.number = d.rounds.number + 1#32 ∧ (firstRound d).rounds.inForce = some x.derived ∧
    (firstRound d).rounds.applied = some (seq, d.rounds.number + 1#32) ∧ (firstRound d).rounds.staged = .none ∧
    (firstRound d).rounds.awaitFirst = false ∧ (firstRound d).rounds.nextAt = some (d.now + derivePeriod x.period) := by
  have first : firstRound d = leadRoundStart d := by simp [firstRound, leading, awaits, settled]
  rw [first, leadRoundStart_rounds]
  generalize hm : ({ d with rounds := { d.rounds with number := d.rounds.number + 1#32 } } : Device) = m
  have now : (applyStaged m).now = d.now := by rw [(applyStaged_keeps m).1, ← hm]
  have rounds := applyStaged_in_force (d := m) (seq := seq) (x := x) (by rw [← hm]; exact staged) (by rw [← hm]; exact settled)
    (.inr (by rw [← hm]; exact none))
  have number : m.rounds.number = d.rounds.number + 1#32 := by rw [← hm]
  simp only [scheduleRound, dropPlan, rounds, appliedRounds, now, number, Rounds.period, Settings.derived, Option.map_some,
    Option.getD_some, and_self]

/-- Settles O27, by whether the lead waits for its first settings. -/
theorem settingsReadDone : Obligations.SettingsReadDone := by
  intro a seq b s h kind
  have taken := complete_landed h (settingsLanded b)
  rw [kind] at taken
  generalize hm : dropAccess s.dev a.tag = m at taken
  have rounds : m.rounds = s.dev.rounds := by rw [← hm]; rfl
  refine ⟨fun waits => ⟨settingsTaken seq b m, congrArg Host.Outcome.next taken, ?_⟩, fun leading awaits none idle quiet =>
    ⟨settingsTaken seq b m, congrArg Host.Outcome.next taken, ?_⟩⟩
  · unfold settingsTaken
    dsimp only
    by_cases pending : m.rounds.readPending = true
    · rw [if_pos pending, firstRound_waits (by rw [readSettings_rounds]; dsimp only; rw [rounds]; exact waits), readSettings_rounds]
      refine ⟨rfl, rfl, by rw [rounds], by rw [rounds], fun q _ requested can within => ?_⟩
      rw [rounds, requested, Option.getD_some, ← hm]
      exact inFlight_issue (by exact can) (by exact within)
    · rw [if_neg pending, firstRound_waits (by dsimp only; rw [rounds]; exact waits)]
      exact ⟨rfl, Bool.eq_false_iff.2 pending, by rw [rounds], by rw [rounds],
        fun q more => absurd (by rw [rounds]; exact more) pending⟩
  · have unfolded : settingsTaken seq b m =
        firstRound { m with rounds := { m.rounds with staged := some (seq, settingsOf b) } } := by
      unfold settingsTaken
      dsimp only
      rw [if_neg (by rw [rounds, idle]; exact Bool.false_ne_true)]
    have still : live m isSettingsRead = false := quiet
    have begun := firstRound_begins (d := { m with rounds := { m.rounds with staged := some (seq, settingsOf b) } }) (seq := seq)
      (x := settingsOf b) (by rw [← hm]; exact leading) (by dsimp only; rw [rounds]; exact awaits) (by dsimp only; rw [rounds]; exact none)
      rfl (by
        have quiet' : live { m with rounds := { m.rounds with staged := some (seq, settingsOf b) } } isSettingsRead = false := still
        rw [settled, quiet']
        simp [rounds, idle])
    have now : m.now = s.dev.now := by rw [← hm]; rfl
    rw [unfolded]
    rw [← rounds, ← now]
    exact begun

/-! ### Ignored marks -/

theorem takeFrame_running {kind : Nat} {source dest : Byte} {body : List Byte} {d : Device} (addressed : addressed d dest = true)
    (idle : d.iface.start = none) (running : d.iface.state = .running) :
    takeFrame kind source dest body d = takeRunning kind source (dest == 0xFF#8) body d := by
  unfold takeFrame
  rw [addressed, idle, running]
  rfl

theorem index_source (p : Fin 16) : index? 16 (BitVec.ofNat 8 p.val).toNat = some p := by revert p; decide

theorem addressed_all (d : Device) : addressed d 0xFF#8 = true := by simp [addressed]

/-- A well-formed ROUND_MARK reaches the round timer of a RUNNING part in either mode. -/
theorem receive_mark {source : Fin 16} {body : List Byte} {m : MarkBody} {d : Device} (running : d.iface.state = .running)
    (idle : d.iface.start = none) (good : markBody? body = some m) :
    receive (1#8 :: BitVec.ofNat 8 source.val :: 0xFF#8 :: body) d = takeMark source m d := by
  have admitted : kindAdmitted d.iface.mode 1 = true := by cases h : d.iface.mode with
    | none => rfl
    | some mode => cases mode <;> rfl
  have checked : checkFrame d 1 (BitVec.ofNat 8 source.val) true body = .ok (.mark source m) := by
    unfold checkFrame
    rw [admitted, index_source]
    simp [sourceAdmitted, parseBody, good, fromFuture]
  show takeFrame 1 _ _ body d = _
  rw [takeFrame_running (addressed_all d) idle running]
  show takeRunning 1 _ true body d = _
  rw [takeRunning, checked]
  rfl

/-- What an ignored mark does once it is counted. -/
theorem ignored_counts {d : Device} {r : Rounds} (source : Fin 16) (reason : Nat) {e : Device}
    (h : e = journalMark source reason (owe .markCounters { d with rounds := r })) :
    e.rounds = r ∧ writeShown d e .markCounters (boardAddr d 0x30) (putWord e.rounds.marksTooClose ++ putWord e.rounds.marksForeign) ∧
    e.windows = d.windows ∧ e.taps = d.taps ∧ e.follower = d.follower ∧ e.slots = d.slots := by
  have rounds : e.rounds = r := by rw [h]; simp [journalMark]
  have due : writeShown { d with rounds := r } (owe .markCounters { d with rounds := r }) .markCounters
      (boardAddr { d with rounds := r } 0x30) (markCounterBytes r) := owe_due .markCounters { d with rounds := r }
  have later : Adds (fun _ => false) (owe .markCounters { d with rounds := r }) e := by
    rw [h, journalMark]; exact journalRequest_adds (q := fun _ => false) (fun _ _ => rfl) rfl _ _ _
  refine ⟨rounds, ?_, by rw [h]; simp [journalMark], by rw [h]; simp [journalMark], by rw [h]; simp [journalMark], ?_⟩
  · rw [rounds]
    exact (due.start rfl rfl).after later id
  · rw [h, journalMark, (journalRequest_keeps _ _ _).2.2.2.2.1]
    exact oweAs_slots false .markCounters _ rfl

/-- Settles O46, by the mark's source and its distance from the last one. -/
theorem markIgnored : Obligations.MarkIgnored := by
  intro time source body m s running idle good
  have run : exec (.roundMarkReceived time (BitVec.ofNat 8 source.val) 0xFF#8 body) s =
      .next { s with dev := settle (takeMark source m (s.dev.advance time)) } := by
    rw [← receive_mark (d := s.dev.advance time) running idle good]
    rfl
  refine ⟨fun foreign => ?_, fun ⟨follow, lead, close⟩ => ?_⟩
  · have taken : takeMark source m (s.dev.advance time) = ignoreForeign source (s.dev.advance time) := by
      rcases foreign with lead | ⟨follow, other⟩
      · exact if_pos lead
      · exact (if_neg (by show s.dev.iface.mode ≠ some .lead; rw [follow]; simp)).trans (if_pos other)
    rw [taken] at run
    obtain ⟨rounds, due, rest⟩ := ignored_counts source reasonForeign (d := s.dev.advance time) rfl
    exact ⟨_, run, rounds, due.start rfl rfl, rest⟩
  · have taken : takeMark source m (s.dev.advance time) = ignoreTooClose source (s.dev.advance time) :=
      (if_neg (by show s.dev.iface.mode ≠ some .lead; rw [follow]; simp)).trans ((if_neg (not_not.2 lead)).trans (if_pos close))
    rw [taken] at run
    obtain ⟨rounds, due, rest⟩ := ignored_counts source reasonTooClose (d := s.dev.advance time) rfl
    exact ⟨_, run, rounds, due.start rfl rfl, rest⟩

/-! ### A lost lead -/

theorem abandonLooks_detectors (d : Device) (j : Fin 4) (l : Look) : (abandonLooks d).taps.detectors[j] ≠ .looking l := by
  unfold abandonLooks
  dsimp only
  rw [mapVec_get]
  split
  · simp
  · next other => exact other l

/-- Settles O51. -/
theorem leadLost : Obligations.LeadLost := by
  intro s
  have run : exec .leadLostTimerExpiry s = .next { s with dev := settleAt s.dev.follower.leadLostAt (fun _ => leadLostExpired) s.dev } := rfl
  refine ⟨fun t following timer => ⟨loseLead (s.dev.advance t), ?_, ?_⟩, fun stopped => by rw [run, stopped]; rfl⟩
  · have expired : leadLostExpired (s.dev.advance t) = loseLead (s.dev.advance t) := if_pos following
    rw [run, timer, ← expired]
    rfl
  · have raised {d : Device} : (raise .leadLost d).regs.irqCause.getLsbD 3 = true := by simp [raise, Cause.mask]
    unfold loseLead
    dsimp only
    refine ⟨by simp [raise, Device.advance], by simp [raise, dropPlan, abandonLooks, Device.advance],
      by simp [raise, dropPlan, abandonLooks, Device.advance], fun j l => ?_, by simp [raise, dropPlan], by simp [raise, dropPlan],
      by simp [raise, dropPlan, abandonLooks, Device.advance], journalRequest_cause _ _ raised, by simp [raise, dropPlan, abandonLooks, Device.advance],
      by simp [raise, dropPlan, abandonLooks, Device.advance]⟩
    rw [(journalRequest_keeps _ _ _).2.2.2.2.2.2.2.2.2.2.2.1]
    exact abandonLooks_detectors (s.dev.advance t) j l

end Sys2Proof.Machine.RoundTimer

/-! ## What round starts bring: windows, tones, probes, and an accepted mark (2.2, 3.3, 4.5, 4.6) -/

namespace Sys2Proof.Machine.RoundStarts
open Completions SettingsInForce RoundTimer StepLaws

/-! ### Windows at a round start -/

/-- The device when every window has counted down, before campaigns run again. -/
def countedDown (d : Device) : Device := (List.finRange 4).foldl (fun d w => updateWindow w d.windows[w].atRound d) d

theorem countedDown_windows (d : Device) (w : Fin 4) : (countedDown d).windows[w] = d.windows[w].atRound :=
  ((updateWindows_due (fun _ x => x.atRound) (List.finRange 4) d (List.nodup_finRange 4)).1 w).trans (if_pos (List.mem_finRange w))

theorem countedDown_slots (d : Device) : (countedDown d).slots = d.slots := by
  unfold countedDown
  generalize List.finRange 4 = xs
  induction xs generalizing d with
  | nil => rfl
  | cons x xs ih => rw [List.foldl_cons, ih]; simp

theorem countedDown_iface (d : Device) : (countedDown d).iface = d.iface :=
  ((updateWindows_due (fun _ x => x.atRound) (List.finRange 4) d (List.nodup_finRange 4)).2.1 (fun _ => false) (fun _ _ _ => rfl)).iface

theorem resumed_windows (xs : List (Fin 8)) (d : Device) : (xs.foldl (fun d n => moveSlot n .running d) d).windows = d.windows := by
  induction xs generalizing d with
  | nil => rfl
  | cons x xs ih => rw [List.foldl_cons, ih]; simp

theorem settleWindows_windows (d : Device) (w : Fin 4) : (settleWindows d).windows[w] = d.windows[w].atRound :=
  (congrArg (fun v : Vector Window 4 => v[w]) (resumed_windows _ (countedDown d))).trans (countedDown_windows d w)

theorem boundSlots_countedDown (d : Device) (ws : List (Fin 4)) (sts : List SlotState) :
    boundSlots (countedDown d) ws sts = boundSlots d ws sts := by
  rw [boundSlots, boundSlots, countedDown_slots, countedDown_iface]

theorem settleWindows_eq (d : Device) : settleWindows d =
    (boundSlots d (quieting d) [.waiting, .suspended]).foldl (fun d n => moveSlot n .running d) (countedDown d) := by
  rw [← boundSlots_countedDown]; rfl

/-- At a lead's round start, the campaigns bound to windows that enter QUIET run again. -/
theorem settleWindows_states (d : Device) (n : Fin 8) : (settleWindows d).slots[n].state =
    if n ∈ boundSlots d (quieting d) [.waiting, .suspended] then .running else d.slots[n].state := by
  obtain ⟨-, stay, move⟩ := moveSlots_due .running (boundSlots d (quieting d) [.waiting, .suspended]) (countedDown d)
    (boundSlots_nodup d _ _)
  rw [settleWindows_eq]
  split
  · next bound => exact (move n bound).1
  · next free => rw [stay n free, countedDown_slots]

theorem settleWindows_follower {d : Device} (h : d.iface.mode ≠ some .lead) : (settleWindows d).slots = d.slots := by
  rw [settleWindows_eq, boundSlots, if_neg h, List.foldl_nil, countedDown_slots]

/-! ### Tones at a round start -/

theorem toneAtRound_eq (n : Round) (t : ToneState) : toneAtRound n t = match t with
    | .quarantined q => if q.stopConfirmed = true ∧ 2 ≤ (n - q.release).toNat ∧ (n - q.release).toNat < 2 ^ 31 then .free
      else .quarantined q
    | y => y := by
  cases t with
  | quarantined q =>
    have due : toneDue n q = true ↔ q.stopConfirmed = true ∧ 2 ≤ (n - q.release).toNat ∧ (n - q.release).toNat < 2 ^ 31 := by
      simp only [toneDue, Bool.and_eq_true, decide_eq_true_eq]
      exact ⟨fun ⟨⟨stop, least⟩, most⟩ => ⟨stop, least, by omega⟩, fun ⟨stop, least, most⟩ => ⟨⟨stop, least⟩, by omega⟩⟩
    exact if_congr due rfl rfl
  | _ => rfl

/-! ### What every round start does -/

theorem commonRoundStart_tones (d : Device) (x : Fin 48) : (commonRoundStart d).tones[x] = toneAtRound d.rounds.number d.tones[x] := by
  unfold commonRoundStart freeTones
  dsimp only
  rw [mapVec_get]
  simp [-Fin.getElem_fin]

theorem commonRoundStart_windows (d : Device) (w : Fin 4) : (commonRoundStart d).windows[w] = d.windows[w].atRound := by
  rw [commonRoundStart, (freeTones_keeps _).2.2.2.2.2.2.2.1]
  exact settleWindows_windows { d with journal := { d.journal with memory := [] } } w

theorem commonRoundStart_journal (d : Device) : (commonRoundStart d).journal = { d.journal with memory := [] } := by
  simp [commonRoundStart]

theorem commonRoundStart_slots (d : Device) :
    (commonRoundStart d).slots = (settleWindows { d with journal := { d.journal with memory := [] } }).slots := by
  simp [commonRoundStart]

/-- Only the tones stand between a round start and its windows. -/
theorem commonRoundStart_frame (d : Device) : ∃ e t, e = settleWindows { d with journal := { d.journal with memory := [] } } ∧
    commonRoundStart d = { e with tones := t } := ⟨_, _, rfl, rfl⟩

theorem commonRoundStart_adds {q : AccessKind → Bool} (d : Device) (hw : ∀ w c b, q (.channelWrite (.window w) c b) = false)
    (hs : ∀ n c b, q (.channelWrite (.shadow n) c b) = false) : Adds q d (commonRoundStart d) := by
  have settles := (settleWindows_due { d with journal := { d.journal with memory := [] } }).1 q hw hs
  obtain ⟨e, t, he, frame⟩ := commonRoundStart_frame d
  rw [← he] at settles
  rw [frame]
  exact Adds.trans (Adds.start (c := d) settles rfl rfl) (.of_eq rfl rfl)

theorem commonRoundStart_windowDue (d : Device) (w : Fin 4) (h : (commonRoundStart d).windows[w] ≠ d.windows[w]) :
    windowDue d (commonRoundStart d) w := by
  have due := (settleWindows_due { d with journal := { d.journal with memory := [] } }).2.1 w
  obtain ⟨e, t, he, frame⟩ := commonRoundStart_frame d
  rw [← he] at due
  rw [frame] at h ⊢
  exact ((due h).after (.of_eq rfl rfl) rfl).before (.of_eq rfl rfl)

theorem commonRoundStart_shadowDue (d : Device) (n : Fin 8) (h : (commonRoundStart d).slots[n].state ≠ d.slots[n].state) :
    shadowDue d (commonRoundStart d) n False := by
  have due := (settleWindows_due { d with journal := { d.journal with memory := [] } }).2.2 n
  obtain ⟨e, t, he, frame⟩ := commonRoundStart_frame d
  rw [← he] at due
  rw [frame] at h ⊢
  exact ((due h).after (.of_eq rfl rfl) (same_slot _) id).before (.of_eq rfl rfl)

/-! ### A probe at a round start -/

theorem endGrace_tone {t : Fin 48} {r : Fin 16} {st : HolderStatus} {d : Device} {z : Quarantine} (h : d.tones[t] = .quarantined z)
    (holder : z.holder = some r) (grace : z.status = .grace) : (endGrace t r st d).tones[t] = .quarantined { z with status := st } := by
  unfold endGrace
  rw [h]
  dsimp only
  rw [if_pos ⟨holder, grace⟩]
  exact (toneAt_setTone t _ d t).trans (if_pos rfl)

theorem endGrace_frame (t : Fin 48) (r : Fin 16) (st : HolderStatus) (d : Device) : ∃ v, endGrace t r st d = { d with tones := v } := by
  unfold endGrace
  split
  · split
    · exact ⟨_, rfl⟩
    · exact ⟨d.tones, rfl⟩
  · exact ⟨d.tones, rfl⟩

theorem evaluateRecord_withheld {r : Fin 16} {p : Probe} {d : Device} (h : verdictWithheld p.slot d = true) :
    (evaluateRecord r p d).dma = d.dma := by
  have same : verdictWithheld p.slot ((releaseOwner p.ctx r d).setRecord r (some { p with state := .evaluating })) = true := by
    rw [← h, verdictWithheld, verdictWithheld, canAccess, canAccess]
    simp
  unfold evaluateRecord
  dsimp only
  rw [if_pos same]
  simp [freeRecord]

section
variable {d : Device} {r : Fin 16} {p : Probe} (record : d.probes.records[r] = some p)
include record

theorem moveProbe_grace (h : p.state = .grace) : moveProbe d r = evaluateRecord r p (endGrace p.tone r .ended d) := by
  unfold moveProbe
  rw [record]
  exact if_pos h

theorem moveProbe_moves (h : p.state ≠ .grace) :
    (moveProbe d r).probes.records[r] = some (p.atRound d.rounds.number) ∧
    (p.state = .listening → (p.atRound d.rounds.number).state = .grace →
      (moveProbe d r).tones[p.tone] = .quarantined ⟨d.rounds.number, some r, .grace, p.lastListen, false⟩) := by
  unfold moveProbe
  rw [record]
  dsimp only
  rw [if_neg h]
  split
  · exact ⟨(recordAt_setRecord r _ d r).trans (if_pos rfl), fun _ _ => (toneAt_releaseTone _ _ _ _ _ _ _).trans (if_pos rfl)⟩
  · next stays => exact ⟨(recordAt_setRecord r _ d r).trans (if_pos rfl), fun listening grace => absurd ⟨listening, grace⟩ stays⟩
end

theorem atRound_launching {p : Probe} (n : Round) (h : p.state = .launching ∨ p.state = .evaluating) : p.atRound n = p := by
  rcases h with h | h <;> rw [Probe.atRound, h]

theorem atRound_armed {p : Probe} (n : Round) (h : p.state = .armed) : p.atRound n =
    { p with state := .listening, listenFrom := some n, lastListen := some n, roundsListened := 1 } := by rw [Probe.atRound, h]

theorem atRound_listening {p : Probe} (n : Round) (h : p.state = .listening) : p.atRound n =
    if p.roundsListened < p.record.nmaxEff then { p with roundsListened := p.roundsListened + 1, lastListen := some n }
    else { p with state := .grace } := by rw [Probe.atRound, h]

/-- Settles O38, by the probe's state. -/
theorem probeAtRoundStart : Obligations.ProbeAtRoundStart := by
  refine ⟨fun d r p record => ⟨fun state => ?_, fun state => ?_, fun state more => ?_, fun state last => ?_, fun state => ?_,
      fun q other => (moveProbe_other d r q other).1⟩,
    fun d r p => ⟨evaluateRecord_evaluated r p d, (evaluateRecord_contexts r p d).1, (evaluateRecord_sameBus r p d).issued, by simp,
      evaluateRecord_slots r p d, evaluateRecord_withheld⟩, moveProbes_stops,
    fun d r p => ⟨(completeEarly_does r p d).1, ?_, (completeEarly_does r p d).2.1, fun grace => ?_⟩⟩
  · rw [(moveProbe_moves record (by simp [state])).1, atRound_launching _ (.inl state)]
  · rw [(moveProbe_moves record (by simp [state])).1, atRound_armed _ state]
  · rw [(moveProbe_moves record (by simp [state])).1, atRound_listening _ state, if_pos more]
  · obtain ⟨moved, tone⟩ := moveProbe_moves record (by simp [state])
    have leaves : p.atRound d.rounds.number = { p with state := .grace } := by
      rw [atRound_listening _ state, if_neg (by omega)]
    exact ⟨by rw [moved, leaves], tone state (by rw [leaves])⟩
  · obtain ⟨v, frame⟩ := endGrace_frame p.tone r .ended d
    rw [moveProbe_grace record state]
    refine ⟨?_, (evaluateRecord_contexts r p _).1, fun z tone holder grace => ?_⟩
    · rw [frame]; exact (evaluateRecord_evaluated r p _).before rfl rfl rfl
    · rw [(evaluateRecord_keeps r p _).2.2.2.2.2.2.2.2.2.1]
      exact endGrace_tone tone holder grace
  · unfold completeEarly
    split
    · exact (evaluateRecord_contexts r p _).1
    · exact (evaluateRecord_contexts r p _).1
  · refine ⟨((completeEarly_does r p d).2.2 (by simp [grace])).issued, fun z tone holder status => ?_⟩
    have completes : completeEarly r p d = evaluateRecord r p (endGrace p.tone r .ended d) := if_neg (by simp [grace])
    rw [completes, (evaluateRecord_keeps r p _).2.2.2.2.2.2.2.2.2.1]
    exact endGrace_tone tone holder status

/-! ### An accepted mark -/

theorem applyStaged_taps (d : Device) : ∃ t c, (applyStaged d).taps = { d.taps with table := t, cursor := c } := by
  unfold applyStaged
  split
  · exact ⟨_, _, rfl⟩
  · split
    · exact ⟨_, _, by simp only [owe_keeps, applyPeers_keeps]; rfl⟩
    · exact ⟨_, _, rfl⟩

theorem markHello_spec (f : FollowerLink) (begins : Bool) : ∃ h k, f.markHello begins = { f with hello := h, helloCount := k } ∧
    (begins = true → h = some .joining ∧ k = 0) ∧
    (begins = false → 16 ≤ f.helloCount + 1 → h = some (f.hello.getD .steady) ∧ k = 0) ∧
    (begins = false → f.helloCount + 1 < 16 → h = f.hello ∧ k = f.helloCount + 1) := by
  unfold FollowerLink.markHello
  cases begins with
  | true => exact ⟨_, _, rfl, fun _ => ⟨rfl, rfl⟩, fun bad => absurd bad (by simp), fun bad => absurd bad (by simp)⟩
  | false =>
    rw [if_neg Bool.false_ne_true]
    split
    · next due => exact ⟨_, _, rfl, fun bad => absurd bad (by simp), fun _ _ => ⟨rfl, rfl⟩, fun _ early => absurd due (by
        have : Config.helloPeriod = 16 := rfl
        omega)⟩
    · next early => exact ⟨f.hello, _, rfl, fun bad => absurd bad (by simp), fun _ due => absurd due (by
        have : Config.helloPeriod = 16 := rfl
        omega), fun _ _ => ⟨rfl, rfl⟩⟩

/-- The device when a mark has been accepted, before staged settings are applied. -/
def marked (m : MarkBody) (d : Device) : Device :=
  let e := endFollowerRound d
  { e with
    rounds := { e.rounds with
      number := m.round, leadState := .following, lastMark := some ⟨d.now, m.period, m.guardTime⟩
      phase := .scheduled (d.now + m.guardTime) (d.now + m.period) }
    follower := { e.follower.markHello (d.rounds.leadState == .leadLost) with
      leadLostAt := some (d.now + 4 * m.period), grant := some m.grants[d.ownNode] } }

theorem acceptMark_eq (m : MarkBody) (d : Device) : acceptMark m d = commonRoundStart (applyStaged (marked m d)) := rfl

theorem endFollowerRound_frame (d : Device) : ∃ a, endFollowerRound d = { d with taps := a } ∧ a.plan = [] ∧ a.heldWatches = [] ∧
    a.table = d.taps.table ∧ (beforeDeadline d = true → ∀ (j : Fin 4) (l : Look), a.detectors[j] ≠ .looking l) := by
  unfold endFollowerRound
  split
  · exact ⟨_, rfl, rfl, rfl, rfl, fun _ j l => abandonLooks_detectors d j l⟩
  · next late => exact ⟨_, rfl, rfl, rfl, rfl, fun early => absurd early late⟩

/-- Settles O45: the mark's own timing, then the application, then what every round start does. -/
theorem markAccepted : Obligations.MarkAccepted := by
  intro time source body m i s following idle identity lead good apart
  have running : s.dev.iface.state = .running ∧ s.dev.iface.mode = some .follow := by
    simpa [Device.following, Device.running] using following
  obtain ⟨running, follow⟩ := running
  generalize hd : s.dev.advance time = d
  have run : exec (.roundMarkReceived time (BitVec.ofNat 8 source.val) 0xFF#8 body) s =
      .next { s with dev := settle (acceptMark m d) } := by
    have taken : takeMark source m d = acceptMark m d := by
      rw [← hd]
      exact (if_neg (by show s.dev.iface.mode ≠ some .lead; rw [follow]; simp)).trans
        ((if_neg (not_not.2 (by show s.dev.identity.bind _ = _; rw [identity]; exact lead))).trans
          (if_neg (by rw [apart]; exact Bool.false_ne_true)))
    rw [← taken, ← receive_mark (d := d) (by rw [← hd]; exact running) (by rw [← hd]; exact idle) good, ← hd]
    rfl
  have follow' : d.iface.mode ≠ some .lead := by rw [← hd]; show s.dev.iface.mode ≠ _; rw [follow]; simp
  have can : canAccess s.dev = true := canAccess_of_running running
  have own : d.ownNode = i.ownNode := by rw [← hd]; show (s.dev.identity.map _).getD 0 = _; rw [identity]; rfl
  have now : d.now = max s.dev.now time := by rw [← hd]; rfl
  have rounds : d.rounds = s.dev.rounds := by rw [← hd]; rfl
  obtain ⟨iface, dma, windows, tones, slots, journal, follower, table₀⟩ : d.iface = s.dev.iface ∧ d.dma = s.dev.dma ∧
      d.windows = s.dev.windows ∧ d.tones = s.dev.tones ∧ d.slots = s.dev.slots ∧ d.journal = s.dev.journal ∧
      d.follower = s.dev.follower ∧ d.taps.table = s.dev.taps.table := by
    rw [← hd]; exact ⟨rfl, rfl, rfl, rfl, rfl, rfl, rfl, rfl⟩
  obtain ⟨a, ended, plan, held, table, looks⟩ := endFollowerRound_frame d
  obtain ⟨h, k, hello, joins, steady, counts⟩ := markHello_spec s.dev.follower (d.rounds.leadState == .leadLost)
  have markedEq : marked m d = { d with
      taps := a
      rounds := { d.rounds with
        number := m.round, leadState := .following, lastMark := some ⟨d.now, m.period, m.guardTime⟩
        phase := .scheduled (d.now + m.guardTime) (d.now + m.period) }
      follower := { s.dev.follower with
        hello := h, helloCount := k, leadLostAt := some (d.now + 4 * m.period), grant := some m.grants[d.ownNode] } } := by
    unfold marked
    rw [ended]
    dsimp only
    rw [follower, hello]
  generalize hy : marked m d = y at markedEq
  have same : Adds (fun _ => false) s.dev y ∧ ∀ q, Adds q s.dev y := by
    rw [markedEq]
    exact ⟨.of_eq iface dma, fun _ => .of_eq iface dma⟩
  obtain ⟨t, c, taps⟩ := applyStaged_taps y
  have yRounds : y.rounds = { s.dev.rounds with
      number := m.round, leadState := .following, lastMark := some ⟨d.now, m.period, m.guardTime⟩
      phase := .scheduled (d.now + m.guardTime) (d.now + m.period) } := by rw [markedEq, rounds]
  have frame : (applyStaged y).rounds.number = m.round ∧ (applyStaged y).rounds.leadState = .following ∧
      (applyStaged y).rounds.lastMark = some ⟨d.now, m.period, m.guardTime⟩ ∧
      (applyStaged y).rounds.phase = .scheduled (d.now + m.guardTime) (d.now + m.period) := by
    rcases applyStaged_rounds y with e | ⟨_, _, _, e⟩ <;> rw [e, yRounds] <;> exact ⟨rfl, rfl, rfl, rfl⟩
  obtain ⟨number, state, last, phase⟩ := frame
  have settledEq : settled y = settled s.dev := by
    rw [settled, settled, (same.2 isSettingsRead).live_eq, yRounds]
  have later := commonRoundStart_adds (q := fun _ => false) (applyStaged y) (fun _ _ _ => rfl) (fun _ _ _ => rfl)
  refine ⟨acceptMark m d, run, ?_⟩
  rw [acceptMark_eq, hy]
  simp only [commonRoundStart_keeps, applyStaged_keeps]
  refine ⟨by rw [markedEq]; exact now, number, state, by rw [last, markedEq], by rw [phase, markedEq], by rw [markedEq]; exact congrArg (fun n : Fin 16 => some m.grants[n]) own,
    by rw [markedEq], by rw [markedEq], by rw [markedEq], fun lost => ?_, fun on due => ?_, fun on early => ?_,
    fun seq x staged settled allowed => ?_, fun waits => ?_, fun x => ?_, fun w => ⟨?_, fun changed => ?_⟩, by rw [taps, markedEq]; exact plan,
    by rw [taps, markedEq]; exact held, ?_, fun early j l => ?_, ?_⟩
  · rw [markedEq]; exact joins (by rw [rounds, lost]; rfl)
  · rw [markedEq]; exact steady (by rw [rounds, on]; rfl) due
  · rw [markedEq]; exact counts (by rw [rounds, on]; rfl) early
  · have stagedY : y.rounds.staged = some (seq, x) := by rw [yRounds]; exact staged
    have allowedY : y.rounds.hold = false ∨ y.rounds.inForce = none := by rw [yRounds]; exact allowed
    have force := applyStaged_in_force stagedY (settledEq.trans settled) allowedY
    obtain ⟨-, -, -, -, -, -, -, ack, -⟩ := (stagedSettingsApply y seq x stagedY).1 (settledEq.trans settled) allowedY
    obtain ⟨owed, issued⟩ := ack ((same.2 (fun _ => false)).canAccess.trans can)
    rw [force]
    refine ⟨rfl, ?_, rfl, applyStaged_table stagedY (settledEq.trans settled) allowedY, fun busy => ?_, fun quiet within => ?_⟩
    · rw [appliedRounds, yRounds]
    · exact later.owed _ (owed ((same.2 _).live_eq.trans busy))
    · obtain ⟨w, mem, kind, addr, length, first, second⟩ := issued ((same.2 _).live_eq.trans quiet)
        (by rw [same.1.iface, same.1.boardAddr]; exact within)
      obtain ⟨ws, more, -⟩ := later.inFlight
      exact ⟨w, by rw [more]; exact List.mem_append_left _ mem, kind, by rw [addr, same.1.boardAddr], length, first,
        by rw [second, yRounds]⟩
  · have stays : applyStaged y = y := by
      rcases waits with none | waits | waits
      · exact applyStaged_none (by rw [yRounds]; exact none)
      · exact applyStaged_waits (.inl (settledEq.trans waits))
      · exact applyStaged_waits (.inr (by rw [yRounds]; exact waits))
    rw [stays, yRounds]
    exact ⟨rfl, rfl, rfl, by rw [markedEq]; exact table.trans table₀⟩
  · have before : (applyStaged y).tones = s.dev.tones := by
      rw [(applyStaged_keeps y).2.2.2.2.2.2.2.2.2.2.1, markedEq, ← tones]
    rw [commonRoundStart_tones, number, before]
    exact toneAtRound_eq _ _
  · rw [commonRoundStart_windows, (applyStaged_keeps y).2.2.2.2.2.2.2.1, markedEq, ← windows]
  · have before : (applyStaged y).windows = s.dev.windows := by
      rw [(applyStaged_keeps y).2.2.2.2.2.2.2.1, markedEq, ← windows]
    have due := commonRoundStart_windowDue (applyStaged y) w (by rw [before]; exact changed)
    exact due.before ((same.2 _).trans (applyStaged_adds y (fun _ _ _ => rfl) (fun _ _ => rfl)))
  · rw [commonRoundStart_journal, (applyStaged_keeps y).2.2.2.2.2.2.2.2.2.2.2.2.2.2.2.2, markedEq]
    exact congrArg (fun j : Journal => { j with memory := [] }) journal
  · have stands : (applyStaged y).taps.detectors = a.detectors := by rw [taps, markedEq]
    exact fun bad => looks early j l ((congrArg (fun v : Vector Detector 4 => v[j]) stands).symm.trans bad)
  · rw [commonRoundStart_slots, settleWindows_follower (by
      show (applyStaged y).iface.mode ≠ some .lead
      rw [(applyStaged_keeps y).2.2.2.1, markedEq]; exact follow')]
    show (applyStaged y).slots = _
    rw [(applyStaged_keeps y).2.2.2.2.2.1, markedEq, ← slots]

end Sys2Proof.Machine.RoundStarts

/-! ## ROUND_START at a lead (3.2, 4.6, 6.3 to 6.7) -/

namespace Sys2Proof.Machine.LeadRounds
open Completions Slots SettingsInForce RoundTimer RoundStarts StepLaws

/-! ### The credit steps one by one -/

theorem lendPeer_lends {n : Round} {l : LeadLink} {p : Fin 16} (backlog : l.peers[p].hasBacklog = true) (pool : 4 ≤ l.pool)
    (room : l.peers[p].lent < 64) : lendPeer n l p = { l with
      pool := l.pool - 4, pointer := p, peers := l.peers.set p { l.peers[p] with lent := l.peers[p].lent + 4 } } :=
  (if_pos backlog).trans (if_pos ⟨pool, room⟩)

theorem lendPeer_spent {n : Round} {l : LeadLink} {p : Fin 16} (backlog : l.peers[p].hasBacklog = true)
    (spent : l.pool < 4 ∨ 64 ≤ l.peers[p].lent) : lendPeer n l p = l :=
  (if_pos backlog).trans (if_neg (by omega))

theorem lendPeer_withdraws {n : Round} {l : LeadLink} {p : Fin 16} (quiet : l.peers[p].hasBacklog = false)
    (lent : 0 < l.peers[p].lent) : lendPeer n l p = { l with peers := l.peers.set p { l.peers[p] with
      lent := 0, blocks := l.peers[p].blocks ++ [⟨l.peers[p].lent, n + 2#32⟩] } } := by
  have withdrawn : l.peers[p].withdraw n = { l.peers[p] with
      lent := 0, blocks := l.peers[p].blocks ++ [⟨l.peers[p].lent, n + 2#32⟩] } := if_neg (by omega)
  rw [← withdrawn]
  exact if_neg (by rw [quiet]; exact Bool.false_ne_true)

theorem lowerReserve_least {x : Peer} {queued : Nat} (above : x.target < x.reserve) :
    ∃ k, x.lowerReserve queued = { x with reserve := max x.target (4 * k) } ∧
      queued ≤ 4 * k + x.lent + x.withdrawn ∧ ∀ j, queued ≤ 4 * j + x.lent + x.withdrawn → k ≤ j := by
  refine ⟨(queued - x.lent - x.withdrawn + 3) / 4, ?_, by omega, fun j h => by omega⟩
  rw [Peer.lowerReserve, if_pos above, ceilFour, Nat.mul_comm]

theorem returnBlocks_cons (n : Round) (queued limit : Nat) (kept bs : List CreditBlock) (b : CreditBlock) :
    returnBlocks n queued limit kept (b :: bs) =
      if b.isDue n = true ∧ queued ≤ limit + (kept.map (·.amount)).sum + (bs.map (·.amount)).sum then
        ((returnBlocks n queued limit kept bs).1, (returnBlocks n queued limit kept bs).2 + b.amount)
      else returnBlocks n queued limit (kept ++ [b]) bs := by
  rw [returnBlocks]
  exact if_congr (by simp) rfl rfl

theorem tickSilence_configured {x : Peer} (h : x.configured = true) : x.tickSilence.silence = min (x.silence + 1) 8 ∧
    (7 ≤ x.silence → (x.state = .unknown ∨ x.state = .present) → x.tickSilence.state = .silent) ∧
    (x.silence < 7 → x.tickSilence.state = x.state) := by
  have limit : Config.silenceLimit = 8 := rfl
  unfold Peer.tickSilence
  rw [if_pos h]
  refine ⟨rfl, fun long heard => if_pos ⟨by omega, heard⟩, fun short => if_neg (fun ⟨full, _⟩ => by omega)⟩

/-! ### Probe moves, all of them -/

/-- A record is moved once, from a device that holds it as the round found it. -/
theorem moveAll_at (r : Fin 16) (xs : List (Fin 16)) : ∀ (d : Device), xs.Nodup →
    (r ∉ xs → (xs.foldl moveProbe d).probes.records[r] = d.probes.records[r]) ∧
    (r ∈ xs → ∃ e : Device, e.probes.records[r] = d.probes.records[r] ∧ e.rounds = d.rounds ∧
      (xs.foldl moveProbe d).probes.records[r] = (moveProbe e r).probes.records[r]) := by
  induction xs with
  | nil => exact fun d _ => ⟨fun _ => rfl, fun h => by simp at h⟩
  | cons x xs ih =>
    intro d nodup
    obtain ⟨out, nodup⟩ := List.nodup_cons.1 nodup
    obtain ⟨rest, mine⟩ := ih (moveProbe d x) nodup
    rw [List.foldl_cons]
    have others {k : Fin 16} (h : k ≠ x) : (moveProbe d x).probes.records[k] = d.probes.records[k] := (moveProbe_other d x k h).1
    refine ⟨fun absent => ?_, fun present => ?_⟩
    · obtain ⟨other, absent⟩ : r ≠ x ∧ r ∉ xs := by simpa using absent
      exact (rest absent).trans (others other)
    · by_cases same : r = x
      · subst same
        exact ⟨d, rfl, rfl, rest out⟩
      · obtain ⟨e, record, rounds, moved⟩ := mine ((List.mem_cons.1 present).resolve_left same)
        exact ⟨e, record.trans (others same), rounds.trans (by simp), moved⟩

/-- Between the moves and their end stand the STOPs only. -/
theorem moveProbes_frame (d : Device) : ∃ m l, m = (List.finRange 16).foldl moveProbe d ∧ moveProbes d = { m with launch := l } := by
  obtain ⟨l, stops, -⟩ := requestStops_frame (gracingContexts d) ((List.finRange 16).foldl moveProbe d)
  exact ⟨_, l, rfl, stops⟩

theorem moveProbes_records (d : Device) (r : Fin 16) : ∃ e : Device, e.probes.records[r] = d.probes.records[r] ∧
    e.rounds = d.rounds ∧ (moveProbes d).probes.records[r] = (moveProbe e r).probes.records[r] := by
  obtain ⟨e, record, rounds, moved⟩ := (moveAll_at r (List.finRange 16) d (List.nodup_finRange 16)).2 (List.mem_finRange r)
  obtain ⟨m, l, hm, frame⟩ := moveProbes_frame d
  rw [← hm] at moved
  exact ⟨e, record, rounds, by rw [frame]; exact moved⟩

theorem moveProbes_free {d : Device} {r : Fin 16} (h : d.probes.records[r] = none) : (moveProbes d).probes.records[r] = none := by
  obtain ⟨e, record, -, moved⟩ := moveProbes_records d r
  rw [h] at record
  rw [moved, moveProbe, record]
  exact record

theorem moveProbes_moves {d : Device} {r : Fin 16} {p : Probe} (h : d.probes.records[r] = some p) (state : p.state ≠ .grace) :
    (moveProbes d).probes.records[r] = some (p.atRound d.rounds.number) := by
  obtain ⟨e, record, rounds, moved⟩ := moveProbes_records d r
  rw [moved, (moveProbe_moves (record.trans h) state).1, rounds]

/-- A probe's move changes no tone but its own. -/
theorem moveProbe_tone {d : Device} {r : Fin 16} {x : Fin 48} (h : ∀ p, d.probes.records[r] = some p → p.tone ≠ x) :
    toneAt (moveProbe d r) x = toneAt d x := by
  cases record : d.probes.records[r] with
  | none => rw [moveProbe, record]
  | some p =>
    have other : x ≠ p.tone := (h p record).symm
    by_cases grace : p.state = .grace
    · rw [moveProbe_grace record grace, toneAt_of_tones (d := endGrace p.tone r .ended d) (by simp)]
      exact toneAt_endGrace_other r .ended d other
    · unfold moveProbe
      rw [record]
      dsimp only
      rw [if_neg grace]
      split
      · exact (toneAt_releaseTone _ _ _ _ _ _ _).trans (if_neg other)
      · rfl

theorem moveAll_tone {d : Device} {x : Fin 48} (h : ∀ (r : Fin 16) (p : Probe), d.probes.records[r] = some p → p.tone ≠ x)
    (xs : List (Fin 16)) : ∀ (e : Device), xs.Nodup → (∀ r ∈ xs, e.probes.records[r] = d.probes.records[r]) →
      toneAt (xs.foldl moveProbe e) x = toneAt e x := by
  induction xs with
  | nil => exact fun _ _ _ => rfl
  | cons k xs ih =>
    intro e nodup same
    obtain ⟨out, nodup⟩ := List.nodup_cons.1 nodup
    rw [List.foldl_cons, ih (moveProbe e k) nodup fun r mem => ?_]
    · exact moveProbe_tone fun p record => h k p (by rw [← same k (List.mem_cons_self ..)]; exact record)
    · rw [(moveProbe_other e k r (fun bad => out (by rw [← bad]; exact mem))).1]
      exact same r (List.mem_cons_of_mem _ mem)

theorem moveProbes_tone {d : Device} {x : Fin 48} (h : ∀ (r : Fin 16) (p : Probe), d.probes.records[r] = some p → p.tone ≠ x) :
    (moveProbes d).tones[x] = d.tones[x] := by
  have moved := moveAll_tone h (List.finRange 16) d (List.nodup_finRange 16) (fun _ _ => rfl)
  obtain ⟨m, l, hm, frame⟩ := moveProbes_frame d
  rw [← hm] at moved
  rw [frame]
  exact moved

/-! ### The link controller at a round start -/

/-- The link controller once credit and silence have been taken and the mark is placed. -/
def linkAtRound (d : Device) : LeadLink :=
  { creditSteps d.ownNode (queueCounts d) d.rounds.number d.lead with
    peers := mapVec (fun _ p => p.tickSilence) (creditSteps d.ownNode (queueCounts d) d.rounds.number d.lead).peers
    transmit := [.mark d.rounds.number d.rounds.period d.rounds.guardTime
      (mapVec (fun p _ => grantOf (linkRoundStart d) p) (Vector.replicate 16 ()))] }

theorem countSilence_lead (d : Device) : (countSilence d).lead =
    { d.lead with peers := mapVec (fun _ p => p.tickSilence) d.lead.peers } := by
  unfold countSilence
  exact foldl_keeps Device.lead (reportSilent d.lead.peers) (by simp) _ _

/-- Behind the credit steps and the silence counts stand the peers' status writes and the mark. -/
theorem linkRoundStart_frame (d : Device) : ∃ b c e, b = { d with lead := creditSteps d.ownNode (queueCounts d) d.rounds.number d.lead } ∧
    c = countSilence b ∧ e = owePeers d.lead.peers c ∧ linkRoundStart d = placeMark e := ⟨_, _, _, rfl, rfl, rfl, rfl⟩

theorem linkRoundStart_lead (d : Device) : (linkRoundStart d).lead = linkAtRound d := by
  obtain ⟨b, c, e, hb, hc, he, placed⟩ := linkRoundStart_frame d
  have lead : e.lead = { creditSteps d.ownNode (queueCounts d) d.rounds.number d.lead with
      peers := mapVec (fun _ p => p.tickSilence) (creditSteps d.ownNode (queueCounts d) d.rounds.number d.lead).peers } := by
    rw [he, (owePeers_keeps _ _).2.2.2.2.2.2.2.2.2.2.2.2.2.1, hc, countSilence_lead, hb]
  have rounds : e.rounds = d.rounds := by rw [he, hc, hb]; simp
  have grants : grantOf (placeMark e) = grantOf e := rfl
  rw [linkAtRound, placed, grants, placeMark, lead, rounds]

theorem linkRoundStart_adds {q : AccessKind → Bool} (d : Device) (h : ∀ c b, q (.channelWrite .produced c b) = false)
    (hj : q .journalWrite = false) (hp : ∀ p c b, q (.channelWrite (.peer p) c b) = false) : Adds q d (linkRoundStart d) := by
  obtain ⟨b, c, e, hb, hc, he, placed⟩ := linkRoundStart_frame d
  have start : Adds q d b := by rw [hb]; exact .of_eq rfl rfl
  have silence : Adds q b c := by rw [hc]; exact countSilence_adds b h hj
  have owed : Adds q c e := by rw [he]; exact (owePeers_due _ _).1 q hp
  rw [placed]
  exact ((start.trans silence).trans owed).trans (.of_eq rfl rfl)

/-- A peer whose status the link controller changes has its status write due, and none is issued for another. -/
theorem linkRoundStart_peers {d : Device} (lead : d.iface.mode = some .lead) (p : Fin 16) :
    (peerStatusBytes (linkRoundStart d).lead.peers[p] = peerStatusBytes d.lead.peers[p] →
      Adds (ofChannel (.peer p)) d (linkRoundStart d)) ∧
    (peerStatusBytes (linkRoundStart d).lead.peers[p] ≠ peerStatusBytes d.lead.peers[p] → peerDue d (linkRoundStart d) p False) := by
  obtain ⟨b, c, e, hb, hc, he, placed⟩ := linkRoundStart_frame d
  have start : Adds (ofChannel (.peer p)) d b := by rw [hb]; exact .of_eq rfl rfl
  have silence : Adds (ofChannel (.peer p)) d c := by rw [hc]; exact start.trans (countSilence_adds b (fun _ _ => rfl) rfl)
  obtain ⟨-, stays, due⟩ := owePeers_due d.lead.peers c
  rw [← he] at stays due
  have peers : (linkRoundStart d).lead.peers = c.lead.peers := by
    rw [placed]
    show e.lead.peers = _
    rw [he, (owePeers_keeps _ _).2.2.2.2.2.2.2.2.2.2.2.2.2.1]
  rw [peers]
  refine ⟨fun same => ?_, fun changed => ?_⟩
  · rw [placed]
    exact (silence.trans (stays p same.symm)).trans (.of_eq rfl rfl)
  · have issued := (due p (by rw [silence.iface]; exact lead) (Ne.symm changed)).before silence
    rw [placed]
    exact issued.after (.of_eq rfl rfl) rfl id

/-- A status write due twice is owed behind its first. -/
theorem peerDue_again {c d e : Device} {p : Fin 16} {l l' : Prop} (first : peerDue c d p l) (again : peerDue d e p l')
    (a : Adds (fun _ => false) c d) (b : Adds (fun _ => false) d e) : peerDue c e p (.peer p ∈ e.dma.owed) := by
  intro can
  have length (x y : Peer) : (peerStatusBytes x).length = (peerStatusBytes y).length := by simp
  obtain ⟨owed, issued⟩ := first can
  obtain ⟨behind, -⟩ := again (a.canAccess.trans can)
  refine ⟨fun busy => b.owed _ (owed busy), fun idle within => ?_⟩
  obtain ⟨w, mem, ⟨x, y, kind⟩, addr, len, -, alive⟩ := issued idle (by rw [length _ e.lead.peers[p]]; exact within)
  obtain ⟨xs, more, -⟩ := b.inFlight
  refine ⟨w, by rw [more]; exact List.mem_append_left _ mem, ⟨x, y, kind⟩, addr, len.trans (length _ _), .inr (behind ?_), alive⟩
  exact List.any_eq_true.2 ⟨w, List.mem_append_left _ mem, by simp [alive, kind, ofChannel]⟩

theorem enqueueJournal_memory (e : JournalEntry) (d : Device) : (enqueueJournal e d).journal.memory = d.journal.memory := by
  unfold enqueueJournal
  split
  · exact (journalOverflow_journal d).memory
  · exact (serveJournal_journal _).memory

theorem reportSilent_memory (b : Vector Peer 16) (d : Device) (p : Fin 16) :
    (reportSilent b d p).journal.memory = d.journal.memory := by
  unfold reportSilent
  split
  · unfold journalRequest
    split
    · exact enqueueJournal_memory _ _
    · rfl
  · rfl

/-- Silence entries carry no coalescing key. -/
theorem linkRoundStart_memory (d : Device) : (linkRoundStart d).journal.memory = d.journal.memory := by
  obtain ⟨b, c, e, hb, hc, he, placed⟩ := linkRoundStart_frame d
  have counted : c.journal.memory = b.journal.memory := by
    rw [hc]
    unfold countSilence
    exact foldl_keeps (fun d => d.journal.memory) (reportSilent b.lead.peers) (fun d p => reportSilent_memory _ d p) _ _
  rw [placed]
  show e.journal.memory = _
  rw [he, (owePeers_keeps _ _).2.2.2.2.2.2.2.2.2.2.2.2.2.2.2.2.2.2.2, counted, hb]

end Sys2Proof.Machine.LeadRounds

/-! ## ROUND_START, block by block (3.2) -/

namespace Sys2Proof.Machine.LeadRounds
open Completions Slots SettingsInForce RoundTimer RoundStarts StepLaws

/-! ### The device a round start leaves to the probes -/

/-- The device with the number raised, staged settings applied and the round scheduled. -/
def scheduled (d : Device) : Device :=
  scheduleRound (dropPlan (applyStaged { d with rounds := { d.rounds with number := d.rounds.number + 1#32 } }))

theorem roundBegun_eq (d : Device) : roundBegun d = commonRoundStart (scheduled d) := rfl

/-- Applying and scheduling leaves every block but the round timer, the taps, the peers and the accesses. -/
structure Untouched (d e : Device) : Prop where
  now : e.now = d.now
  iface : e.iface = d.iface
  identity : e.identity = d.identity
  slots : e.slots = d.slots
  windows : e.windows = d.windows
  probes : e.probes = d.probes
  launch : e.launch = d.launch
  tones : e.tones = d.tones
  areas : e.areas = d.areas
  walks : e.walks = d.walks
  classifier : e.classifier = d.classifier
  journal : e.journal = d.journal

theorem scheduled_untouched (d : Device) : Untouched d (scheduled d) := by
  constructor <;> simp [scheduled]

theorem scheduled_rounds (d : Device) : (scheduled d).rounds.number = d.rounds.number + 1#32 ∧
    (scheduled d).rounds.watchAt = some (d.now + (scheduled d).rounds.guardTime / 2) ∧
    (scheduled d).rounds.nextAt = some (d.now + (scheduled d).rounds.period) ∧
    (scheduled d).rounds.phase = .scheduled (d.now + (scheduled d).rounds.guardTime) (d.now + (scheduled d).rounds.period) := by
  unfold scheduled
  generalize hx : applyStaged { d with rounds := { d.rounds with number := d.rounds.number + 1#32 } } = x
  have number : x.rounds.number = d.rounds.number + 1#32 := by rw [← hx, applyStaged_number]
  have now : x.now = d.now := by rw [← hx]; simp
  rw [← number, ← now]
  exact ⟨rfl, rfl, rfl, rfl⟩

theorem scheduled_taps (d : Device) : (scheduled d).taps.plan = [] ∧ (scheduled d).taps.watched = [] ∧
    (scheduled d).taps.localWatches = [] ∧ (scheduled d).taps.detectors = d.taps.detectors := by
  obtain ⟨t, c, taps⟩ := applyStaged_taps { d with rounds := { d.rounds with number := d.rounds.number + 1#32 } }
  refine ⟨rfl, rfl, rfl, ?_⟩
  show (applyStaged _).taps.detectors = _
  rw [taps]

theorem scheduled_adds {q : AccessKind → Bool} (d : Device) (hp : ∀ p c b, q (.channelWrite (.peer p) c b) = false)
    (ha : ∀ c b, q (.channelWrite .acknowledgment c b) = false) : Adds q d (scheduled d) := by
  unfold scheduled
  generalize hx : ({ d with rounds := { d.rounds with number := d.rounds.number + 1#32 } } : Device) = x
  have start : Adds q d x := by rw [← hx]; exact .of_eq rfl rfl
  exact (start.trans (applyStaged_adds x hp ha)).trans (.of_eq (by simp) (by simp))

theorem scheduled_peers (d : Device) (p : Fin 16) :
    (d.iface.mode = some .lead → peerStatusBytes (scheduled d).lead.peers[p] ≠ peerStatusBytes d.lead.peers[p] →
      peerDue d (scheduled d) p False) ∧
    (peerStatusBytes (scheduled d).lead.peers[p] = peerStatusBytes d.lead.peers[p] → Adds (ofChannel (.peer p)) d (scheduled d)) := by
  unfold scheduled
  generalize hx : ({ d with rounds := { d.rounds with number := d.rounds.number + 1#32 } } : Device) = x
  have start {q : AccessKind → Bool} : Adds q d x := by rw [← hx]; exact .of_eq rfl rfl
  have lead : x.lead = d.lead := by rw [← hx]
  obtain ⟨due, stays⟩ := applyStaged_peers x p
  rw [lead] at due stays
  generalize applyStaged x = y at due stays
  refine ⟨fun mode changed => ?_, fun same => (start.trans (stays same)).trans (.of_eq rfl rfl)⟩
  exact ((due (by rw [← hx]; exact mode) changed).before start).after (.of_eq rfl rfl) rfl id

theorem scheduled_unstaged {d : Device} (h : d.rounds.staged = none) : (scheduled d).lead = d.lead := by
  unfold scheduled
  rw [applyStaged_none (by exact h)]
  rfl

/-- The slots after a round start: a campaign runs again, and notes its shadow write. -/
theorem settleWindows_noted (d : Device) (n : Fin 8) : Noted { d.slots[n] with state := (settleWindows d).slots[n].state }
    (settleWindows d).slots[n] := by
  have all (xs : List (Fin 8)) : ∀ e : Device, Noted { e.slots[n] with
      state := (xs.foldl (fun d n => moveSlot n .running d) e).slots[n].state }
      (xs.foldl (fun d n => moveSlot n .running d) e).slots[n] := by
    induction xs with
    | nil => exact fun e => .refl _
    | cons x xs ih =>
      intro e
      rw [List.foldl_cons]
      obtain ⟨k, b, moved⟩ := ih (moveSlot x .running e)
      obtain ⟨k', b', one⟩ := moveSlot_slots x n .running e
      refine ⟨k, b, moved.trans ?_⟩
      rw [one]
      split
      · next same => subst same; rfl
      · rfl
  have counted := all (boundSlots d (quieting d) [.waiting, .suspended]) (countedDown d)
  rw [← settleWindows_eq, countedDown_slots] at counted
  exact counted

theorem commonRoundStart_noted (d : Device) (n : Fin 8) : Noted { d.slots[n] with state := (commonRoundStart d).slots[n].state }
    (commonRoundStart d).slots[n] := by
  have noted := settleWindows_noted { d with journal := { d.journal with memory := [] } } n
  rw [← commonRoundStart_slots] at noted
  exact noted

/-- The campaigns a lead's round start runs again. -/
theorem mem_resumed {d : Device} (lead : d.iface.mode = some .lead) (n : Fin 8) :
    n ∈ boundSlots d (quieting d) [.waiting, .suspended] ↔ (d.slots[n].state = .waiting ∨ d.slots[n].state = .suspended) ∧
      ∃ w : Fin 4, d.slots[n].desc.windowId = w.val ∧ d.windows[w].phase = .settling ∧ d.windows[w].settle = 0 := by
  rw [boundSlots, if_pos lead]
  simp only [List.mem_filter, List.mem_finRange, true_and, Bool.and_eq_true, List.contains_iff_mem, List.mem_cons,
    List.not_mem_nil, or_false, List.any_eq_true, quieting, boundTo, beq_iff_eq]
  exact and_congr_right fun _ => exists_congr fun w => ⟨fun ⟨settling, bound⟩ => ⟨bound, settling⟩,
    fun ⟨bound, settling⟩ => ⟨settling, bound⟩⟩

theorem commonRoundStart_states {d : Device} (lead : d.iface.mode = some .lead) (n : Fin 8) :
    (commonRoundStart d).slots[n].state = (if (d.slots[n].state = .waiting ∨ d.slots[n].state = .suspended) ∧
      (∃ w : Fin 4, d.slots[n].desc.windowId = w.val ∧ d.windows[w].phase = .settling ∧ d.windows[w].settle = 0)
      then .running else d.slots[n].state) := by
  rw [commonRoundStart_slots, settleWindows_states]
  exact if_congr (mem_resumed (d := { d with journal := { d.journal with memory := [] } }) lead n) rfl rfl

/-- Whether a slot withholds its verdicts does not change as campaigns run again. -/
theorem commonRoundStart_withheld {d : Device} (lead : d.iface.mode = some .lead) (n : Fin 8) :
    verdictWithheld n (commonRoundStart d) = verdictWithheld n d := by
  obtain ⟨-, reason, -⟩ := (commonRoundStart_noted d n).fields
  have can : canAccess (commonRoundStart d) = canAccess d :=
    (commonRoundStart_adds (q := fun _ => false) d (fun _ _ _ => rfl) (fun _ _ _ => rfl)).canAccess
  have draining : ((commonRoundStart d).slots[n].state == .draining) = (d.slots[n].state == .draining) := by
    rw [commonRoundStart_states lead]
    split
    · next runs => rcases runs.1 with h | h <;> rw [h] <;> rfl
    · rfl
  rw [verdictWithheld, verdictWithheld, draining, reason, can]

/-! ### ROUND_START -/

/-- The device a lead's ROUND_START leaves, by the three devices it passes through. -/
theorem leadRoundStart_frame (d : Device) : ∃ x b m, x = scheduled d ∧ b = commonRoundStart x ∧ m = moveProbes b ∧
    leadRoundStart d = linkRoundStart m := ⟨_, _, _, rfl, rfl, rfl, rfl⟩

/-- What a lead's ROUND_START does to the probes and on the bus. -/
theorem leadRoundStart_probes {d : Device} (lead : d.iface.mode = some .lead) :
    (∀ (r : Fin 16) (p : Probe), d.probes.records[r] = some p →
      (p.state ≠ .grace → (leadRoundStart d).probes.records[r] = some (p.atRound (d.rounds.number + 1#32))) ∧
      (p.state = .grace → evaluated d (leadRoundStart d) r p)) ∧
    (∀ r : Fin 16, d.probes.records[r] = none → (leadRoundStart d).probes.records[r] = none) ∧
    stopsIssued d (leadRoundStart d) (fun c => ∃ (r : Fin 16) (p : Probe), d.probes.records[r] = some p ∧ p.state = .listening ∧
      p.record.nmaxEff ≤ p.roundsListened ∧ p.ctx = c) := by
  obtain ⟨x, b, m, hx, hb, hm, he⟩ := leadRoundStart_frame d
  have kept : Untouched d x := by rw [hx]; exact scheduled_untouched d
  have probes : b.probes = d.probes := by rw [hb, (commonRoundStart_keeps x).2.2.2.2.2.2.2.1, kept.probes]
  have launch : b.launch = d.launch := by rw [hb, (commonRoundStart_keeps x).2.2.2.2.2.2.2.2.1, kept.launch]
  have iface : b.iface = d.iface := by rw [hb, (commonRoundStart_keeps x).2.2.2.1, kept.iface]
  have number : b.rounds.number = d.rounds.number + 1#32 := by
    rw [hb, (commonRoundStart_keeps x).2.2.2.2.2.2.1, hx]; exact (scheduled_rounds d).1
  have records : (leadRoundStart d).probes = m.probes := by rw [he]; simp
  have bus : (leadRoundStart d).launch = m.launch := by rw [he]; simp
  have later : Adds (fun _ => false) m (leadRoundStart d) := by
    rw [he]; exact linkRoundStart_adds m (fun _ _ => rfl) rfl (fun _ _ _ => rfl)
  rw [records]
  refine ⟨fun r p record => ⟨fun moves => ?_, fun grace => ?_⟩, fun r free => ?_, ?_⟩
  · rw [hm, moveProbes_moves (by rw [probes]; exact record) moves, number]
  · have judged := moveProbes_evaluated b r p (by rw [probes]; exact record) grace
    rw [← hm] at judged
    refine (judged.after later (by rw [records]) (by rw [records]; exact id)).before iface ?_ ?_
    · rw [hb, commonRoundStart_withheld (by rw [kept.iface]; exact lead), verdictWithheld, verdictWithheld, canAccess, canAccess,
        kept.slots, kept.iface]
    · rw [hb, (commonRoundStart_noted x p.slot).fields.2.2.2.2.2.2.1, kept.slots]
  · rw [hm, moveProbes_free (by rw [probes]; exact free)]
  · have stops := moveProbes_stops b
    rw [← hm, probes] at stops
    exact stops.sandwich (.of_eq launch) (.of_eq bus) (fun _ => Iff.rfl)

/-- What a lead's ROUND_START does to the windows, the campaigns, the tones and the link, with the writes they owe. -/
theorem leadRoundStart_blocks {d : Device} (lead : d.iface.mode = some .lead) :
    (∀ w : Fin 4, (leadRoundStart d).windows[w] = d.windows[w].atRound ∧
      ((leadRoundStart d).windows[w] ≠ d.windows[w] → windowDue d (leadRoundStart d) w)) ∧
    (∀ n : Fin 8, (leadRoundStart d).slots[n].state = (if (d.slots[n].state = .waiting ∨ d.slots[n].state = .suspended) ∧
        (∃ w : Fin 4, d.slots[n].desc.windowId = w.val ∧ d.windows[w].phase = .settling ∧ d.windows[w].settle = 0)
        then .running else d.slots[n].state) ∧
      ((leadRoundStart d).slots[n].state ≠ d.slots[n].state → shadowDue d (leadRoundStart d) n False)) ∧
    (∀ x : Fin 48, (∀ (r : Fin 16) (p : Probe), d.probes.records[r] = some p → p.tone ≠ x) →
      (leadRoundStart d).tones[x] = toneAtRound (d.rounds.number + 1#32) d.tones[x]) ∧
    (∀ p : Fin 16, peerStatusBytes (leadRoundStart d).lead.peers[p] ≠ peerStatusBytes d.lead.peers[p] →
      peerDue d (leadRoundStart d) p (.peer p ∈ (leadRoundStart d).dma.owed)) ∧
    (leadRoundStart d).journal.memory = [] := by
  obtain ⟨x, b, m, hx, hb, hm, he⟩ := leadRoundStart_frame d
  have kept : Untouched d x := by rw [hx]; exact scheduled_untouched d
  have first (q : AccessKind → Bool) (hp : ∀ p c y, q (.channelWrite (.peer p) c y) = false)
      (ha : ∀ c y, q (.channelWrite .acknowledgment c y) = false) : Adds q d x := by rw [hx]; exact scheduled_adds d hp ha
  have middle (q : AccessKind → Bool) (hw : ∀ w c y, q (.channelWrite (.window w) c y) = false)
      (hs : ∀ n c y, q (.channelWrite (.shadow n) c y) = false) (hv : ∀ n g c r k v, q (.verdictWrite n g c r k v) = false) :
      Adds q x m := by
    rw [hm, hb]; exact (commonRoundStart_adds x hw hs).trans (moveProbes_adds hv _)
  have fromB : Adds (fun _ => false) b (leadRoundStart d) := by
    rw [he, hm]
    exact (moveProbes_adds (fun _ _ _ _ _ _ => rfl) b).trans (linkRoundStart_adds _ (fun _ _ => rfl) rfl (fun _ _ _ => rfl))
  have windows : (leadRoundStart d).windows = b.windows := by rw [he, hm]; simp
  have slots : (leadRoundStart d).slots = b.slots := by rw [he, hm]; simp
  have mode : x.iface.mode = some .lead := by rw [kept.iface]; exact lead
  have peersM : m.lead.peers = x.lead.peers := by rw [hm, hb]; simp
  refine ⟨fun w => ?_, fun n => ?_, fun t unused => ?_, fun p changed => ?_, ?_⟩
  · rw [windows, hb, commonRoundStart_windows, kept.windows]
    refine ⟨rfl, fun changed => ?_⟩
    have due := commonRoundStart_windowDue x w (by rw [commonRoundStart_windows, kept.windows]; exact changed)
    rw [← hb] at due
    exact (due.after fromB (by rw [windows])).before (first _ (fun _ _ _ => rfl) (fun _ _ => rfl))
  · rw [slots, hb, commonRoundStart_states mode, kept.slots, kept.windows]
    refine ⟨rfl, fun changed => ?_⟩
    have due := commonRoundStart_shadowDue x n (by rw [commonRoundStart_states mode, kept.slots, kept.windows]; exact changed)
    rw [← hb] at due
    exact (due.after fromB (by rw [slots]; exact same_slot _) id).before (first _ (fun _ _ _ => rfl) (fun _ _ => rfl))
  · have tones : (leadRoundStart d).tones = m.tones := by rw [he]; simp
    rw [tones, hm, moveProbes_tone (fun r p record => unused r p ?_), hb, commonRoundStart_tones, hx, (scheduled_rounds d).1,
      (scheduled_untouched d).tones]
    rw [hb, (commonRoundStart_keeps x).2.2.2.2.2.2.2.1, kept.probes] at record
    exact record
  · obtain ⟨dueX, quietX⟩ := scheduled_peers d p
    rw [← hx] at dueX quietX
    obtain ⟨quietL, dueL⟩ := linkRoundStart_peers (d := m) (by
      rw [(middle (fun _ => false) (fun _ _ _ => rfl) (fun _ _ _ => rfl) (fun _ _ _ _ _ _ => rfl)).iface]; exact mode) p
    rw [← he, peersM] at quietL dueL
    have between := middle (ofChannel (.peer p)) (fun _ _ _ => rfl) (fun _ _ _ => rfl) (fun _ _ _ _ _ _ => rfl)
    have firstAny := first (fun _ => false) (fun _ _ _ => rfl) (fun _ _ => rfl)
    have betweenAny := middle (fun _ => false) (fun _ _ _ => rfl) (fun _ _ _ => rfl) (fun _ _ _ _ _ _ => rfl)
    have lastAny : Adds (fun _ => false) m (leadRoundStart d) := by
      rw [he]; exact linkRoundStart_adds m (fun _ _ => rfl) rfl (fun _ _ _ => rfl)
    by_cases applied : peerStatusBytes x.lead.peers[p] = peerStatusBytes d.lead.peers[p]
    · have second := dueL (by rw [applied]; exact changed)
      exact (second.before ((quietX applied).trans between)).after (.refl _ _) rfl False.elim
    · have due := dueX lead applied
      by_cases same : peerStatusBytes (leadRoundStart d).lead.peers[p] = peerStatusBytes x.lead.peers[p]
      · exact due.after (betweenAny.trans lastAny) same False.elim
      · exact peerDue_again due ((dueL same).before between) firstAny (betweenAny.trans lastAny)
  · rw [he, linkRoundStart_memory, hm, (moveProbes_keeps b).2.2.2.2.2.2.2.2.2.2.2.2.2.2.2.2, hb, commonRoundStart_journal]

/-- The round timer, the taps, the transmit queue and the parts a ROUND_START leaves alone. -/
theorem leadRoundStart_timer (d : Device) : (leadRoundStart d).rounds = (scheduled d).rounds ∧
    (leadRoundStart d).taps = (scheduled d).taps ∧ (leadRoundStart d).now = d.now ∧ (leadRoundStart d).iface = d.iface ∧
    (leadRoundStart d).areas = d.areas ∧ (leadRoundStart d).walks = d.walks ∧
    ∃ grants, (leadRoundStart d).lead.transmit =
        [.mark (leadRoundStart d).rounds.number (leadRoundStart d).rounds.period (leadRoundStart d).rounds.guardTime grants] ∧
      ∀ p : Fin 16, grants[p] = grantOf (leadRoundStart d) p := by
  obtain ⟨x, b, m, hx, hb, hm, he⟩ := leadRoundStart_frame d
  have rounds : m.rounds = x.rounds := by rw [hm, hb]; simp
  have roundsE : (leadRoundStart d).rounds = m.rounds := by rw [he]; simp
  have kept := leadRoundStart_keeps d
  refine ⟨by rw [roundsE, rounds, hx], by rw [he, ← hx, hm, hb]; simp, by simp, by simp, by simp, by simp,
    mapVec (fun p _ => grantOf (leadRoundStart d) p) (Vector.replicate 16 ()), ?_, fun p => mapVec_get _ _ _⟩
  rw [roundsE, he, linkRoundStart_lead]
  rfl

/-- With nothing staged the credit steps start from the peers as they stand. -/
theorem leadRoundStart_credit {d : Device} (h : d.rounds.staged = none) :
    (leadRoundStart d).lead.pool = (creditSteps d.ownNode (queueCounts d) (d.rounds.number + 1#32) d.lead).pool ∧
    (leadRoundStart d).lead.pointer = (creditSteps d.ownNode (queueCounts d) (d.rounds.number + 1#32) d.lead).pointer ∧
    ∀ p : Fin 16, (leadRoundStart d).lead.peers[p] =
      (creditSteps d.ownNode (queueCounts d) (d.rounds.number + 1#32) d.lead).peers[p].tickSilence := by
  obtain ⟨x, b, m, hx, hb, hm, he⟩ := leadRoundStart_frame d
  have kept : Untouched d x := by rw [hx]; exact scheduled_untouched d
  have lead : m.lead = d.lead := by
    have unstaged := scheduled_unstaged h
    rw [← hx] at unstaged
    rw [← unstaged, hm, hb]; simp
  have own : m.ownNode = d.ownNode := by
    have identity : m.identity = x.identity := by rw [hm, hb]; simp
    rw [Device.ownNode, Device.ownNode, identity, kept.identity]
  have counts : queueCounts m = queueCounts d := by
    have classifier : m.classifier = x.classifier := by rw [hm, hb]; simp
    have same : inQueue m = inQueue d := by funext p; rw [inQueue, inQueue, classifier, kept.classifier]
    rw [queueCounts, queueCounts, same]
  have number : m.rounds.number = d.rounds.number + 1#32 := by
    have rounds : m.rounds = x.rounds := by rw [hm, hb]; simp
    rw [rounds, hx]; exact (scheduled_rounds d).1
  rw [he, linkRoundStart_lead, linkAtRound, own, counts, number, lead]
  generalize creditSteps d.ownNode (queueCounts d) (d.rounds.number + 1#32) d.lead = l
  exact ⟨rfl, rfl, fun p => mapVec_get _ _ _⟩

/-- Settles O39: the credit steps one by one, and the round start block by block. -/
theorem roundStart : Obligations.RoundStart := by
  refine ⟨fun n queued limit kept bs b => ⟨fun due room => ?_, fun stays => ?_⟩, fun n l p => ⟨lendPeer_lends, lendPeer_spent,
      lendPeer_withdraws, fun below => if_pos below⟩, fun x queued above => lowerReserve_least above,
    fun x configured => tickSilence_configured configured, fun s => ⟨fun t leading next => ?_, fun idle => ?_⟩⟩
  · rw [returnBlocks_cons, if_pos ⟨due, room⟩]
    exact ⟨rfl, rfl⟩
  · rw [returnBlocks_cons, if_neg fun ⟨due, room⟩ => stays.elim (fun no => Bool.false_ne_true (no.symm.trans due)) (by omega)]
  · have run : exec .roundStart s = .next { s with dev := settle (leadRoundStart (s.dev.advance t)) } := by
      show Host.Outcome.next { s with
        dev := whenLeading (settleAt s.dev.rounds.nextAt (fun _ => leadRoundStart)) s.dev } = _
      rw [whenLeading, if_pos leading, next]
      rfl
    have lead : (s.dev.advance t).iface.mode = some .lead := by
      show s.dev.iface.mode = _
      have both : s.dev.running = true ∧ s.dev.iface.mode = some .lead := by simpa [Device.leading] using leading
      exact both.2
    obtain ⟨rounds, taps, now, iface, areas, walks, mark⟩ := leadRoundStart_timer (s.dev.advance t)
    obtain ⟨number, watchAt, nextAt, phase⟩ := scheduled_rounds (s.dev.advance t)
    obtain ⟨plan, watched, locals, detectors⟩ := scheduled_taps (s.dev.advance t)
    obtain ⟨moves, free, stops⟩ := leadRoundStart_probes lead
    obtain ⟨windows, campaigns, tones, peers, memory⟩ := leadRoundStart_blocks lead
    have count : (leadRoundStart (s.dev.advance t)).rounds.number = s.dev.rounds.number + 1#32 := by rw [rounds, number]; rfl
    have credit (h : s.dev.rounds.staged = none) := leadRoundStart_credit (d := s.dev.advance t) h
    generalize leadRoundStart (s.dev.advance t) = d at *
    rw [count] at mark
    refine ⟨d, run, now, count, by rw [rounds, now, watchAt], by rw [rounds, now, nextAt], by rw [rounds, now, phase],
      fun w => (windows w).1, by rw [taps, plan], by rw [taps, watched], by rw [taps, locals], by rw [taps, detectors]; rfl, ?_,
      iface, areas, walks, memory, fun n => (campaigns n).1, fun x unused => ?_, fun r p record => ?_, ?_,
      fun w changed => ((windows w).2 changed).before (.of_eq rfl rfl),
      fun n changed => ((campaigns n).2 changed).before (.of_eq rfl rfl), fun p changed => (peers p changed).before (.of_eq rfl rfl),
      free, fun unstaged => ?_⟩
    · rw [count]; exact mark
    · rw [tones x unused, count]
      exact toneAtRound_eq _ _
    · obtain ⟨move, judge⟩ := moves r p record
      rw [count]
      refine ⟨fun state => ?_, fun state => ?_, fun state more => ?_, fun state last => ⟨?_, fun on => ?_⟩, fun state => ?_⟩
      · rw [move (by rcases state with h | h <;> rw [h] <;> simp), atRound_launching _ state]
      · rw [move (by simp [state]), atRound_armed _ state]; rfl
      · rw [move (by simp [state]), atRound_listening _ state, if_pos more]; rfl
      · rw [move (by simp [state]), atRound_listening _ state, if_neg (by omega)]
      · exact ((stops.2.2.1 p.ctx).1 ⟨⟨r, p, record, state, last, rfl⟩, on⟩).1
      · exact (judge state).before rfl rfl rfl
    · exact stops.sandwich (.of_eq rfl) (.of_eq rfl) (fun _ => Iff.rfl)
    · rw [count]; exact credit unstaged
  · show Host.Outcome.next { s with
      dev := whenLeading (settleAt s.dev.rounds.nextAt (fun _ => leadRoundStart)) s.dev } = _
    rcases idle with follower | none
    · rw [whenLeading, if_neg (by rw [follower]; exact Bool.false_ne_true)]
    · rw [none, whenLeading]
      split <;> rfl

end Sys2Proof.Machine.LeadRounds

/-! ## Frames received (chapter 6, 5.5) -/

namespace Sys2Proof.Machine.Frames
open Completions Starts SettingsInForce Writer Replies RoundTimer

/-! ### Malformed frames -/

theorem index_of_eq {source : Byte} {p : Fin 16} (h : source.toNat = p.val) : index? 16 source.toNat = some p := by
  simp [index?, h]

theorem index_above {source : Byte} (h : 15 < source.toNat) : index? 16 source.toNat = none :=
  dif_neg (by omega)

theorem index_none_of_above {source : Byte} : index? 16 source.toNat = none → 15 < source.toNat := by
  unfold index?
  split
  · intro h; cases h
  · intro _; omega

/-- The peer block once a malformed frame of a source is counted. -/
def malformedPeer (kind : Nat) (fault : FrameFault) (p : Fin 16) (d : Device) : Peer :=
  { d.lead.peers[p] with
    malformed := d.lead.peers[p].malformed + 1#32
    arrived := if kind = 3 ∧ isPeer d p = true ∧ (fault = .badField ∨ fault = .futureRound)
      then d.lead.peers[p].arrived + 1#16 else d.lead.peers[p].arrived }

/-- At a lead a malformed frame of a source changes that source's block alone. -/
theorem countMalformed_lead {kind : Nat} {source : Byte} {fault : FrameFault} {p : Fin 16} {d : Device}
    (lead : d.iface.mode = some .lead) (from_ : source.toNat = p.val) :
    countMalformed kind source fault d = owe (.peer p) (d.setPeer p (malformedPeer kind fault p d)) := by
  unfold countMalformed
  rw [if_pos lead, index_of_eq from_]
  dsimp only
  unfold countMalformedArrival malformedPeer
  split
  · rw [countArrival]
    have set : (d.setPeer p { d.lead.peers[p] with arrived := d.lead.peers[p].arrived + 1#16 }).lead.peers[p] =
        { d.lead.peers[p] with arrived := d.lead.peers[p].arrived + 1#16 } := (vec_set_get _ _ _ _).trans (if_pos rfl)
    rw [set]
    simp only [Device.setPeer]
    congr 3
    exact Vector.set_set ..
  · rfl

theorem countMalformed_stranger {kind : Nat} {source : Byte} {fault : FrameFault} {d : Device}
    (lead : d.iface.mode = some .lead) (above : 15 < source.toNat) : countMalformed kind source fault d = d := by
  unfold countMalformed
  rw [if_pos lead, index_above above]

theorem countMalformed_follower {kind : Nat} {source : Byte} {fault : FrameFault} {d : Device}
    (follow : d.iface.mode ≠ some .lead) : countMalformed kind source fault d =
      owe .linkCounters { d with follower := { d.follower with malformed := d.follower.malformed + 1#32 } } :=
  if_neg follow

/-- What a malformed frame leaves, its count aside. -/
theorem takeMalformed_frame (kind : Nat) (source : Byte) (fault : FrameFault) (d : Device) :
    (takeMalformed kind source fault d).now = d.now ∧ (takeMalformed kind source fault d).classifier = d.classifier ∧
    (takeMalformed kind source fault d).rounds = d.rounds ∧ (takeMalformed kind source fault d).taps = d.taps ∧
    (takeMalformed kind source fault d).slots = d.slots ∧ (takeMalformed kind source fault d).probes = d.probes := by
  have counted : (countMalformed kind source fault d).now = d.now ∧
      (countMalformed kind source fault d).classifier = d.classifier ∧
      (countMalformed kind source fault d).rounds = d.rounds ∧ (countMalformed kind source fault d).taps = d.taps ∧
      (countMalformed kind source fault d).slots = d.slots ∧ (countMalformed kind source fault d).probes = d.probes := by
    by_cases lead : d.iface.mode = some .lead
    · by_cases above : 15 < source.toNat
      · rw [countMalformed_stranger lead above]; simp
      · rw [countMalformed_lead (p := ⟨source.toNat, by omega⟩) lead rfl]
        refine ⟨by simp, by simp, by simp, by simp, oweAs_slots false (.peer _) _ rfl, by simp⟩
    · rw [countMalformed_follower lead]
      exact ⟨by simp, by simp, by simp, by simp, oweAs_slots false .linkCounters _ rfl, by simp⟩
  unfold takeMalformed
  simpa using counted

theorem takeMalformed_links (kind : Nat) (source : Byte) (fault : FrameFault) (d : Device) :
    (takeMalformed kind source fault d).lead = (countMalformed kind source fault d).lead ∧
    (takeMalformed kind source fault d).follower = (countMalformed kind source fault d).follower ∧
    Adds (fun _ => false) (countMalformed kind source fault d) (takeMalformed kind source fault d) :=
  ⟨by simp [takeMalformed], by simp [takeMalformed], journalRequest_adds (fun _ _ => rfl) rfl _ _ _⟩

/-- A malformed frame at a lead: its source's count rises and its status write is due. -/
theorem takeMalformed_lead {kind : Nat} {source : Byte} {fault : FrameFault} {p : Fin 16} {d : Device}
    (lead : d.iface.mode = some .lead) (from_ : source.toNat = p.val) {e : Device}
    (h : e = takeMalformed kind source fault d) :
    e.lead.peers[p] = malformedPeer kind fault p d ∧ peerDue d e p False ∧
    (∀ q : Fin 16, q ≠ p → e.lead.peers[q] = d.lead.peers[q]) ∧ e.follower = d.follower := by
  obtain ⟨leads, follower, adds⟩ := takeMalformed_links kind source fault d
  rw [← h, countMalformed_lead lead from_] at leads follower adds
  have set (q : Fin 16) : e.lead.peers[q] = if q = p then malformedPeer kind fault p d else d.lead.peers[q] := by
    have same : e.lead = (d.setPeer p (malformedPeer kind fault p d)).lead := leads.trans (by simp)
    rw [same]
    exact vec_set_get _ _ _ _
  refine ⟨(set p).trans (if_pos rfl), ?_, fun q other => (set q).trans (if_neg other), by rw [follower]; simp [Device.setPeer]⟩
  have due : peerDue (d.setPeer p (malformedPeer kind fault p d)) (owe (.peer p) (d.setPeer p (malformedPeer kind fault p d))) p False :=
    oweAs_peerDue false p _
  refine (due.after adds ?_ id).before (.of_eq rfl rfl)
  rw [leads]

theorem takeMalformed_stranger {kind : Nat} {source : Byte} {fault : FrameFault} {d : Device}
    (lead : d.iface.mode = some .lead) (above : 15 < source.toNat) :
    (takeMalformed kind source fault d).lead = d.lead ∧ (takeMalformed kind source fault d).follower = d.follower := by
  obtain ⟨leads, follower, _⟩ := takeMalformed_links kind source fault d
  rw [countMalformed_stranger lead above] at leads follower
  exact ⟨leads, follower⟩

/-- A malformed frame at a follower: `link_malformed` rises and its counter write is due. -/
theorem takeMalformed_follower {kind : Nat} {source : Byte} {fault : FrameFault} {d : Device}
    (follow : d.iface.mode = some .follow) {e : Device} (h : e = takeMalformed kind source fault d) :
    e.follower = { d.follower with malformed := d.follower.malformed + 1#32 } ∧ e.lead = d.lead ∧
    writeShown d e .linkCounters (boardAddr d 0x38) (linkCounterBytes e.follower) := by
  obtain ⟨leads, follower, adds⟩ := takeMalformed_links kind source fault d
  rw [← h, countMalformed_follower (by rw [follow]; simp)] at leads follower adds
  have counted : e.follower = { d.follower with malformed := d.follower.malformed + 1#32 } := by rw [follower]; simp
  refine ⟨counted, by rw [leads]; simp, ?_⟩
  have due := owe_due .linkCounters { d with follower := { d.follower with malformed := d.follower.malformed + 1#32 } }
  rw [counted]
  exact (due.start (c := d) rfl rfl).after adds id

/-- At a lead a source byte is a node or above them. -/
theorem takeMalformed_keeps_follower {kind : Nat} {source : Byte} {fault : FrameFault} {d : Device}
    (lead : d.iface.mode = some .lead) : (takeMalformed kind source fault d).follower = d.follower := by
  by_cases above : 15 < source.toNat
  · exact (takeMalformed_stranger lead above).2
  · exact (takeMalformed_lead (p := ⟨source.toNat, by omega⟩) lead rfl rfl).2.2.2

/-! ### The checks of a frame -/

theorem checkFrame_badKind {d : Device} {kind : Nat} (source : Byte) (toAll : Bool) (body : List Byte)
    (h : kindAdmitted d.iface.mode kind = false) : checkFrame d kind source toAll body = .error .badKind := by
  simp [checkFrame, h]

theorem checkFrame_stranger {d : Device} {kind : Nat} {source : Byte} (toAll : Bool) (body : List Byte)
    (h : kindAdmitted d.iface.mode kind = true) (above : 15 < source.toNat) :
    checkFrame d kind source toAll body = .error .badSource := by
  simp [checkFrame, h, index_above above]

/-- The checks behind the source byte. -/
theorem checkFrame_known {d : Device} {kind : Nat} {source : Byte} {p : Fin 16} (toAll : Bool) (body : List Byte)
    (h : kindAdmitted d.iface.mode kind = true) (from_ : source.toNat = p.val) : checkFrame d kind source toAll body =
      if sourceAdmitted d kind p = false then .error .badSource
      else match parseBody kind p toAll body with
        | none => .error .badField
        | some m => if fromFuture d m = true then .error .futureRound else .ok m := by
  unfold checkFrame
  rw [h, index_of_eq from_, if_neg (by simp)]
  dsimp only
  cases sourceAdmitted d kind p
  · rw [if_pos rfl]; rfl
  · rw [if_neg (by simp)]; rfl

/-- A kind outside 1 to 4 is admitted in no mode. -/
theorem kindAdmitted_unknown {kind : Nat} (mode : Option Mode) (h : kind = 0 ∨ 4 < kind) : kindAdmitted mode kind = false := by
  unfold kindAdmitted
  split <;> simp <;> omega

theorem kindAdmitted_iff_lead (kind : Nat) : kindAdmitted (some .lead) kind = true ↔ kind = 1 ∨ kind = 3 ∨ kind = 4 := by
  simp [kindAdmitted, or_assoc]

theorem kindAdmitted_iff_follow (kind : Nat) : kindAdmitted (some .follow) kind = true ↔ kind = 1 ∨ kind = 2 := by
  simp [kindAdmitted]

/-- Check 2, by kind. -/
theorem sourceAdmitted_iff {d : Device} {kind : Nat} {p : Fin 16} (known : kind = 1 ∨ kind = 2 ∨ kind = 3 ∨ kind = 4) :
    sourceAdmitted d kind p = true ↔
      (kind = 2 → d.identity.bind (·.leadNode) = some p) ∧ ((kind = 3 ∨ kind = 4) → isPeer d p = true) := by
  rcases known with rfl | rfl | rfl | rfl <;> simp [sourceAdmitted]

/-- Check 3 fails where the destination or the body is not what the kind asks for. -/
theorem parseBody_none {kind : Nat} {p : Fin 16} {toAll : Bool} {body : List Byte}
    (h : (kind = 1 ∧ (toAll = false ∨ markBody? body = none)) ∨ (kind = 2 ∧ (toAll = true ∨ watchListBody? body = none)) ∨
      (kind = 3 ∧ (toAll = true ∨ sightingBody? body = none)) ∨ (kind = 4 ∧ (toAll = true ∨ helloBody? body = none))) :
    parseBody kind p toAll body = none := by
  rcases h with ⟨rfl, rfl | h⟩ | ⟨rfl, rfl | h⟩ | ⟨rfl, rfl | h⟩ | ⟨rfl, rfl | h⟩
  · rfl
  · cases toAll <;> simp [parseBody, h]
  · rfl
  · cases toAll <;> simp [parseBody, h]
  · rfl
  · cases toAll <;> simp [parseBody, h]
  · rfl
  · cases toAll <;> simp [parseBody, h]

/-! ### Frames by the device's state -/

theorem takeFrame_elsewhere {kind : Nat} {source dest : Byte} {body : List Byte} {d : Device}
    (h : addressed d dest = false) : takeFrame kind source dest body d = d := by
  simp [takeFrame, h]

theorem takeFrame_starting {kind : Nat} {source dest : Byte} {body : List Byte} {d : Device}
    (h : d.iface.start.isSome) : takeFrame kind source dest body d = d := by
  unfold takeFrame
  rw [if_pos h, ite_self]

/-- A part neither RUNNING nor a STOPPED lead takes no frame. -/
theorem takeFrame_idle {kind : Nat} {source dest : Byte} {body : List Byte} {d : Device} (still : d.iface.state ≠ .running)
    (h : d.iface.state ≠ .stopped ∨ d.iface.mode ≠ some .lead ∨ takeStopped kind source d = d) :
    takeFrame kind source dest body d = d := by
  unfold takeFrame
  split
  · rfl
  · split
    · rfl
    · split
      · next running => exact absurd running still
      · next stopped =>
        split
        · next lead => exact h.elim (absurd stopped) (Or.elim · (absurd lead) id)
        · rfl
      · rfl

theorem takeFrame_stopped {kind : Nat} {source dest : Byte} {body : List Byte} {d : Device} (here : addressed d dest = true)
    (idle : d.iface.start = none) (stopped : d.iface.state = .stopped) (lead : d.iface.mode = some .lead) :
    takeFrame kind source dest body d = takeStopped kind source d := by
  unfold takeFrame
  rw [here, idle, stopped, lead]
  rfl

/-- A malformed frame of a RUNNING part. -/
theorem takeFrame_malformed {kind : Nat} {source dest : Byte} {body : List Byte} {fault : FrameFault} {d : Device}
    (here : addressed d dest = true) (idle : d.iface.start = none) (running : d.iface.state = .running)
    (bad : checkFrame d kind source (dest == 0xFF#8) body = .error fault) :
    takeFrame kind source dest body d = takeMalformed kind source fault d := by
  rw [takeFrame_running here idle running, takeRunning, bad]

/-- A well-formed frame of a RUNNING part. -/
theorem takeFrame_dispatched {kind : Nat} {source dest : Byte} {body : List Byte} {m : Message} {d : Device}
    (here : addressed d dest = true) (idle : d.iface.start = none) (running : d.iface.state = .running)
    (good : checkFrame d kind source (dest == 0xFF#8) body = .ok m) : takeFrame kind source dest body d = dispatch d m := by
  rw [takeFrame_running here idle running, takeRunning, good]

theorem checkFrame_time (d : Device) (t kind : Nat) (source : Byte) (toAll : Bool) (body : List Byte) :
    checkFrame (d.advance t) kind source toAll body = checkFrame d kind source toAll body := by
  have future (m : Message) : fromFuture (d.advance t) m = fromFuture d m := by cases m <;> rfl
  have source' (p : Fin 16) : sourceAdmitted (d.advance t) kind p = sourceAdmitted d kind p := rfl
  unfold checkFrame
  simp only [future, source']
  rfl

/-- A frame as a command is received at its time, or at once. -/
theorem exec_received {time kind : Nat} {f : Byte → Byte → List Byte → Instr} (listed : (kind, f) ∈ receivedFrames time)
    (source dest : Byte) (body : List Byte) (s : State) : ∃ m,
      m = (if kind ≤ 2 then s.dev.advance time else s.dev) ∧ (kind = 1 ∨ kind = 2 ∨ kind = 3 ∨ kind = 4) ∧
      exec (f source dest body) s = .next { s with dev := settle (takeFrame kind source dest body m) } := by
  simp only [receivedFrames, List.mem_cons, Prod.mk.injEq, List.not_mem_nil, or_false] at listed
  rcases listed with ⟨rfl, rfl⟩ | ⟨rfl, rfl⟩ | ⟨rfl, rfl⟩ | ⟨rfl, rfl⟩
  · exact ⟨_, rfl, by simp, rfl⟩
  · exact ⟨_, rfl, by simp, rfl⟩
  · exact ⟨_, rfl, by simp, rfl⟩
  · exact ⟨_, rfl, by simp, rfl⟩

end Sys2Proof.Machine.Frames

/-! ## Malformed and unknown frames, and the frames of peers (6.1, 6.2, 6.4, 6.6) -/

namespace Sys2Proof.Machine.PeerFrames
open Completions Starts SettingsInForce Writer Replies RoundTimer Frames

theorem malformedPeer_unarrived {kind : Nat} {fault : FrameFault} {d : Device} {p : Fin 16} (h : kind ≠ 3) :
    malformedPeer kind fault p d = { d.lead.peers[p] with malformed := d.lead.peers[p].malformed + 1#32 } := by
  rw [malformedPeer, if_neg (fun bad => h bad.1)]

/-- Settles O49, from the checks in their order and from what a malformed frame counts. -/
theorem unknownFrames : Obligations.UnknownFrames := by
  refine ⟨fun kind source dest frame body s => ⟨fun short => ?_, fun elsewhere => ?_, fun unknown running idle here => ?_⟩,
    fun time kind f source dest body fault s listed running idle here bad => ?_,
    fun d kind source toAll body => ⟨fun h => ?_, fun h => ?_⟩⟩
  · have run : exec (.unknownFrameReceived frame) s = .next { s with dev := settle (receive frame s.dev) } := rfl
    have dropped : receive frame s.dev = s.dev := by
      unfold receive
      split
      · simp at short; omega
      · rfl
    rw [run, dropped]
  · show Host.Outcome.next { s with dev := settle (takeFrame kind.toNat source dest body s.dev) } = _
    rw [takeFrame_elsewhere elsewhere]
  · have unknown' : kind.toNat = 0 ∨ 4 < kind.toNat := unknown.imp_left (by rintro rfl; rfl)
    have taken := takeFrame_malformed (kind := kind.toNat) (body := body) here idle running
      (checkFrame_badKind source (dest == 0xFF#8) body (kindAdmitted_unknown _ unknown'))
    obtain ⟨_, classifier, rounds, taps, slots, _⟩ := takeMalformed_frame kind.toNat source .badKind s.dev
    refine ⟨takeMalformed kind.toNat source .badKind s.dev, ?_, fun p lead from_ => ?_,
      fun follow => takeMalformed_follower follow rfl, classifier, rounds, taps, slots⟩
    · rw [← taken]; rfl
    · obtain ⟨peer, due, _, follower⟩ := takeMalformed_lead (kind := kind.toNat) (fault := .badKind) lead from_ rfl
      exact ⟨by rw [peer, malformedPeer_unarrived (by omega)], due, follower⟩
  · obtain ⟨m, hm, _, run⟩ := exec_received listed source dest body s
    have same : m.iface = s.dev.iface ∧ m.dma = s.dev.dma ∧ m.lead = s.dev.lead ∧ m.follower = s.dev.follower ∧
        m.identity = s.dev.identity := by rw [hm]; split <;> exact ⟨rfl, rfl, rfl, rfl, rfl⟩
    obtain ⟨iface, dma, lead', follower', identity⟩ := same
    have checked : checkFrame m kind source (dest == 0xFF#8) body = .error fault := by
      rw [← bad, hm]
      split
      · exact checkFrame_time ..
      · rfl
    have here' : addressed m dest = true := by rw [← here, addressed, addressed, Device.ownNode, identity]; rfl
    have peerOf (p : Fin 16) : isPeer m p = isPeer s.dev p := by rw [isPeer, isPeer, Device.ownNode, identity, lead']; rfl
    rw [takeFrame_malformed here' (by rw [iface]; exact idle) (by rw [iface]; exact running) checked] at run
    obtain ⟨now, classifier, rounds, taps, slots, probes⟩ := takeMalformed_frame kind source fault m
    have rest : m.classifier = s.dev.classifier ∧ m.rounds = s.dev.rounds ∧ m.taps = s.dev.taps ∧ m.slots = s.dev.slots ∧
        m.probes = s.dev.probes := by rw [hm]; split <;> exact ⟨rfl, rfl, rfl, rfl, rfl⟩
    obtain ⟨classifier', rounds', taps', slots', probes'⟩ := rest
    refine ⟨_, run, ?_, fun p lead from_ => ?_, fun lead above => ?_, fun lead => ?_, fun follow => ?_,
      classifier.trans classifier', rounds.trans rounds', taps.trans taps', slots.trans slots', probes.trans probes'⟩
    · rw [now, hm]; split <;> rfl
    · obtain ⟨peer, due, others, _⟩ :=
        takeMalformed_lead (kind := kind) (fault := fault) (d := m) (by rw [iface]; exact lead) from_ rfl
      refine ⟨?_, due.before (.of_eq iface dma), fun q other => by rw [others q other, lead']⟩
      rw [peer, malformedPeer, peerOf, lead']
    · rw [(takeMalformed_stranger (by rw [iface]; exact lead) above).1, lead']
    · rw [takeMalformed_keeps_follower (by rw [iface]; exact lead), follower']
    · obtain ⟨counted, leads, due⟩ :=
        takeMalformed_follower (kind := kind) (source := source) (fault := fault) (d := m) (by rw [iface]; exact follow) rfl
      have addr : boardAddr m = boardAddr s.dev := by unfold boardAddr; rw [iface]
      rw [addr] at due
      exact ⟨by rw [counted, follower'], by rw [leads, lead'], due.start iface dma⟩
  · refine checkFrame_badKind source toAll body (Bool.eq_false_iff.2 fun admitted => ?_)
    rcases h with ⟨lead, h1, h3, h4⟩ | ⟨follow, h1, h2⟩
    · rw [lead, kindAdmitted_iff_lead] at admitted; omega
    · rw [follow, kindAdmitted_iff_follow] at admitted; omega
  · have admitted : kindAdmitted d.iface.mode kind = true := by
      rcases h with ⟨lead, h⟩ | ⟨follow, h⟩
      · rw [lead]; exact (kindAdmitted_iff_lead kind).2 h
      · rw [follow]; exact (kindAdmitted_iff_follow kind).2 h
    have known : kind = 1 ∨ kind = 2 ∨ kind = 3 ∨ kind = 4 := by omega
    refine ⟨fun bad => ?_, fun p from_ leadNode peer => ?_⟩
    · rcases bad with above | ⟨p, from_, bad⟩
      · exact checkFrame_stranger toAll body admitted above
      · rw [checkFrame_known toAll body admitted from_, if_pos]
        refine Bool.eq_false_iff.2 fun ok => ?_
        obtain ⟨two, peer⟩ := (sourceAdmitted_iff known).1 ok
        rcases bad with ⟨k2, other⟩ | ⟨k34, other⟩
        · exact other (two k2)
        · exact Bool.false_ne_true (other.symm.trans (peer k34))
    · have passed : ¬ sourceAdmitted d kind p = false := by
        rw [(sourceAdmitted_iff known).2 ⟨leadNode, peer⟩]; simp
      rw [checkFrame_known toAll body admitted from_, if_neg passed]
      refine ⟨fun bad => by rw [parseBody_none bad], fun b k all good => ?_, fun m k all good => ?_, fun r ws k all good => ?_,
        fun b k all good => ?_⟩
      · rw [k, all, show parseBody 3 p false body = some (.sighting p b) by simp [parseBody, good]]
        rfl
      · simp [k, all, parseBody, good, fromFuture]
      · simp [k, all, parseBody, good, fromFuture]
      · simp [k, all, parseBody, good, fromFuture]

/-! ### SIGHTING and HELLO at a lead -/

theorem leading_iff {d : Device} : d.leading = true ↔ d.iface.state = .running ∧ d.iface.mode = some .lead := by
  simp [Device.leading, Device.running]

/-- A peer's block once a SIGHTING of it is heard. -/
def heardSighting (p : Fin 16) (b : SightingBody) (d : Device) : Peer :=
  { d.lead.peers[p] with
    arrived := d.lead.peers[p].arrived + 1#16, state := .present, silence := 0, report := some b.backlog }

/-- The device a SIGHTING leaves before its peer's status write: queued, or a violation beyond the peer's limit. -/
def sightingTaken (p : Fin 16) (b : SightingBody) (d : Device) : Device :=
  let m := d.setPeer p (heardSighting p b d)
  if d.lead.peers[p].limit ≤ inQueue d p then
    journalRequest (violationEntry p b) (some (.creditViolation (BitVec.ofNat 8 p.val)))
      (d.setPeer p { heardSighting p b d with violations := d.lead.peers[p].violations + 1#32 })
  else pushQueue [remoteSighting p d.lead.peers[p] b] m

theorem setPeer_setPeer (p : Fin 16) (x y : Peer) (d : Device) : (d.setPeer p x).setPeer p y = d.setPeer p y := by
  simp only [Device.setPeer]
  congr 2
  exact Vector.set_set ..

theorem setPeer_peers (p q : Fin 16) (x : Peer) (d : Device) :
    (d.setPeer p x).lead.peers[q] = if q = p then x else d.lead.peers[q] := vec_set_get ..

theorem setPeer_peer (p : Fin 16) (x : Peer) (d : Device) : (d.setPeer p x).lead.peers[p] = x :=
  (setPeer_peers p p x d).trans (if_pos rfl)

theorem takeSighting_eq (p : Fin 16) (b : SightingBody) (d : Device) :
    takeSighting p b d = owePeers d.lead.peers (sightingTaken p b d) := by
  unfold takeSighting countArrival
  dsimp only
  simp only [setPeer_peer, setPeer_setPeer]
  rfl

/-- What a SIGHTING leaves of its peer, of the queue and of the accesses. -/
theorem sightingTaken_frame (p : Fin 16) (b : SightingBody) (d : Device) :
    (∀ q : Fin 16, q ≠ p → (sightingTaken p b d).lead.peers[q] = d.lead.peers[q]) ∧
    (sightingTaken p b d).lead.pool = d.lead.pool ∧ (sightingTaken p b d).iface = d.iface ∧
    Adds (ofChannel (.peer p)) d (sightingTaken p b d) ∧
    (inQueue d p < d.lead.peers[p].limit →
      (sightingTaken p b d).classifier.queue = d.classifier.queue ++ [⟨remoteSighting p d.lead.peers[p] b, none, none⟩] ∧
      (sightingTaken p b d).lead.peers[p] = heardSighting p b d) ∧
    (d.lead.peers[p].limit ≤ inQueue d p → (sightingTaken p b d).classifier = d.classifier ∧
      (sightingTaken p b d).lead.peers[p] = { heardSighting p b d with violations := d.lead.peers[p].violations + 1#32 }) := by
  unfold sightingTaken
  dsimp only
  by_cases full : d.lead.peers[p].limit ≤ inQueue d p
  · rw [if_pos full]
    have adds := journalRequest_adds (q := ofChannel (.peer p)) (fun _ _ => rfl) rfl (violationEntry p b)
      (some (.creditViolation (BitVec.ofNat 8 p.val)))
      (d.setPeer p { heardSighting p b d with violations := d.lead.peers[p].violations + 1#32 })
    simp only [journalRequest_keeps]
    exact ⟨fun q other => (setPeer_peers ..).trans (if_neg other), rfl, rfl, adds.start rfl rfl,
      fun room => absurd full (by omega), fun _ => ⟨rfl, setPeer_peer ..⟩⟩
  · rw [if_neg full]
    exact ⟨fun q other => (setPeer_peers ..).trans (if_neg other), rfl, rfl, .of_eq rfl rfl,
      fun _ => ⟨rfl, setPeer_peer ..⟩, fun bad => absurd bad full⟩

/-- A peer whose status changes has its status write due, by owing the peers that changed. -/
theorem owePeers_peerDue {d e : Device} {p : Fin 16} (lead : e.iface.mode = some .lead)
    (adds : Adds (ofChannel (.peer p)) d e)
    (changed : peerStatusBytes (owePeers d.lead.peers e).lead.peers[p] ≠ peerStatusBytes d.lead.peers[p]) :
    peerDue d (owePeers d.lead.peers e) p False := by
  have same : (owePeers d.lead.peers e).lead = e.lead := by simp
  rw [same] at changed
  exact ((owePeers_due d.lead.peers e).2.2 p lead (Ne.symm changed)).before adds

theorem own_destination (own : Fin 16) :
    (BitVec.ofNat 8 own.val).toNat = own.val ∧ (BitVec.ofNat 8 own.val == 0xFF#8) = false := by
  revert own; decide

theorem addressed_own {d : Device} {own : Fin 16} (h : d.ownNode = own) : addressed d (BitVec.ofNat 8 own.val) = true := by
  simp [addressed, h, (own_destination own).1]

section
variable {d : Device} {p own : Fin 16} {body : List Byte} (leading : d.leading = true) (idle : d.iface.start = none)
  (here : d.ownNode = own) (peer : isPeer d p = true)
include leading idle here peer

theorem receive_sighting {b : SightingBody} (good : sightingBody? body = some b)
    (past : laterThan b.round d.rounds.number = false) :
    takeFrame 3 (BitVec.ofNat 8 p.val) (BitVec.ofNat 8 own.val) body d = takeSighting p b d := by
  obtain ⟨running, lead⟩ := leading_iff.1 leading
  refine takeFrame_dispatched (m := .sighting p b) (addressed_own here) idle running ?_
  rw [(own_destination own).2, checkFrame_known false body (by rw [lead]; rfl) (own_destination p).1, if_neg (by simp [sourceAdmitted, peer])]
  simp [parseBody, good, fromFuture, past]

theorem receive_hello {b : HelloBody} (good : helloBody? body = some b) :
    takeFrame 4 (BitVec.ofNat 8 p.val) (BitVec.ofNat 8 own.val) body d = takeHello p b d := by
  obtain ⟨running, lead⟩ := leading_iff.1 leading
  refine takeFrame_dispatched (m := .hello p b) (addressed_own here) idle running ?_
  rw [(own_destination own).2, checkFrame_known false body (by rw [lead]; rfl) (own_destination p).1, if_neg (by simp [sourceAdmitted, peer])]
  simp [parseBody, good, fromFuture]

end

/-- A STOPPED lead counts a configured peer's SIGHTING as arrived, and takes no other frame. -/
theorem takeStopped_counts {source : Byte} {p : Fin 16} {d : Device} (from_ : source.toNat = p.val) (peer : isPeer d p = true) :
    takeStopped 3 source d = countArrival p d := by
  unfold takeStopped
  rw [index_of_eq from_]
  exact if_pos ⟨rfl, peer⟩

theorem takeStopped_unheard {kind : Nat} {source : Byte} {d : Device}
    (h : kind ≠ 3 ∨ ∀ p : Fin 16, isPeer d p = true → source.toNat ≠ p.val) : takeStopped kind source d = d := by
  unfold takeStopped
  by_cases above : 15 < source.toNat
  · rw [index_above above]
  · rw [index_of_eq (p := ⟨source.toNat, by omega⟩) rfl]
    exact if_neg fun ⟨three, peer⟩ => h.elim (absurd three) fun none => none _ peer rfl

/-- Settles O48, from what a SIGHTING and a HELLO leave of their peer, RUNNING and STOPPED. -/
theorem peerFramesTaken : Obligations.PeerFramesTaken := by
  refine ⟨fun p own body s leading idle here peer => ⟨fun b good past => ?_, fun b good => ?_⟩,
    fun p dest body s here stopped idle lead peer => ?_, fun source dest body s => ⟨fun h => ?_, fun h => ?_⟩⟩
  · have lead := (leading_iff.1 leading).2
    have run : exec (.sightingReceived (BitVec.ofNat 8 p.val) (BitVec.ofNat 8 own.val) body) s = .next { s with
        dev := settle (takeFrame 3 (BitVec.ofNat 8 p.val) (BitVec.ofNat 8 own.val) body s.dev) } := rfl
    rw [receive_sighting leading idle here peer good past, takeSighting_eq] at run
    obtain ⟨others, pool, iface, adds, room, violated⟩ := sightingTaken_frame p b s.dev
    have links : (owePeers s.dev.lead.peers (sightingTaken p b s.dev)).lead = (sightingTaken p b s.dev).lead := by simp
    have queue : (owePeers s.dev.lead.peers (sightingTaken p b s.dev)).classifier = (sightingTaken p b s.dev).classifier := by
      simp
    have block : ∃ v, (sightingTaken p b s.dev).lead.peers[p] = { heardSighting p b s.dev with violations := v } := by
      by_cases full : s.dev.lead.peers[p].limit ≤ inQueue s.dev p
      · exact ⟨_, (violated full).2⟩
      · exact ⟨_, (room (by omega)).2⟩
    obtain ⟨v, block⟩ := block
    refine ⟨_, run, ?_⟩
    have due := owePeers_peerDue (d := s.dev) (e := sightingTaken p b s.dev) (p := p) (by rw [iface]; exact lead) adds
    rw [links] at due ⊢
    rw [queue]
    refine ⟨by rw [block]; rfl, by rw [block]; rfl, by rw [block]; rfl, by rw [block]; rfl, fun free => ?_, fun full => ?_, due, others, pool⟩
    · exact ⟨(room free).1, by rw [(room free).2]; rfl⟩
    · exact ⟨(violated full).1, by rw [(violated full).2]⟩
  · have lead := (leading_iff.1 leading).2
    have run : exec (.helloReceived (BitVec.ofNat 8 p.val) (BitVec.ofNat 8 own.val) body) s = .next { s with
        dev := settle (takeFrame 4 (BitVec.ofNat 8 p.val) (BitVec.ofNat 8 own.val) body s.dev) } := rfl
    rw [receive_hello leading idle here peer good] at run
    refine ⟨_, run, ?_⟩
    have due := owePeers_peerDue (d := s.dev) (p := p) (e := s.dev.setPeer p { s.dev.lead.peers[p].heard with
      capLevel := b.capLevel, capEmpty := b.capEmpty, hello := some b.state, arrived := b.sent }) lead (.of_eq rfl rfl)
    unfold takeHello
    rw [show (owePeers s.dev.lead.peers (s.dev.setPeer p { s.dev.lead.peers[p].heard with
      capLevel := b.capLevel, capEmpty := b.capEmpty, hello := some b.state, arrived := b.sent })).lead =
      (s.dev.setPeer p { s.dev.lead.peers[p].heard with
        capLevel := b.capLevel, capEmpty := b.capEmpty, hello := some b.state, arrived := b.sent }).lead by simp] at due ⊢
    exact ⟨setPeer_peer .., due, fun q other => (setPeer_peers ..).trans (if_neg other), rfl, by simp [Device.setPeer]⟩
  · show Host.Outcome.next { s with dev := settle (takeFrame 3 _ dest body s.dev) } = _
    rw [takeFrame_stopped here idle stopped lead, takeStopped_counts (own_destination p).1 peer]
    rfl
  · show Host.Outcome.next { s with dev := settle (takeFrame 3 source dest body s.dev) } = _
    rcases h with starting | elsewhere | ⟨still, h⟩
    · rw [takeFrame_starting starting]
    · rw [takeFrame_elsewhere elsewhere]
    · rw [takeFrame_idle still (h.imp_right (Or.imp_right fun none => takeStopped_unheard (.inr none)))]
  · show Host.Outcome.next { s with dev := settle (takeFrame 4 source dest body s.dev) } = _
    rcases h with starting | elsewhere | still
    · rw [takeFrame_starting starting]
    · rw [takeFrame_elsewhere elsewhere]
    · rw [takeFrame_idle still (.inr (.inr (takeStopped_unheard (.inl (by decide)))))]

end Sys2Proof.Machine.PeerFrames

/-! ## The plan, the watches and the looks they begin (5.4 to 5.6, 5.9) -/

namespace Sys2Proof.Machine.Plans
open Completions SettingsInForce Replies RoundTimer Frames PeerFrames

/-! ### What a detector finds when its turn comes -/

/-- The device when the detectors below one have taken work. -/
def servedBefore (i : Fin 4) (d : Device) : Device := ((List.finRange 4).filter (· < i)).foldl takeWork d

theorem finRange_split (i : Fin 4) :
    List.finRange 4 = (List.finRange 4).filter (· < i) ++ i :: (List.finRange 4).filter (i < ·) := by
  revert i; decide

theorem foldl_takeWork_detector {i : Fin 4} (xs : List (Fin 4)) (d : Device) (h : i ∉ xs) :
    (xs.foldl takeWork d).taps.detectors[i] = d.taps.detectors[i] := by
  induction xs generalizing d with
  | nil => rfl
  | cons x xs ih =>
    obtain ⟨head, tail⟩ := not_or.1 (fun m => h (List.mem_cons.2 m))
    rw [List.foldl_cons, ih _ tail, (takeWork_taps d x).2.2.2.1 i head]

theorem foldl_takeWork_mayLook (xs : List (Fin 4)) (d : Device) : mayLook (xs.foldl takeWork d) = mayLook d :=
  foldl_keeps mayLook takeWork (fun d i => mayLook_takeWork d i) xs d

theorem foldl_takeWork_watched (xs : List (Fin 4)) (d : Device) : (xs.foldl takeWork d).taps.watched = d.taps.watched :=
  foldl_keeps (·.taps.watched) takeWork (fun d i => (takeWork_taps d i).2.1) xs d

theorem foldl_takeWork_table (xs : List (Fin 4)) (d : Device) : (xs.foldl takeWork d).taps.table = d.taps.table :=
  foldl_keeps (·.taps.table) takeWork (fun d i => (takeWork_taps d i).2.2.1) xs d

/-- Each IDLE detector served takes an entry from the plan. -/
theorem foldl_takeWork_plan (xs : List (Fin 4)) (d : Device) (nodup : xs.Nodup) (may : mayLook d = true) :
    (xs.foldl takeWork d).taps.plan = d.taps.plan.drop (xs.filter (fun j => d.taps.detectors[j] == .idle)).length := by
  induction xs generalizing d with
  | nil => rfl
  | cons x xs ih =>
    obtain ⟨fresh, nodup⟩ := List.nodup_cons.1 nodup
    have later : xs.filter (fun j => (takeWork d x).taps.detectors[j] == .idle) =
        xs.filter (fun j => d.taps.detectors[j] == .idle) := List.filter_congr fun j mem => by
      rw [(takeWork_taps d x).2.2.2.1 j (fun e => fresh (e ▸ mem))]
    rw [List.foldl_cons, ih _ nodup (by rw [mayLook_takeWork]; exact may), later, takeWork_plan, List.drop_drop]
    by_cases idle : d.taps.detectors[x] = .idle
    · rw [if_pos ⟨idle, may⟩, List.filter_cons_of_pos (by simpa using idle), List.length_cons, Nat.add_comm]
    · rw [if_neg (fun h => idle h.1), List.filter_cons_of_neg (by simpa using idle), Nat.zero_add]

theorem servedBefore_frame (i : Fin 4) (d : Device) : (servedBefore i d).taps.detectors[i] = d.taps.detectors[i] ∧
    (servedBefore i d).taps.table = d.taps.table ∧ (servedBefore i d).rounds = d.rounds ∧ (servedBefore i d).now = d.now ∧
    mayLook (servedBefore i d) = mayLook d :=
  ⟨foldl_takeWork_detector _ d (by simp), foldl_takeWork_table _ d,
    foldl_keeps (·.rounds) takeWork (fun d i => by simp) _ d, foldl_keeps (·.now) takeWork (fun d i => by simp) _ d,
    foldl_takeWork_mayLook _ d⟩

theorem servedBefore_plan (i : Fin 4) (d : Device) (may : mayLook d = true) : (servedBefore i d).taps.plan =
    d.taps.plan.drop ((List.finRange 4).filter (fun j => decide (j < i) && d.taps.detectors[j] == .idle)).length := by
  have both : (List.finRange 4).filter (fun j => decide (j < i) && d.taps.detectors[j] == .idle) =
      ((List.finRange 4).filter (· < i)).filter (fun j => d.taps.detectors[j] == .idle) := by
    rw [List.filter_filter]
    exact List.filter_congr fun j _ => Bool.and_comm ..
  rw [both]
  exact foldl_takeWork_plan _ d ((List.nodup_finRange 4).filter _) may

/-- What becomes of a detector when all take work is what its own turn does. -/
theorem takeAllWork_detector (i : Fin 4) (d : Device) :
    (takeAllWork d).taps.detectors[i] = (takeWork (servedBefore i d) i).taps.detectors[i] := by
  have whole : takeAllWork d = ((List.finRange 4).filter (i < ·)).foldl takeWork (takeWork (servedBefore i d) i) := by
    refine (congrArg (List.foldl takeWork d) (finRange_split i)).trans ?_
    rw [List.foldl_append]
    rfl
  rw [whole]
  exact foldl_takeWork_detector _ _ (by simp)

theorem takeWork_busy {i : Fin 4} {d : Device} (h : d.taps.detectors[i] ≠ .idle ∨ mayLook d = false) : takeWork d i = d :=
  (takeWork_takes d i).1 fun ⟨idle, can⟩ => h.elim (absurd idle) fun may => Bool.false_ne_true (may.symm.trans ((mayLook_iff d).2 can))

theorem takeAllWork_busy {i : Fin 4} {d : Device} (h : d.taps.detectors[i] ≠ .idle) :
    (takeAllWork d).taps.detectors[i] = d.taps.detectors[i] := by
  have same := (servedBefore_frame i d).1
  rw [takeAllWork_detector, takeWork_busy (.inl (by rw [same]; exact h)), same]

theorem takeAllWork_late {d : Device} (h : mayLook d = false) : takeAllWork d = d := by
  rw [takeAllWork_spelled, takeWork_busy (.inr h), takeWork_busy (.inr h), takeWork_busy (.inr h), takeWork_busy (.inr h)]

/-- An IDLE detector's turn begins the look of the entry that is then first. -/
theorem takeAllWork_begins {i : Fin 4} {e : PlanEntry} {d : Device} (may : mayLook d = true)
    (idle : d.taps.detectors[i] = .idle)
    (entry : d.taps.plan[((List.finRange 4).filter (fun j => decide (j < i) && d.taps.detectors[j] == .idle)).length]? = some e) :
    (takeAllWork d).taps.detectors[i] =
      .looking ⟨e.port, e.slot, some e.tones, d.rounds.number, tapLoss d e.port, d.now + 12⟩ := by
  obtain ⟨same, table, rounds, now, still⟩ := servedBefore_frame i d
  have plan := servedBefore_plan i d may
  obtain ⟨inside, first⟩ := List.getElem?_eq_some_iff.1 entry
  rw [List.drop_eq_getElem_cons inside, first] at plan
  have begins := ((takeWork_takes (servedBefore i d) i).2 (by rw [same]; exact idle)
    ((mayLook_iff _).1 (by rw [still]; exact may))).1 _ _ plan
  have loss : tapLoss (servedBefore i d) e.port = tapLoss d e.port := by unfold tapLoss; rw [table]
  rw [takeAllWork_detector, begins, lookBegun, rounds, now, loss]
  exact (vec_set_get ..).trans (if_pos rfl)

/-! ### The looks begun -/

theorem drawFrom_mem {watched : List (Fin 32 × Fin 96)} {first : Option (Fin 32 × Fin 96)} {next p q : Fin 32 × Fin 96}
    (order : List (Fin 32 × Fin 96)) (h : drawFrom watched first next order = some (p, q)) : p ∈ order := by
  induction order with
  | nil => cases h
  | cons x xs ih =>
    rw [drawFrom] at h
    split at h
    · cases h
    · split at h
      · exact List.mem_cons_of_mem _ (ih h)
      · cases h; exact List.mem_cons_self

theorem orderFrom_subset (order : List (Fin 32 × Fin 96)) (c : Fin 32 × Fin 96) : orderFrom order c ⊆ order :=
  List.append_subset.2 ⟨(List.dropWhile_sublist _).subset, (List.takeWhile_sublist _).subset⟩

/-- A position drawn stands in the sweep order of the table in force. -/
theorem drawSweep_mem {a b : TapArray} {p : Fin 32 × Fin 96} (h : drawSweep a = (some p, b)) :
    b.table = a.table ∧ ∃ table, a.table = some table ∧ p ∈ sweepOrder table := by
  unfold drawSweep at h
  split at h
  · next table cursor inForce _ =>
    split at h
    · cases h
    · split at h
      · cases h
      · next q next drawn =>
        cases h
        exact ⟨rfl, table, inForce, orderFrom_subset _ _ (drawFrom_mem _ drawn)⟩
  · cases h

/-- A look that a detector begins carries the current round and its tap's loss, ends 12 ms on, and is at an entry of the plan or
a position of the sweep order. -/
theorem takeWork_looks {d : Device} {i : Fin 4} {l : Look} (idle : d.taps.detectors[i] = .idle)
    (begun : (takeWork d i).taps.detectors[i] = .looking l) :
    mayLook d = true ∧ l.round = d.rounds.number ∧ l.endAt = d.now + 12 ∧ l.loss = tapLoss d l.port ∧
    ((∃ e ∈ d.taps.plan, e.port = l.port) ∨
      ∃ table, d.taps.table = some table ∧ ∃ x, (l.port, x) ∈ sweepOrder table) := by
  have written {v : Vector Detector 4} {x : Detector} : (v.set i x)[i] = x := (vec_set_get ..).trans (if_pos rfl)
  by_cases may : mayLook d = true
  · rw [takeWork, if_pos ⟨idle, may⟩] at begun
    refine ⟨may, ?_⟩
    split at begun
    · next e rest plan =>
      have look := Detector.looking.inj (written.symm.trans begun)
      subst look
      exact ⟨rfl, rfl, rfl, .inl ⟨e, by rw [plan]; exact List.mem_cons_self, rfl⟩⟩
    · split at begun
      · next p x a drawn =>
        obtain ⟨table, force, inForce, mem⟩ := drawSweep_mem drawn
        have look := Detector.looking.inj (written.symm.trans begun)
        subst look
        exact ⟨rfl, rfl, by unfold tapLoss; rw [← table], .inr ⟨force, inForce, x, mem⟩⟩
      · next a drawn =>
        have kept : a.detectors = d.taps.detectors := by
          have := StepLaws.drawSweep_detectors d.taps
          rw [drawn] at this; exact this
        exact absurd ((congrArg (fun v : Vector Detector 4 => v[i]) kept).symm.trans begun) (by simp [idle])
  · rw [takeWork_busy (.inr (Bool.eq_false_iff.2 may)), idle] at begun
    cases begun

theorem takeAllWork_looks {d : Device} {i : Fin 4} {l : Look} (idle : d.taps.detectors[i] = .idle)
    (begun : (takeAllWork d).taps.detectors[i] = .looking l) :
    mayLook d = true ∧ l.round = d.rounds.number ∧ l.endAt = d.now + 12 ∧ l.loss = tapLoss d l.port ∧
    ((∃ e ∈ d.taps.plan, e.port = l.port) ∨
      ∃ table, d.taps.table = some table ∧ ∃ x, (l.port, x) ∈ sweepOrder table) := by
  obtain ⟨same, table, rounds, now, still⟩ := servedBefore_frame i d
  rw [takeAllWork_detector] at begun
  obtain ⟨may, round, endAt, loss, place⟩ := takeWork_looks (by rw [same]; exact idle) begun
  rw [still] at may
  rw [rounds] at round
  rw [now] at endAt
  rw [table] at place
  have plan : ∀ e ∈ (servedBefore i d).taps.plan, e ∈ d.taps.plan := by
    rw [servedBefore_plan i d may]; exact fun e => List.mem_of_mem_drop
  exact ⟨may, round, endAt, by rw [loss]; unfold tapLoss; rw [table], place.imp_left fun ⟨e, mem, port⟩ => ⟨e, plan e mem, port⟩⟩

/-! ### The plan of a round's watches -/

theorem mem_addWatch {e : PlanEntry} {w : Watch} (plan : List PlanEntry) (h : e ∈ addWatch plan w) :
    e.port = w.port ∨ ∃ x ∈ plan, x.port = e.port := by
  induction plan with
  | nil =>
    have : e = ⟨w.port, w.slot, [w.tone]⟩ := List.mem_singleton.1 h
    exact .inl (by rw [this])
  | cons x xs ih =>
    have joined : (x.join w.tone).port = x.port := by unfold PlanEntry.join; split <;> rfl
    rw [addWatch] at h
    split at h
    · rcases List.mem_cons.1 h with rfl | mem
      · exact .inr ⟨x, List.mem_cons_self, joined.symm⟩
      · exact .inr ⟨e, List.mem_cons_of_mem _ mem, rfl⟩
    · rcases List.mem_cons.1 h with rfl | mem
      · exact .inr ⟨e, List.mem_cons_self, rfl⟩
      · exact (ih mem).imp_right fun ⟨y, my, port⟩ => ⟨y, List.mem_cons_of_mem _ my, port⟩

theorem mem_foldl_addWatch {e : PlanEntry} (ws : List Watch) (plan : List PlanEntry) (h : e ∈ ws.foldl addWatch plan) :
    (∃ w ∈ ws, w.port = e.port) ∨ ∃ x ∈ plan, x.port = e.port := by
  induction ws generalizing plan with
  | nil => exact .inr ⟨e, h, rfl⟩
  | cons w ws ih =>
    rcases ih _ h with ⟨v, mem, port⟩ | ⟨x, mem, port⟩
    · exact .inl ⟨v, List.mem_cons_of_mem _ mem, port⟩
    · rcases mem_addWatch plan mem with here | ⟨y, my, there⟩
      · exact .inl ⟨w, List.mem_cons_self, here.symm.trans port⟩
      · exact .inr ⟨y, my, there.trans port⟩

/-- The watched set once watches are taken: what it held and their locations. -/
theorem mem_watched (x : Fin 32 × Fin 96) (ws : List Watch) (d : Device) :
    x ∈ (ws.foldl planWatch d).taps.watched ↔ x ∈ d.taps.watched ∨ ∃ w ∈ ws, (w.port, w.slot) = x := by
  induction ws generalizing d with
  | nil => simp
  | cons w ws ih =>
    have one : x ∈ (planWatch d w).taps.watched ↔ x ∈ d.taps.watched ∨ (w.port, w.slot) = x := by
      unfold planWatch
      dsimp only
      split
      · next mem => exact ⟨.inl, fun h => h.elim id fun e => e ▸ mem⟩
      · rw [List.mem_append, List.mem_singleton, eq_comm (a := x)]
    rw [List.foldl_cons, ih, one, or_assoc]
    simp

theorem mem_sweepOrder (table : Vector Tap 32) (p : Fin 32) (x : Fin 96) : (p, x) ∈ sweepOrder table ↔
    table[p].enabled = true ∧ table[p].first ≤ x ∧ x ≤ table[p].last := by
  unfold sweepOrder
  rw [List.mem_flatMap]
  constructor
  · rintro ⟨q, _, mem⟩
    split at mem
    · next sweepable =>
      obtain ⟨y, inRange, eq⟩ := List.mem_map.1 mem
      cases eq
      rw [Tap.range, List.mem_filter, Bool.and_eq_true, decide_eq_true_eq, decide_eq_true_eq] at inRange
      exact ⟨(Bool.and_eq_true_iff.1 sweepable).1, inRange.2.1, inRange.2.2⟩
    · cases mem
  · rintro ⟨enabled, low, high⟩
    refine ⟨p, List.mem_finRange p, ?_⟩
    rw [if_pos (by rw [Tap.sweepable, enabled, decide_eq_true (le_trans low high)]; rfl)]
    refine List.mem_map.2 ⟨x, ?_, rfl⟩
    rw [Tap.range, List.mem_filter, Bool.and_eq_true, decide_eq_true_eq, decide_eq_true_eq]
    exact ⟨List.mem_finRange x, low, high⟩

end Sys2Proof.Machine.Plans

/-! ## LOOK_OPEN, LOOK_DEADLINE and the watch lists (5.4, 5.5, 5.9) -/

namespace Sys2Proof.Machine.LookTimes
open Completions SettingsInForce Replies RoundTimer Frames PeerFrames Plans

/-! ### LOOK_OPEN and LOOK_DEADLINE -/

/-- The watches a plan is built from: the local list at a lead, the held list at a follower. -/
def roundWatches (d : Device) : List Watch :=
  if d.iface.mode = some .follow then d.taps.heldWatches else d.taps.localWatches

/-- The device when LOOK_OPEN has built its plan, before any detector takes work. -/
def planned (t : Nat) (d : Device) : Device :=
  (roundWatches d).foldl planWatch { dropPlan d with rounds := { d.rounds with phase := .opened t } }

theorem openLooks_eq (t : Nat) (d : Device) : openLooks t d = takeAllWork (planned t d) := rfl

theorem planned_eq (t : Nat) (d : Device) : planned t d = { d with
    rounds := { d.rounds with phase := .opened t }
    taps := { d.taps with
      plan := ((roundWatches d).filter (fun w => tapEnabled d w.port)).foldl addWatch []
      watched := (planned t d).taps.watched, sweepFirst := none, sweepOver := false, localWatches := [], heldWatches := [] } } := by
  unfold planned
  rw [foldl_planWatch]
  rfl

theorem mayLook_planned (t : Nat) (d : Device) :
    mayLook (planned t d) = true ↔ d.running = true ∧ d.taps.table.isSome ∧ d.now + 12 ≤ t := by
  rw [mayLook_iff, canLook, planned_eq]
  constructor
  · rintro ⟨running, table, u, opened, late⟩
    cases opened
    exact ⟨running, table, late⟩
  · exact fun ⟨running, table, late⟩ => ⟨running, table, t, rfl, late⟩

/-- An entry of a plan built at LOOK_OPEN is on an enabled tap. -/
theorem planned_enabled {t : Nat} {d : Device} {e : PlanEntry} (h : e ∈ (planned t d).taps.plan) : tapEnabled d e.port = true := by
  rw [planned_eq] at h
  rcases mem_foldl_addWatch _ _ h with ⟨w, mem, port⟩ | ⟨x, mem, _⟩
  · rw [← port]; exact (List.mem_filter.1 mem).2
  · cases mem

theorem enabled_of_sweep {d : Device} {table : Vector Tap 32} {p : Fin 32} {x : Fin 96} (inForce : d.taps.table = some table)
    (h : (p, x) ∈ sweepOrder table) : tapEnabled d p = true := by
  rw [tapEnabled, inForce]
  exact ((mem_sweepOrder table p x).1 h).1

theorem deadlinePassed_taps (t : Nat) (d : Device) : (deadlinePassed t d).now = max d.now t ∧
    (deadlinePassed t d).rounds = { d.rounds with phase := .closed } ∧
    (deadlinePassed t d).taps = { d.taps with
      plan := [], watched := [], sweepFirst := none, sweepOver := false, localWatches := [], heldWatches := [] } ∧
    (deadlinePassed t d).classifier = d.classifier ∧ (deadlinePassed t d).probes = d.probes ∧
    (deadlinePassed t d).slots = d.slots := ⟨rfl, rfl, rfl, rfl, rfl, rfl⟩

/-- Settles O43, from the plan LOOK_OPEN builds and the turns the detectors take. -/
theorem lookOpenAndDeadline : Obligations.LookOpenAndDeadline := by
  intro s
  have open_ : exec .lookOpen s = .next { s with dev := lookOpened s.dev } := rfl
  have deadline : exec .lookDeadline s = .next { s with dev := lookDeadlineTaken s.dev } := rfl
  refine ⟨fun o t scheduled => ?_, fun o t h => ?_, fun unscheduled => ?_, fun closed => ?_⟩
  · generalize hm : s.dev.advance o = m
    have opened : lookOpened s.dev = takeAllWork (planned t m) := by
      rw [lookOpened, scheduled, ← hm]; rfl
    have run : exec .lookOpen s = .next { s with dev := takeAllWork (planned t m) } := by rw [open_, opened]
    have may : mayLook (planned t m) = true ↔ s.dev.running = true ∧ s.dev.taps.table.isSome ∧ max s.dev.now o + 12 ≤ t := by
      rw [mayLook_planned, ← hm]; rfl
    have eq := planned_eq t m
    have taps : (planned t m).taps = { s.dev.taps with
        plan := ((roundWatches s.dev).filter (fun w => tapEnabled s.dev w.port)).foldl addWatch []
        watched := (planned t m).taps.watched, sweepFirst := none, sweepOver := false, localWatches := [], heldWatches := [] } :=
      (congrArg (·.taps) eq).trans (by rw [← hm]; rfl)
    have now : (planned t m).now = max s.dev.now o := (congrArg (·.now) eq).trans (by rw [← hm]; rfl)
    have rounds : (planned t m).rounds = { s.dev.rounds with phase := .opened t } :=
      (congrArg (·.rounds) eq).trans (by rw [← hm]; rfl)
    have detectors : (planned t m).taps.detectors = s.dev.taps.detectors := by rw [taps]
    have table : (planned t m).taps.table = s.dev.taps.table := by rw [taps]
    have watched : (takeAllWork (planned t m)).taps.watched = (planned t m).taps.watched := foldl_takeWork_watched _ _
    have loss (p : Fin 32) : tapLoss (planned t m) p = tapLoss s.dev p := by unfold tapLoss; rw [table]
    have rest : (planned t m).classifier = s.dev.classifier ∧ (planned t m).follower = s.dev.follower ∧
        (planned t m).slots = s.dev.slots := by rw [eq, ← hm]; exact ⟨rfl, rfl, rfl⟩
    have device : planned t m = { s.dev with now := max s.dev.now o, rounds := { s.dev.rounds with phase := .opened t }, taps :=
        { s.dev.taps with
          plan := ((roundWatches s.dev).filter (fun w => tapEnabled s.dev w.port)).foldl addWatch []
          watched := (planned t m).taps.watched, sweepFirst := none, sweepOver := false, localWatches := []
          heldWatches := [] } } := eq.trans (by rw [← hm]; rfl)
    refine ⟨_, run, ?_⟩
    simp only [takeAllWork_keeps]
    refine ⟨now, rounds, (foldl_takeWork_table _ _).trans table, fun i busy => ?_, fun i l idle begun => ?_,
      fun ws hws => ⟨fun p x => ?_, fun plan hplan => ⟨fun running force late => ?_, fun cannot => ?_, ?_,
        fun running force late i e idle entry => ?_⟩⟩, rest⟩
    · rw [takeAllWork_busy (by rw [detectors]; exact busy), detectors]
    · obtain ⟨may', round, endAt, stamp, place⟩ := takeAllWork_looks (by rw [detectors]; exact idle) begun
      refine ⟨by rw [round, rounds], endAt, by rw [endAt, now]; exact (may.1 may').2.2, by rw [stamp, loss], ?_⟩
      rcases place with ⟨e, mem, port⟩ | ⟨force, inForce, x, mem⟩
      · rw [← port, ← planned_enabled mem, ← hm]; rfl
      · exact enabled_of_sweep (table.symm.trans inForce) mem
    · have watches : roundWatches m = ws := by rw [hws, ← hm]; rfl
      rw [watched, planned, mem_watched, watches]
      simp [dropPlan]
    · rw [takeAllWork_plan _ (may.2 ⟨running, force, by rw [← now]; exact late⟩), detectors, taps, hplan, hws]; rfl
    · have late : mayLook (planned t m) = false := Bool.eq_false_iff.2 fun h => cannot (by rw [now]; exact may.1 h)
      rw [takeAllWork_late late, taps, hplan, hws]
      exact ⟨rfl, rfl⟩
    · rw [watched, hplan, hws]
      refine ⟨takeWork (planned t m) 0, takeWork (takeWork (planned t m) 0) 1, takeWork (takeWork (takeWork (planned t m) 0) 1) 2,
        ?_, takeWork_takes _ _, takeWork_takes _ _, ?_⟩
      · have first := takeWork_takes (planned t m) 0
        generalize takeWork (planned t m) 0 = e at first
        rw [device] at first
        exact first
      · rw [takeAllWork_spelled]; exact takeWork_takes _ _
    · have begins := takeAllWork_begins (d := planned t m) (i := i) (e := e) (may.2 ⟨running, force, by rw [← now]; exact late⟩)
        (by rw [detectors]; exact idle) (by rw [detectors, taps, ← entry, hplan, hws]; rfl)
      rw [begins, rounds, loss]
  · have passed : lookDeadlineTaken s.dev = deadlinePassed t s.dev := by
      unfold lookDeadlineTaken
      rcases h with h | h <;> rw [h]
    rw [deadline, passed]
    exact ⟨_, rfl, deadlinePassed_taps t s.dev⟩
  · have same : lookOpened s.dev = s.dev := by
      unfold lookOpened
      split
      · next o t scheduled => exact absurd scheduled (unscheduled o t)
      · rfl
    rw [open_, same]
  · have same : lookDeadlineTaken s.dev = s.dev := by
      unfold lookDeadlineTaken
      rw [closed]
    rw [deadline, same]

/-! ### WATCH_LIST at a follower -/

/-- A mergeable plan from which no detector has begun a look had no IDLE detector to serve. -/
theorem takeAllWork_unmoved {d : Device} (may : mayLook d = true) (plan : d.taps.plan ≠ [])
    (same : (takeAllWork d).taps.detectors = d.taps.detectors) (i : Fin 4) : d.taps.detectors[i] ≠ .idle := by
  induction i using WellFoundedLT.induction with
  | _ i below =>
    intro idle
    have none : (List.finRange 4).filter (fun j => decide (j < i) && d.taps.detectors[j] == .idle) = [] :=
      List.filter_eq_nil_iff.2 fun j _ => by
        by_cases lower : j < i
        · simpa [lower, -Fin.getElem_fin] using below j lower
        · simp [lower]
    obtain ⟨e, rest, cons⟩ := List.exists_cons_of_ne_nil plan
    have begins := takeAllWork_begins may idle (e := e) (by rw [none, cons]; rfl)
    rw [same, idle] at begins
    cases begins

/-- What a WATCH_LIST merged into the plan leaves. -/
theorem takeAllWork_merged (ws : List Watch) (d : Device) {e : Device} (h : e = takeAllWork (ws.foldl planWatch d)) :
    e.now = d.now ∧ (∀ w ∈ ws, (w.port, w.slot) ∈ e.taps.watched) ∧ (∀ x ∈ d.taps.watched, x ∈ e.taps.watched) ∧
    (∃ k, e.taps.plan = ((ws.filter (fun w => tapEnabled d w.port)).foldl addWatch d.taps.plan).drop k ∧
      (e.taps.detectors = d.taps.detectors → k = 0)) ∧
    ((∀ i : Fin 4, d.taps.detectors[i] ≠ .idle) →
      e.taps.plan = (ws.filter (fun w => tapEnabled d w.port)).foldl addWatch d.taps.plan ∧
      e.taps.detectors = d.taps.detectors) ∧
    (∀ i : Fin 4, d.taps.detectors[i] ≠ .idle → e.taps.detectors[i] = d.taps.detectors[i]) ∧
    e.rounds = d.rounds ∧ e.taps.table = d.taps.table := by
  have taps := congrArg (·.taps) (foldl_planWatch ws d)
  generalize hm : ws.foldl planWatch d = m at taps h
  have detectors : m.taps.detectors = d.taps.detectors := by rw [taps]
  have planEq : m.taps.plan = (ws.filter (fun w => tapEnabled d w.port)).foldl addWatch d.taps.plan := by rw [taps]
  have watched (x : Fin 32 × Fin 96) : x ∈ e.taps.watched ↔ x ∈ d.taps.watched ∨ ∃ w ∈ ws, (w.port, w.slot) = x := by
    rw [h, takeAllWork, foldl_takeWork_watched, ← hm, mem_watched]
  have now : m.now = d.now := by rw [← hm]; exact foldl_keeps (·.now) planWatch (fun _ _ => rfl) ws d
  have rounds : m.rounds = d.rounds := by rw [← hm]; exact foldl_keeps (·.rounds) planWatch (fun _ _ => rfl) ws d
  have busy (i : Fin 4) (at_ : d.taps.detectors[i] ≠ .idle) : e.taps.detectors[i] = d.taps.detectors[i] := by
    rw [h, takeAllWork_busy (by rw [detectors]; exact at_), detectors]
  have table : e.taps.table = d.taps.table := by rw [h, takeAllWork, foldl_takeWork_table, taps]
  have all (busyAll : ∀ i : Fin 4, d.taps.detectors[i] ≠ .idle) : e.taps.plan = m.taps.plan := by
    by_cases may : mayLook m = true
    · have none : (List.finRange 4).filter (fun j => m.taps.detectors[j] == .idle) = [] :=
        List.filter_eq_nil_iff.2 fun j _ => by simpa [detectors, -Fin.getElem_fin] using busyAll j
      rw [h, takeAllWork_plan m may, none]; rfl
    · rw [h, takeAllWork_late (Bool.eq_false_iff.2 may)]
  refine ⟨by rw [h]; simp [now], fun w mem => (watched _).2 (.inr ⟨w, mem, rfl⟩), fun x mem => (watched x).2 (.inl mem), ?_,
    fun busyAll => ⟨(all busyAll).trans planEq, Vector.ext fun k small => busy ⟨k, small⟩ (busyAll ⟨k, small⟩)⟩, busy,
    by rw [h]; simp [rounds], table⟩
  rw [← planEq, ← detectors]
  by_cases may : mayLook m = true
  · by_cases empty : m.taps.plan = []
    · exact ⟨0, by rw [h, takeAllWork_plan m may, empty, List.drop_nil, List.drop_nil], fun _ => rfl⟩
    · refine ⟨_, by rw [h, takeAllWork_plan m may], fun same => ?_⟩
      rw [List.length_eq_zero_iff, List.filter_eq_nil_iff]
      intro j _ idle
      exact takeAllWork_unmoved may empty (by rw [← h]; exact same) j (by simpa [-Fin.getElem_fin] using idle)
  · exact ⟨0, by rw [h, takeAllWork_late (Bool.eq_false_iff.2 may)]; rfl, fun _ => rfl⟩

theorem following_iff {d : Device} : d.following = true ↔ d.iface.state = .running ∧ d.iface.mode = some .follow := by
  simp [Device.following, Device.running]

theorem receive_watchList {d : Device} {source own : Fin 16} {body : List Byte} {round : Round} {ws : List Watch}
    (following : d.following = true) (idle : d.iface.start = none) (leadNode : d.identity.bind (·.leadNode) = some source)
    (here : d.ownNode = own) (good : watchListBody? body = some (round, ws)) :
    takeFrame 2 (BitVec.ofNat 8 source.val) (BitVec.ofNat 8 own.val) body d = takeWatchList round ws d := by
  obtain ⟨running, follow⟩ := following_iff.1 following
  refine takeFrame_dispatched (m := .watchList round ws) (addressed_own here) idle running ?_
  rw [(own_destination own).2, checkFrame_known false body (by rw [follow]; rfl) (own_destination source).1,
    if_neg (by simp [sourceAdmitted, leadNode])]
  simp [parseBody, good, fromFuture]

/-- Settles O47, by the phase of the round a list finds. -/
theorem watchListTaken : Obligations.WatchListTaken := by
  intro time source own body round ws s following idle leadNode here good
  have run : exec (.watchListReceived time (BitVec.ofNat 8 source.val) (BitVec.ofNat 8 own.val) body) s =
      .next { s with dev := settle (takeWatchList round ws (s.dev.advance time)) } := by
    rw [← receive_watchList (d := s.dev.advance time) following idle leadNode here good]
    rfl
  rw [run]
  have rounds : (s.dev.advance time).rounds = s.dev.rounds := rfl
  have now : (s.dev.advance time).now = max s.dev.now time := rfl
  refine ⟨fun h => ?_, fun o t number phase early => ?_, fun o t number phase open_ early => ?_, fun t number phase early => ?_⟩
  · have same : takeWatchList round ws (s.dev.advance time) = s.dev.advance time := by
      unfold takeWatchList
      rw [rounds, now]
      rcases h with other | closed | ⟨o, t, phase, after, late⟩ | ⟨t, phase, late⟩
      · rw [if_neg other]
      · rw [closed]; exact ite_self _
      · rw [phase]
        dsimp only
        rw [if_neg (show ¬ max s.dev.now time < o by omega), if_neg (show ¬ max s.dev.now time < t by omega)]
        exact ite_self _
      · rw [phase]
        dsimp only
        rw [if_neg (show ¬ max s.dev.now time < t by omega)]
        exact ite_self _
    rw [same]
  · rw [takeWatchList, rounds, now, if_pos number, phase]
    dsimp only
    rw [if_pos early]
    rfl
  · rw [takeWatchList, rounds, now, if_pos number, phase]
    dsimp only
    rw [if_neg (by omega), if_pos early]
    rfl
  · have merged : takeWatchList round ws (s.dev.advance time) = takeAllWork (ws.foldl planWatch (s.dev.advance time)) := by
      rw [takeWatchList, rounds, now, if_pos number, phase]
      exact if_pos early
    exact ⟨_, rfl, takeAllWork_merged ws (s.dev.advance time) merged⟩

/-! ### WATCH_ISSUE at a lead -/

/-- A node's WATCH_LIST, if it is a configured peer with a watch. -/
def watchListFor (ws : List (Fin 16 × Watch)) (d : Device) (p : Fin 16) : Option TxFrame :=
  if isPeer d p = true ∧ watchesOf ws p ≠ [] then some (.watchList p d.rounds.number ((watchesOf ws p).take 64)) else none

theorem placeWatchList_eq (ws : List (Fin 16 × Watch)) (d : Device) (p : Fin 16) : placeWatchList ws d p =
    { d with lead := { d.lead with transmit := d.lead.transmit ++ (watchListFor ws d p).toList } } := by
  unfold placeWatchList watchListFor
  have empty : (watchesOf ws p).take Config.watchListDepth ≠ [] ↔ watchesOf ws p ≠ [] := by
    simp [List.take_eq_nil_iff, Config.watchListDepth]
  dsimp only
  by_cases h : isPeer d p = true ∧ watchesOf ws p ≠ []
  · rw [if_pos h, if_pos ⟨empty.2 h.2, h.1⟩]; rfl
  · rw [if_neg h, if_neg fun g => h ⟨g.2, empty.1 g.1⟩]
    simp

theorem foldl_placeWatchList (ws : List (Fin 16 × Watch)) (xs : List (Fin 16)) (d : Device) :
    xs.foldl (placeWatchList ws) d =
      { d with lead := { d.lead with transmit := d.lead.transmit ++ xs.filterMap (watchListFor ws d) } } := by
  induction xs generalizing d with
  | nil => simp
  | cons x xs ih =>
    rw [List.foldl_cons, ih, placeWatchList_eq]
    have later : watchListFor ws { d with lead := { d.lead with
        transmit := d.lead.transmit ++ (watchListFor ws d x).toList } } = watchListFor ws d := rfl
    rw [later, List.append_assoc, List.filterMap_cons]
    cases watchListFor ws d x <;> rfl

/-- A probe's watches, each with its place in the admission order and its hop number. -/
def tagsOf (o : Nat) (p : Probe) : List ((Nat × Nat) × (Fin 16 × Watch)) :=
  (p.record.hops.zip p.accums).zipIdx.filterMap fun x =>
    if x.1.2.complete p.record.looks then none
    else some ((o, x.2), (x.1.1.loc.node, ⟨x.1.1.loc.port, x.1.1.loc.slot, p.tone⟩))

/-- The tagged watches of a record, if it holds a LISTENING probe. -/
def tagsAt (d : Device) (x : Fin 16 × Nat) : List ((Nat × Nat) × (Fin 16 × Watch)) :=
  match d.probes.records[x.1] with
  | some p => if p.state = .listening then tagsOf x.2 p else []
  | none => []

/-- Every watch of the round, tagged. -/
def taggedWatches (d : Device) : List ((Nat × Nat) × (Fin 16 × Watch)) := d.probes.order.zipIdx.flatMap (tagsAt d)

theorem tagsOf_snd (o : Nat) (p : Probe) : (tagsOf o p).map (·.2) = probeWatches p := by
  have both : probeWatches p = ((p.record.hops.zip p.accums).zipIdx.map (·.1)).filterMap (fun (h, a) =>
      if a.complete p.record.looks then none else some (h.loc.node, ⟨h.loc.port, h.loc.slot, p.tone⟩)) := by
    rw [List.zipIdx_map_fst]; rfl
  rw [both, tagsOf, List.map_filterMap, List.filterMap_map]
  refine List.filterMap_congr fun x _ => ?_
  dsimp only [Function.comp]
  split <;> rfl

theorem taggedWatches_snd (d : Device) : (taggedWatches d).map (·.2) = allWatches d := by
  have both : allWatches d = (d.probes.order.zipIdx.map (·.1)).flatMap (fun r => match d.probes.records[r] with
      | some p => if p.state = .listening then probeWatches p else []
      | none => []) := by rw [List.zipIdx_map_fst]; rfl
  rw [both, taggedWatches, List.map_flatMap, List.flatMap_map]
  refine congrArg (fun f => List.flatMap f _) (funext fun x => ?_)
  unfold tagsAt
  generalize d.probes.records[x.1] = v
  cases v with
  | none => rfl
  | some p =>
    dsimp only
    split
    · exact tagsOf_snd _ _
    · rfl

theorem mem_tagsOf {o o' k : Nat} {p : Probe} {v : Fin 16 × Watch} : ((o', k), v) ∈ tagsOf o p ↔ o' = o ∧
    ∃ (hop : Hop) (a : Accumulator), p.record.hops[k]? = some hop ∧ p.accums[k]? = some a ∧ a.looksDone ≠ p.record.looks ∧
      v = (hop.loc.node, ⟨hop.loc.port, hop.loc.slot, p.tone⟩) := by
  unfold tagsOf
  rw [List.mem_filterMap]
  constructor
  · rintro ⟨⟨⟨hop, a⟩, i⟩, mem, tagged⟩
    split at tagged
    · cases tagged
    · next incomplete =>
      cases tagged
      obtain ⟨h1, h2⟩ := List.getElem?_zip_eq_some.1 (List.mk_mem_zipIdx_iff_getElem?.1 mem)
      exact ⟨rfl, hop, a, h1, h2, by simpa [Accumulator.complete] using incomplete, rfl⟩
  · rintro ⟨rfl, hop, a, h1, h2, incomplete, rfl⟩
    refine ⟨((hop, a), k), List.mk_mem_zipIdx_iff_getElem?.2 (List.getElem?_zip_eq_some.2 ⟨h1, h2⟩), ?_⟩
    rw [if_neg (by simpa [Accumulator.complete] using incomplete)]

theorem mem_taggedWatches {d : Device} {o k : Nat} {v : Fin 16 × Watch} : ((o, k), v) ∈ taggedWatches d ↔
    ∃ (r : Fin 16) (p : Probe), d.probes.order[o]? = some r ∧ d.probes.records[r] = some p ∧ p.state = .listening ∧
      ∃ (hop : Hop) (a : Accumulator), p.record.hops[k]? = some hop ∧ p.accums[k]? = some a ∧ a.looksDone ≠ p.record.looks ∧
        v = (hop.loc.node, ⟨hop.loc.port, hop.loc.slot, p.tone⟩) := by
  unfold taggedWatches
  rw [List.mem_flatMap]
  constructor
  · rintro ⟨⟨r, i⟩, mem, tagged⟩
    unfold tagsAt at tagged
    split at tagged
    · next p record =>
      split at tagged
      · next listening =>
        obtain ⟨rfl, rest⟩ := mem_tagsOf.1 tagged
        exact ⟨r, p, List.mk_mem_zipIdx_iff_getElem?.1 mem, record, listening, rest⟩
      · cases tagged
    · cases tagged
  · rintro ⟨r, p, place, record, listening, rest⟩
    refine ⟨(r, o), List.mk_mem_zipIdx_iff_getElem?.2 place, ?_⟩
    rw [tagsAt, record]
    dsimp only
    rw [if_pos listening]
    exact mem_tagsOf.2 ⟨rfl, rest⟩

theorem pairwise_zipIdx {α : Type} (l : List α) : l.zipIdx.Pairwise (fun x y => x.2 < y.2) := by
  have h : (l.zipIdx.map (·.2)).Pairwise (· < ·) := by
    rw [List.zipIdx_map_snd]; exact List.pairwise_lt_range'
  exact List.pairwise_map.1 h

theorem taggedWatches_ordered (d : Device) :
    (taggedWatches d).Pairwise (fun x y => x.1.1 < y.1.1 ∨ (x.1.1 = y.1.1 ∧ x.1.2 < y.1.2)) := by
  have own {x : Fin 16 × Nat} {z : (Nat × Nat) × (Fin 16 × Watch)} (h : z ∈ tagsAt d x) : z.1.1 = x.2 := by
    unfold tagsAt at h
    split at h
    · split at h
      · exact (mem_tagsOf.1 h).1
      · cases h
    · cases h
  refine List.pairwise_flatMap.2 ⟨fun x _ => ?_, (pairwise_zipIdx _).imp fun before y my z mz => .inl (by rw [own my, own mz]; exact before)⟩
  unfold tagsAt
  split
  · next p _ =>
    split
    · refine List.pairwise_filterMap.2 ((pairwise_zipIdx _).imp fun before y hy z hz => ?_)
      split at hy
      · cases hy
      · split at hz
        · cases hz
        · cases hy; cases hz; exact .inr ⟨rfl, before⟩
    · exact .nil
  · exact .nil

theorem mem_allWatches {d : Device} {v : Fin 16 × Watch} : v ∈ allWatches d ↔
    ∃ (o : Nat) (r : Fin 16) (p : Probe), d.probes.order[o]? = some r ∧ d.probes.records[r] = some p ∧ p.state = .listening ∧
      ∃ (k : Nat) (hop : Hop) (a : Accumulator), p.record.hops[k]? = some hop ∧ p.accums[k]? = some a ∧
        a.looksDone ≠ p.record.looks ∧ v = (hop.loc.node, ⟨hop.loc.port, hop.loc.slot, p.tone⟩) := by
  rw [← taggedWatches_snd, List.mem_map]
  constructor
  · rintro ⟨⟨⟨o, k⟩, v⟩, mem, rfl⟩
    obtain ⟨r, p, place, record, listening, hop, a, h1, h2, incomplete, eq⟩ := mem_taggedWatches.1 mem
    exact ⟨o, r, p, place, record, listening, k, hop, a, h1, h2, incomplete, eq⟩
  · rintro ⟨o, r, p, place, record, listening, k, hop, a, h1, h2, incomplete, eq⟩
    exact ⟨((o, k), v), mem_taggedWatches.2 ⟨r, p, place, record, listening, hop, a, h1, h2, incomplete, eq⟩, rfl⟩

theorem watchesOf_eq (ws : List (Fin 16 × Watch)) (node : Fin 16) :
    watchesOf ws node = (ws.filter (·.1 = node)).map (·.2) := by
  unfold watchesOf
  rw [← List.filterMap_eq_filter, List.map_filterMap]
  refine List.filterMap_congr fun x _ => ?_
  by_cases h : x.1 = node <;> simp [h, Option.guard]

/-- What WATCH_ISSUE leaves of the tap array and the transmit queue, and the rest. -/
theorem issueWatches_eq (d : Device) : issueWatches d = { d with
    taps := { d.taps with localWatches := watchesOf (allWatches d) d.ownNode }
    lead := { d.lead with
      transmit := d.lead.transmit ++ (List.finRange 16).filterMap (watchListFor (allWatches d) d) } } :=
  foldl_placeWatchList _ _ _

/-- Settles O42, from the lists placed and the tags that order the watches. -/
theorem watchIssue : Obligations.WatchIssue := by
  intro s
  have run : exec .watchIssue s =
      .next { s with dev := whenLeading (atTimer s.dev.rounds.watchAt (fun _ => watchesIssued)) s.dev } := rfl
  refine ⟨fun t leading due => ?_, fun h => ?_⟩
  · generalize hm : ({ s.dev.advance t with rounds := { s.dev.rounds with watchAt := none } } : Device) = m
    have issued : whenLeading (atTimer s.dev.rounds.watchAt (fun _ => watchesIssued)) s.dev = issueWatches m := by
      rw [whenLeading, if_pos leading, due, ← hm]; rfl
    have frame : m.now = max s.dev.now t ∧ m.rounds = { s.dev.rounds with watchAt := none } ∧ m.taps = s.dev.taps ∧
        m.lead = s.dev.lead ∧ m.probes = s.dev.probes ∧ m.slots = s.dev.slots ∧ m.ownNode = s.dev.ownNode ∧
        allWatches m = allWatches s.dev := by rw [← hm]; exact ⟨rfl, rfl, rfl, rfl, rfl, rfl, rfl, rfl⟩
    obtain ⟨now, rounds, taps, lead, probes, slots, own, watches⟩ := frame
    have lists : watchListFor (allWatches m) m = fun p =>
        if isPeer s.dev p = true ∧ watchesOf (allWatches s.dev) p ≠ [] then
          some (.watchList p s.dev.rounds.number ((watchesOf (allWatches s.dev) p).take 64)) else none := by
      rw [← hm]; rfl
    have tag {j o k : Nat} (h : ((taggedWatches s.dev).map (·.1))[j]? = some (o, k)) :
        ∃ v, (taggedWatches s.dev)[j]? = some ((o, k), v) := by
      rw [List.getElem?_map, Option.map_eq_some_iff] at h
      obtain ⟨⟨⟨o', k'⟩, v⟩, place, eq⟩ := h
      cases eq
      exact ⟨v, place⟩
    refine ⟨issueWatches m, run.trans (by rw [issued]), ?_⟩
    rw [issueWatches_eq]
    refine ⟨now, rounds, by dsimp only; rw [taps, watches, own], ⟨_, by dsimp only; rw [lead, lists], fun f mem => ?_, fun p peer some_ => ?_⟩,
      by dsimp only; rw [lead, lists], fun node w => ?_, ⟨(taggedWatches s.dev).map (·.1), ?_, ?_, fun o k r p hop a place record listening h1 h2 incomplete => ?_,
        fun j o k place => ?_⟩, watchesOf_eq _, by dsimp only; rw [lead], probes, slots⟩
    · obtain ⟨p, _, listed⟩ := List.mem_filterMap.1 mem
      split at listed
      · next h => cases listed; exact ⟨p, h.1, rfl⟩
      · cases listed
    · exact List.mem_filterMap.2 ⟨p, List.mem_finRange p, if_pos ⟨peer, some_⟩⟩
    · rw [mem_allWatches]
      constructor
      · rintro ⟨o, r, p, place, record, listening, k, hop, a, h1, h2, incomplete, eq⟩
        cases eq
        exact ⟨r, List.mem_of_getElem? place, p, record, listening, rfl, k, hop, a, h1, h2, incomplete, rfl⟩
      · rintro ⟨r, mem, p, record, listening, tone, k, hop, a, h1, h2, incomplete, loc⟩
        obtain ⟨o, place⟩ := List.getElem?_of_mem mem
        refine ⟨o, r, p, place, record, listening, k, hop, a, h1, h2, incomplete, ?_⟩
        rw [loc, ← tone]
    · rw [← taggedWatches_snd, List.length_map, List.length_map]
    · exact List.pairwise_map.2 (taggedWatches_ordered s.dev)
    · exact List.mem_map.2 ⟨_, mem_taggedWatches.2 ⟨r, p, place, record, listening, hop, a, h1, h2, incomplete, rfl⟩, rfl⟩
    · obtain ⟨v, tagged⟩ := tag place
      obtain ⟨r, p, at_, record, listening, hop, a, h1, h2, incomplete, eq⟩ := mem_taggedWatches.1 (List.mem_of_getElem? tagged)
      refine ⟨r, p, hop, a, at_, record, listening, h1, h2, incomplete, ?_⟩
      rw [← taggedWatches_snd, List.getElem?_map, tagged, ← eq]
      rfl
  · have same : whenLeading (atTimer s.dev.rounds.watchAt (fun _ => watchesIssued)) s.dev = s.dev := by
      unfold whenLeading
      rcases h with off | none
      · rw [if_neg (by rw [off]; simp)]
      · rw [none]; exact ite_self _
    rw [run, same]

end Sys2Proof.Machine.LookTimes

/-! ## What a look reports and what its detector does next (5.2, 5.6 to 5.8, 6.8) -/

namespace Sys2Proof.Machine.LookEnds
open Completions SettingsInForce Replies RoundTimer RoundStarts Plans

/-! ### The order of a look's tones -/

/-- Descending key, the lower tone first among equals. -/
def keyOrder (x y : Nat × Fin 48) : Prop := y.1 < x.1 ∨ (y.1 = x.1 ∧ x.2 ≤ y.2)

theorem keyOrder_trans {x y z : Nat × Fin 48} (h : keyOrder x y) (g : keyOrder y z) : keyOrder x z := by
  unfold keyOrder at *
  omega

theorem insertByKey_perm (x : Nat × Fin 48) (ys : List (Nat × Fin 48)) : (insertByKey ys x).Perm (x :: ys) := by
  induction ys with
  | nil => exact .refl _
  | cons y ys ih =>
    rw [insertByKey]
    split
    · exact .refl _
    · exact (ih.cons y).trans (.swap ..)

theorem insertByKey_ordered (x : Nat × Fin 48) (ys : List (Nat × Fin 48)) (h : ys.Pairwise keyOrder) :
    (insertByKey ys x).Pairwise keyOrder := by
  induction ys with
  | nil => exact List.pairwise_singleton _ _
  | cons y ys ih =>
    obtain ⟨head, tail⟩ := List.pairwise_cons.1 h
    rw [insertByKey]
    split
    · next before =>
      have first : keyOrder x y := by unfold keyOrder; omega
      refine List.pairwise_cons.2 ⟨fun z mem => ?_, h⟩
      rcases List.mem_cons.1 mem with rfl | mem
      · exact first
      · exact keyOrder_trans first (head z mem)
    · next after =>
      refine List.pairwise_cons.2 ⟨fun z mem => ?_, ih tail⟩
      rcases List.mem_cons.1 ((insertByKey_perm x ys).mem_iff.1 mem) with rfl | mem
      · unfold keyOrder; omega
      · exact head z mem

theorem foldl_insertByKey (xs ys : List (Nat × Fin 48)) (h : ys.Pairwise keyOrder) :
    (xs.foldl insertByKey ys).Perm (xs ++ ys) ∧ (xs.foldl insertByKey ys).Pairwise keyOrder := by
  induction xs generalizing ys with
  | nil => exact ⟨.refl _, h⟩
  | cons x xs ih =>
    obtain ⟨perm, ordered⟩ := ih _ (insertByKey_ordered x ys h)
    exact ⟨perm.trans (((insertByKey_perm x ys).append_left xs).trans List.perm_middle), ordered⟩

theorem sortByKey_sorts (xs : List (Nat × Fin 48)) : (sortByKey xs).Perm xs ∧ (sortByKey xs).Pairwise keyOrder := by
  have h := foldl_insertByKey xs [] .nil
  rw [List.append_nil] at h
  exact h

/-- A reordering of the keys is the keys of a reordering. -/
theorem exists_perm_of_map {α β : Type} (f : α → β) (xs : List α) (ys : List β) (h : ys.Perm (xs.map f)) :
    ∃ zs : List α, zs.Perm xs ∧ zs.map f = ys := by
  induction xs generalizing ys with
  | nil => exact ⟨[], .refl _, (List.perm_nil.1 h).symm⟩
  | cons x xs ih =>
    obtain ⟨as, bs, rfl⟩ := List.append_of_mem (h.mem_iff.2 List.mem_cons_self)
    obtain ⟨zs, perm, eq⟩ := ih (as ++ bs) (List.perm_middle.symm.trans h).cons_inv
    obtain ⟨us, vs, rfl, rfl, rfl⟩ := List.map_eq_append_iff.1 eq
    exact ⟨us ++ x :: vs, List.perm_middle.trans (perm.cons x), by simp⟩

/-- The sort of a list by a key of its entries. -/
theorem exists_sorted (f : FoundTone → Nat × Fin 48) (xs : List FoundTone) :
    ∃ zs : List FoundTone, zs.Perm xs ∧ zs.map f = sortByKey (xs.map f) ∧ zs.Pairwise (fun x y => keyOrder (f x) (f y)) := by
  obtain ⟨perm, ordered⟩ := sortByKey_sorts (xs.map f)
  obtain ⟨zs, permZ, eq⟩ := exists_perm_of_map f xs _ perm
  exact ⟨zs, permZ, eq, List.pairwise_map.1 (by rw [eq]; exact ordered)⟩

theorem emptyTones_ordered (tones : Option (List (Fin 48))) (found : List FoundTone) :
    (emptyTones tones found).Pairwise (· < ·) := by
  unfold emptyTones
  split
  · exact .nil
  · exact (List.pairwise_lt_finRange 48).filter _

theorem mem_emptyTones (t : Fin 48) (tones : Option (List (Fin 48))) (found : List FoundTone) :
    t ∈ emptyTones tones found ↔ (∃ ts, tones = some ts ∧ t ∈ ts) ∧ ∀ f ∈ found, f.tone ≠ t := by
  unfold emptyTones
  split
  · simp
  · next ts =>
    rw [List.mem_filter]
    simp [-Fin.getElem_fin]

/-- What a look reports, and in which order. -/
theorem lookSightings_reports (d : Device) (offset : BitVec 6) (l : Look) (found : List FoundTone) :
    ∃ (reported rest : List FoundTone) (empties : List (Fin 48)),
      (reported ++ rest).Perm found ∧ reported.length = min 8 found.length ∧
      (∀ f ∈ reported, ∀ g ∈ rest, g.raw.toNat < f.raw.toNat ∨ (g.raw = f.raw ∧ f.tone ≤ g.tone)) ∧
      reported.Pairwise (fun f g => correctedLevel offset g.raw.toNat < correctedLevel offset f.raw.toNat ∨
        (correctedLevel offset g.raw.toNat = correctedLevel offset f.raw.toNat ∧ f.tone ≤ g.tone)) ∧
      empties.Pairwise (· < ·) ∧
      (∀ t : Fin 48, t ∈ empties ↔ (∃ ts, l.tones = some ts ∧ t ∈ ts) ∧ ∀ f ∈ found, f.tone ≠ t) ∧
      lookSightings d offset l found =
        reported.map (fun f => ⟨none, l.round, ⟨d.ownNode, l.port, l.slot⟩, f.tone,
          some (correctedLevel offset f.raw.toNat), l.loss, true, true⟩) ++
        empties.map (fun t => ⟨none, l.round, ⟨d.ownNode, l.port, l.slot⟩, t, none, l.loss, true, true⟩) := by
  obtain ⟨all, allPerm, allSorted, allOrdered⟩ := exists_sorted (fun f => (f.raw.toNat, f.tone)) found
  obtain ⟨reported, perm, sorted, ordered⟩ :=
    exists_sorted (fun f => (correctedLevel offset f.raw.toNat, f.tone)) (all.take 8)
  have split : (reported ++ all.drop 8).Perm found := by
    refine (perm.append_right _).trans ?_
    rw [List.take_append_drop]
    exact allPerm
  refine ⟨reported, all.drop 8, emptyTones l.tones found, split, ?_, fun f mf g mg => ?_, ordered,
    emptyTones_ordered _ _, fun t => mem_emptyTones t _ _, ?_⟩
  · rw [perm.length_eq, List.length_take, allPerm.length_eq]
  · have ordered := allOrdered
    rw [← List.take_append_drop 8 all] at ordered
    have h := (List.pairwise_append.1 ordered).2.2 f (perm.mem_iff.1 mf) g mg
    exact h.imp_right (And.imp_left BitVec.eq_of_toNat_eq)
  · have top : (reportedTones found).map (fun (r, t) => (correctedLevel offset r, t)) =
        (all.take 8).map (fun f => (correctedLevel offset f.raw.toNat, f.tone)) := by
      rw [reportedTones, ← allSorted, ← List.map_take, List.map_map]
      rfl
    rw [lookSightings, top, ← sorted, List.map_map]
    rfl

theorem correctedLevel_spec (offset : BitVec 6) (raw : Nat) :
    (raw = 0 → correctedLevel offset raw = 0) ∧ (raw = 1023 → correctedLevel offset raw = 1023) ∧
    (raw ≠ 0 → raw ≠ 1023 → (correctedLevel offset raw : Int) = max 1 (min 1022 ((raw : Int) + offset.toInt))) := by
  unfold correctedLevel
  refine ⟨fun h => if_pos h, fun h => by rw [h]; rfl, fun low high => ?_⟩
  rw [if_neg low, if_neg high, clampInt, Int.toNat_of_nonneg (by omega)]

theorem sweepOrder_ordered (table : Vector Tap 32) :
    (sweepOrder table).Pairwise (fun a b => a.1 < b.1 ∨ (a.1 = b.1 ∧ a.2 < b.2)) := by
  have own {p : Fin 32} {x : Fin 32 × Fin 96}
      (h : x ∈ if table[p].sweepable then table[p].range.map (fun s => (p, s)) else []) : x.1 = p := by
    split at h
    · obtain ⟨_, _, rfl⟩ := List.mem_map.1 h; rfl
    · cases h
  refine List.pairwise_flatMap.2 ⟨fun p _ => ?_,
    (List.pairwise_lt_finRange 32).imp fun before x mx y my => .inl (by rw [own mx, own my]; exact before)⟩
  split
  · exact List.pairwise_map.2 (((List.pairwise_lt_finRange 96).filter _).imp fun before => .inr ⟨rfl, before⟩)
  · exact .nil

theorem applyStaged_sweeps {d : Device} {seq : Half} {x : Settings} (staged : d.rounds.staged = some (seq, x))
    (settled : settled d = true) (allowed : d.rounds.hold = false ∨ d.rounds.inForce = none) :
    ∃ table, (applyStaged d).taps = { d.taps with table := some table, cursor := (sweepOrder table).head? } := by
  rw [applyStaged_applies staged settled allowed]
  exact ⟨_, by simp only [owe_keeps, inForce, applyPeers_keeps]; rfl⟩

/-! ### Into the hold queue or the local share -/

theorem foldl_holdSighting (xs : List Sighting) (d : Device) :
    (xs.foldl holdSighting d).follower = { d.follower with
      hold := d.follower.hold ++ xs.take (32 - d.follower.hold.length)
      shed := d.follower.shed + BitVec.ofNat 32 (xs.length - (32 - d.follower.hold.length)) } := by
  induction xs generalizing d with
  | nil => simp
  | cons x xs ih =>
    rw [List.foldl_cons, ih]
    unfold holdSighting
    split
    · next room =>
      have depth : Config.holdDepth = 32 := rfl
      rw [depth] at room
      dsimp only
      rw [List.length_append, List.length_singleton, show 32 - d.follower.hold.length = (32 - (d.follower.hold.length + 1)) + 1 by omega,
        List.take_succ_cons, List.length_cons, List.append_assoc, List.singleton_append]
      congr 3
      omega
    · next full =>
      have depth : Config.holdDepth = 32 := rfl
      rw [depth] at full
      dsimp only
      rw [show 32 - d.follower.hold.length = 0 by omega, List.take_zero, List.take_zero, List.length_cons, Nat.sub_zero,
        Nat.sub_zero, BitVec.add_assoc, ← BitVec.ofNat_add, Nat.add_comm]

theorem foldl_holdSighting_rest (xs : List Sighting) (d : Device) :
    xs.foldl holdSighting d = { d with follower := (xs.foldl holdSighting d).follower } := by
  induction xs generalizing d with
  | nil => rfl
  | cons x xs ih =>
    rw [List.foldl_cons, ih]
    unfold holdSighting
    split <;> rfl

/-- A detector that takes work does so in any device that has its tap array and all else it ends with. -/
theorem takesWork_of_taps {i : Fin 4} {m d : Device} (h : d = takeWork m i) {a : TapArray} (taps : m.taps = a) :
    takesWork { d with taps := a } d i := by
  have start : ({ d with taps := a } : Device) = m := by
    rw [h, (takeWork_taps m i).1, ← taps]
  rw [start, h]
  exact takeWork_takes m i

theorem setDetector_detectors (i j : Fin 4) (x : Detector) (d : Device) :
    (d.setDetector i x).taps.detectors[j] = if j = i then x else d.taps.detectors[j] := vec_set_get ..

/-- At a follower a look's sightings go to the hold queue, what it sheds owes the counter write, and its detector takes work. -/
theorem holdAll_does (i : Fin 4) (xs : List Sighting) (d : Device) {e : Device} (h : e = holdAll i xs d) :
    e.follower.hold = d.follower.hold ++ xs.take (32 - d.follower.hold.length) ∧
    e.follower.shed = d.follower.shed + BitVec.ofNat 32 (xs.length - (32 - d.follower.hold.length)) ∧
    takesWork { e with taps := { d.taps with detectors := d.taps.detectors.set i .idle } } e i ∧
    (e.follower.shed ≠ d.follower.shed →
      writeShown d e .linkCounters (boardAddr d 0x38) (linkCounterBytes e.follower)) ∧
    ∀ j : Fin 4, j ≠ i → e.taps.detectors[j] = d.taps.detectors[j] := by
  have queued := foldl_holdSighting xs d
  have rest := foldl_holdSighting_rest xs d
  generalize hy : xs.foldl holdSighting d = y at queued rest
  generalize hz : (if y.follower.shed = d.follower.shed then y else owe .linkCounters y) = z
  have whole : e = takeWork (z.setDetector i .idle) i := by rw [h, ← hz, ← hy]; rfl
  have zTaps : z.taps = d.taps := by
    rw [← hz]
    split
    · rw [rest]
    · rw [show (owe .linkCounters y).taps = y.taps by simp, rest]
  have zFollower : z.follower = y.follower := by rw [← hz]; split <;> simp
  have follower : e.follower = y.follower := by rw [whole, ← zFollower]; simp [Device.setDetector]
  have taps : (z.setDetector i .idle).taps = { d.taps with detectors := d.taps.detectors.set i .idle } := by
    rw [Device.setDetector, zTaps]
  refine ⟨by rw [follower, queued], by rw [follower, queued], takesWork_of_taps whole taps, fun shed => ?_, fun j other => ?_⟩
  · rw [follower] at shed ⊢
    rw [if_neg shed] at hz
    have due : writeShown y z .linkCounters (boardAddr y 0x38) (linkCounterBytes y.follower) := by
      rw [← hz]; exact owe_due .linkCounters y
    have later : Adds (fun _ => false) z e := .of_eq (by rw [whole]; simp [Device.setDetector]) (by rw [whole]; simp [Device.setDetector])
    refine writeDue.start (d := y) ?_ ?_ (writeDue.after ?_ later id)
    · rw [rest]
    · rw [rest]
    · have addr : boardAddr y = boardAddr d := by rw [rest]; rfl
      rw [← addr]; exact due
  · rw [whole, (takeWork_taps _ i).2.2.2.1 j other, setDetector_detectors, if_neg other, zTaps]

theorem serveDetector_overflows {d : Device} {i : Fin 4} {xs : List Sighting} (h : d.taps.detectors[i] = .holding xs)
    (full : ¬ xs.length ≤ localRoom d) : serveDetector d i =
      (pushQueue (xs.take (localRoom d)) d).setDetector i (.holding (xs.drop (localRoom d))) := by
  unfold serveDetector
  rw [h]
  exact if_neg full

theorem serveDetector_others {d : Device} {i j : Fin 4} (other : j ≠ i) :
    (serveDetector d i).taps.detectors[j] = d.taps.detectors[j] := by
  unfold serveDetector
  split
  · dsimp only
    split
    · rw [(takeWork_taps _ i).2.2.2.1 j other]
      exact (setDetector_detectors ..).trans (if_neg other)
    · exact (setDetector_detectors ..).trans (if_neg other)
  · rfl

/-- At a lead a look's sightings enter the local share as far as it has room, behind any detector HOLDING. -/
theorem offerLocal_does (i : Fin 4) (xs : List Sighting) (d : Device) {e : Device} (h : e = offerLocal i xs d) :
    (anyHolding d = true → e.taps.detectors[i] = .holding xs ∧ e.classifier = d.classifier ∧
      e.taps = { d.taps with detectors := d.taps.detectors.set i (.holding xs) }) ∧
    (anyHolding d = false →
      e.classifier.queue = d.classifier.queue ++ (xs.take (localRoom d)).map (fun x => ⟨x, none, none⟩) ∧
      (localRoom d < xs.length → e.taps.detectors[i] = .holding (xs.drop (localRoom d)) ∧ e.taps = { d.taps with
        detectors := d.taps.detectors.set i (.holding (xs.drop (localRoom d))) }) ∧
      (xs.length ≤ localRoom d →
        takesWork { e with taps := { d.taps with detectors := d.taps.detectors.set i .idle } } e i ∧
        ∀ ys, e.taps.detectors[i] ≠ .holding ys)) ∧
    ∀ j : Fin 4, j ≠ i → e.taps.detectors[j] = d.taps.detectors[j] := by
  have twice (x y : Detector) : ((d.setDetector i x).taps.detectors.set i y) = d.taps.detectors.set i y := Vector.set_set ..
  have held : (d.setDetector i (.holding xs)).taps.detectors[i] = .holding xs :=
    (setDetector_detectors ..).trans (if_pos rfl)
  by_cases holding : anyHolding d = true
  · rw [offerLocal, if_pos holding] at h
    rw [h]
    exact ⟨fun _ => ⟨held, rfl, rfl⟩, fun none => absurd holding (by simp [none]),
      fun j other => (setDetector_detectors ..).trans (if_neg other)⟩
  · have room : localRoom (d.setDetector i (.holding xs)) = localRoom d := rfl
    rw [offerLocal, if_neg holding] at h
    refine ⟨fun bad => absurd bad holding, fun _ => ?_, fun j other => ?_⟩
    · by_cases fits : xs.length ≤ localRoom d
      · rw [serveDetector_empties _ i xs held fits] at h
        refine ⟨?_, fun full => absurd fits (by omega), fun _ => ⟨takesWork_of_taps h ?_, fun ys holds => ?_⟩⟩
        · rw [h, List.take_of_length_le fits]; simp [Device.setDetector]
        · rw [emptied, twice]; rfl
        · rw [h] at holds
          have idle := (takeWork_taps _ i).2.2.2.2 ys holds
          rw [show (emptied (d.setDetector i (.holding xs)) i xs).taps.detectors[i] = .idle from
            (vec_set_get ..).trans (if_pos rfl)] at idle
          cases idle
      · rw [serveDetector_overflows held fits] at h
        rw [h]
        refine ⟨rfl, fun _ => ⟨(setDetector_detectors ..).trans (if_pos rfl), ?_⟩, fun bad => absurd bad fits⟩
        exact congrArg (fun v => ({ d.taps with detectors := v } : TapArray)) (twice _ _)
    · rw [h, serveDetector_others other]
      exact (setDetector_detectors ..).trans (if_neg other)

/-- Settles O44, from the order of a look's tones and from what its sightings enter. -/
theorem lookEnd : Obligations.LookEnd := by
  refine ⟨correctedLevel_spec, fun table => ⟨mem_sweepOrder table, sweepOrder_ordered table⟩,
    fun d seq x => applyStaged_sweeps, lookSightings_reports, fun i l found s looking => ?_⟩
  have ended : lookEnded i found s.dev = settle (endLook i l found s.dev) := by
    unfold lookEnded
    rw [looking]
  have run : exec (.lookEnd i found) s = .next { s with dev := settle (endLook i l found s.dev) } := by
    rw [← ended]; rfl
  generalize hm : s.dev.advance l.endAt = m
  have sightings : lookSightings m m.fuses[i] l found = lookSightings s.dev s.dev.fuses[i] l found := by rw [← hm]; rfl
  have frame : m.now = max s.dev.now l.endAt ∧ m.taps = s.dev.taps ∧ m.classifier = s.dev.classifier ∧
      m.follower = s.dev.follower ∧ m.iface = s.dev.iface ∧ m.dma = s.dev.dma ∧ anyHolding m = anyHolding s.dev ∧
      localRoom m = localRoom s.dev ∧ boardAddr m = boardAddr s.dev := by rw [← hm]; exact ⟨rfl, rfl, rfl, rfl, rfl, rfl, rfl, rfl, rfl⟩
  obtain ⟨now, taps, classifier, follower, iface, dma, any, room, addr⟩ := frame
  have slots : (endLook i l found s.dev).slots = s.dev.slots := by simp
  have probes : (endLook i l found s.dev).probes = s.dev.probes := by simp
  have rounds : (endLook i l found s.dev).rounds = s.dev.rounds := by simp
  refine ⟨endLook i l found s.dev, run, ?_⟩
  by_cases follow : s.dev.iface.mode = some .follow
  · have held : endLook i l found s.dev = holdAll i (lookSightings s.dev s.dev.fuses[i] l found) m := by
      rw [← sightings, ← hm]; exact if_pos follow
    obtain ⟨hold, shed, work, due, others⟩ := holdAll_does i _ m held
    rw [taps] at work others
    rw [follower] at hold shed due
    rw [addr] at due
    refine ⟨by rw [held]; simp [now], fun bad => absurd follow bad, fun _ xs hxs => ?_, others, slots, probes, rounds⟩
    rw [hxs]
    exact ⟨hold, shed, by rw [held]; simp [classifier], work, fun changed => (due changed).start iface dma⟩
  · have offered : endLook i l found s.dev = offerLocal i (lookSightings s.dev s.dev.fuses[i] l found) m := by
      rw [← sightings, ← hm]; exact if_neg follow
    obtain ⟨behind, first, others⟩ := offerLocal_does i _ m offered
    rw [taps] at behind first others
    rw [any] at behind first
    rw [room] at first
    rw [classifier] at behind first
    refine ⟨by rw [offered]; simp [now], fun _ xs hxs => ?_, fun bad => absurd bad follow, others, slots, probes, rounds⟩
    rw [hxs]
    exact ⟨behind, first⟩

end Sys2Proof.Machine.LookEnds

/-! ## Answers to a sighting (8.3 to 8.5) -/

namespace Sys2Proof.Machine.Answers
open Completions SettingsInForce Replies RoundTimer RoundStarts

/-! ### Counts -/

/-- What counting a header counter leaves. -/
theorem countHeader_does (h : HeaderCount) (d : Device) : (countHeader h d).classifier = d.classifier.count h ∧
    (countHeader h d).probes = d.probes ∧ (countHeader h d).slots = d.slots ∧
    writeShown d (countHeader h d) .sightingCounters (boardAddr d 0x40) (sightingCounterBytes (countHeader h d).classifier) := by
  have counted : (countHeader h d).classifier = d.classifier.count h := by simp [countHeader]
  refine ⟨counted, by simp, by simp, ?_⟩
  rw [counted]
  exact (owe_due .sightingCounters { d with classifier := d.classifier.count h }).start rfl rfl

theorem takeStray_does (x : Sighting) (d : Device) : (takeStray x d).classifier = d.classifier.count .stray ∧
    (takeStray x d).probes = d.probes ∧ (takeStray x d).slots = d.slots ∧
    writeShown d (takeStray x d) .sightingCounters (boardAddr d 0x40) (sightingCounterBytes (takeStray x d).classifier) := by
  obtain ⟨counted, _, _, due⟩ := countHeader_does .stray d
  have same : (takeStray x d).classifier = (countHeader .stray d).classifier := by simp [takeStray]
  refine ⟨same.trans counted, by simp, by simp, ?_⟩
  rw [same]
  exact due.after (journalRequest_adds (fun _ _ => rfl) rfl _ _ _) id

theorem countSlot_other {kind : SlotCount} {n : Fin 8} {g : Half} {d : Device} (h : d.slots[n].generation ≠ g) :
    countSlot kind n g d = d := if_neg h

theorem tally_eq (s : Summary) (kind : SlotCount) : s.tally kind = { s with
    lateDiscard := s.lateDiscard + (if kind = .late then 1#32 else 0#32)
    outOfReach := s.outOfReach + (if kind = .outOfReach then 1#32 else 0#32)
    unclassified := s.unclassified + (if kind = .unclassified then 1#32 else 0#32) } := by
  cases kind <;> simp [Summary.tally]

theorem countSlot_counts {kind : SlotCount} {n : Fin 8} {g : Half} {d : Device} (h : d.slots[n].generation = g) :
    countSlot kind n g d = d.setSlot n { d.slots[n] with summary := d.slots[n].summary.tally kind } := if_pos h

theorem countSlot_summary {kind : SlotCount} {n : Fin 8} {g : Half} {d : Device} (h : d.slots[n].generation = g) :
    (countSlot kind n g d).slots[n].summary = d.slots[n].summary.tally kind := by
  rw [countSlot_counts h, Device.setSlot_slots_get, if_pos rfl]

/-! ### Looks -/

/-- A probe's record once a look at a hop is accepted. -/
def Accepted (p : Probe) (h : Nat) (hop : Hop) (a : Accumulator) (x : Sighting) : Probe :=
  { p with
    accums := p.accums.set h (a.accept hop p.record.depth x)
    leak := if hop.role = .guarded ∧ x.level.isSome ∧ p.leak = none then some h else p.leak }

theorem offerLook_ignored {r : Fin 16} {p : Probe} {h : Nat} {hop : Hop} {a : Accumulator} {x : Sighting} {d : Device}
    (accum : p.accums[h]? = some a) (ignored : lookIgnored a p.record.looks x = true) : offerLook r p h hop x d = d := by
  unfold offerLook
  rw [accum]
  exact if_pos ignored

/-- An accepted look is recorded, its leak journaled, and a probe it completes is completed early. -/
theorem offerLook_accepts {r : Fin 16} {p : Probe} {h : Nat} {hop : Hop} {a : Accumulator} {x : Sighting} {d : Device}
    (accum : p.accums[h]? = some a) (taken : lookIgnored a p.record.looks x = false) :
    ∃ j v c, offerLook r p h hop x d =
      (fun y => if (Accepted p h hop a x).complete = true then completeEarly r (Accepted p h hop a x) y else y)
        { d.setRecord r (some (Accepted p h hop a x)) with journal := j, dma := v, regs := { d.regs with irqCause := c } } := by
  have leak : makesLeak p hop x = decide (hop.role = .guarded ∧ x.level.isSome ∧ p.leak = none) := by
    unfold makesLeak; cases p.leak <;> simp [Bool.beq_eq_decide_eq]
  have accepted : (if makesLeak p hop x then { p.look h hop a x with leak := some h } else p.look h hop a x) =
      Accepted p h hop a x := by
    rw [leak, Accepted]
    by_cases c : hop.role = .guarded ∧ x.level.isSome ∧ p.leak = none <;> simp [c, Probe.look]
  unfold offerLook
  rw [accum]
  dsimp only
  rw [if_neg (by rw [taken]; simp), accepted]
  by_cases c : makesLeak p hop x = true
  · obtain ⟨j, v, cause, journaled⟩ := journalRequest_frame { findingEntry .leak p x with second := h } none
      (d.setRecord r (some (Accepted p h hop a x)))
    exact ⟨j, v, cause, by rw [if_pos c, journaled]; rfl⟩
  · exact ⟨d.journal, d.dma, d.regs.irqCause, by rw [if_neg c]; rfl⟩

/-- Early completion is the evaluation of the record, in a device whose GRACE entry of the tone is ended where it was in GRACE. -/
theorem completeEarly_evaluates (r : Fin 16) (p : Probe) (d : Device) : ∃ z, completeEarly r p d = evaluateRecord r p z ∧
    z.probes = d.probes ∧ (p.state ≠ .listening → z = endGrace p.tone r .ended d) := by
  unfold completeEarly
  split
  · next listening =>
    exact ⟨_, rfl, by simp [releaseTone, Device.setTone], fun bad => absurd listening bad⟩
  · obtain ⟨v, frame⟩ := endGrace_frame p.tone r .ended d
    exact ⟨_, rfl, by rw [frame], fun _ => rfl⟩

theorem offerLook_others {r q : Fin 16} (p : Probe) (h : Nat) (hop : Hop) (x : Sighting) (d : Device) (other : q ≠ r) :
    (offerLook r p h hop x d).probes.records[q] = d.probes.records[q] := by
  have written (v : Option Probe) : (d.setRecord r v).probes.records[q] = d.probes.records[q] :=
    (vec_set_get ..).trans (if_neg other)
  cases accum : p.accums[h]? with
  | none => unfold offerLook; rw [accum]
  | some a =>
    by_cases ignored : lookIgnored a p.record.looks x = true
    · rw [offerLook_ignored accum ignored]
    · obtain ⟨j, v, c, eq⟩ := offerLook_accepts (r := r) (hop := hop) (d := d) accum (Bool.eq_false_iff.2 ignored)
      rw [eq]
      dsimp only
      split
      · obtain ⟨z, evaluates, probes, _⟩ := completeEarly_evaluates r (Accepted p h hop a x)
          { d.setRecord r (some (Accepted p h hop a x)) with journal := j, dma := v, regs := { d.regs with irqCause := c } }
        rw [evaluates, evaluateRecord_records, if_neg other, probes]
        exact written _
      · exact written _

section
variable {r : Fin 16} {p : Probe} {h : Nat} {hop : Hop} {a : Accumulator} {x : Sighting} {d : Device}
  (accum : p.accums[h]? = some a) (taken : lookIgnored a p.record.looks x = false)
  (complete : (Accepted p h hop a x).complete = true)
include accum taken complete

/-- A look that completes its probe evaluates the record with the look in it. -/
theorem offerLook_completes : evaluated d (offerLook r p h hop x d) r (Accepted p h hop a x) ∧
    (p.state = .listening → stopsIssued d (offerLook r p h hop x d) (fun c => c = p.ctx)) ∧
    (p.state ≠ .listening → (offerLook r p h hop x d).launch.issued = d.launch.issued) ∧
    (offerLook r p h hop x d).launch.contexts[p.ctx].owner ≠ some r ∧
    (p.state = .listening →
      (offerLook r p h hop x d).tones[p.tone] = .quarantined ⟨d.rounds.number, some r, .ended, p.lastListen, false⟩ ∧
      (d.launch.contexts[p.ctx].state = .on → (offerLook r p h hop x d).launch.contexts[p.ctx].state = .stopping)) ∧
    (∀ z, p.state = .grace → d.tones[p.tone] = .quarantined z → z.holder = some r → z.status = .grace →
      (offerLook r p h hop x d).tones[p.tone] = .quarantined { z with status := .ended }) := by
  obtain ⟨judged, stopped, still⟩ := (offerLook_does r p h hop a x d _ accum taken rfl).2 complete
  obtain ⟨j, v, c, eq⟩ := offerLook_accepts (r := r) (hop := hop) (d := d) accum taken
  dsimp only at eq
  rw [if_pos complete] at eq
  generalize hy : ({ d.setRecord r (some (Accepted p h hop a x)) with
    journal := j, dma := v, regs := { d.regs with irqCause := c } } : Device) = y at eq
  have tones : y.tones = d.tones := by rw [← hy]; rfl
  obtain ⟨z, evaluates, _, ends⟩ := completeEarly_evaluates r (Accepted p h hop a x) y
  have owner := (evaluateRecord_contexts r (Accepted p h hop a x) z).1
  refine ⟨judged, fun s => (stopped s).1, fun s => (still s).issued, ?_, fun s => ⟨(stopped s).2, fun on => ?_⟩,
    fun w grace tone holder status => ?_⟩
  · rw [eq, evaluates]; exact owner
  · exact (((stopped s).1.2.2.1 p.ctx).1 ⟨rfl, on⟩).1
  · have other : (Accepted p h hop a x).state ≠ .listening := by show p.state ≠ _; rw [grace]; simp
    rw [eq, evaluates, (evaluateRecord_keeps _ _ _).2.2.2.2.2.2.2.2.2.1, ends other]
    exact endGrace_tone (t := p.tone) (by rw [tones]; exact tone) holder status

end

/-! ### Answers -/

/-- The hop at a location in bypass mode is the first one there. -/
theorem bypassHop_first {p : Probe} {l : Location} {h : Nat} {hop : Hop} (at_ : p.record.hops[h]? = some hop) (loc : hop.loc = l)
    (first : ∀ j hj, j < h → p.record.hops[j]? = some hj → hj.loc ≠ l) : bypassHop p l = some (h, hop) := by
  have found : p.record.hops.zipIdx.find? (fun (h, _) => h.loc == l) = some (hop, h) := by
    rw [List.find?_eq_some_iff_getElem]
    obtain ⟨inside, eq⟩ := List.getElem?_eq_some_iff.1 at_
    refine ⟨by simpa using loc, h, by simpa using inside, by simp [eq], fun j below => ?_⟩
    have present : p.record.hops[j]? = some p.record.hops[j] := List.getElem?_eq_getElem (by omega)
    simpa using first j _ below present
  unfold bypassHop
  rw [found]
  rfl

theorem bypassHop_none {p : Probe} {l : Location} (h : ∀ hop ∈ p.record.hops, hop.loc ≠ l) : bypassHop p l = none := by
  have missing : p.record.hops.zipIdx.find? (fun (h, _) => h.loc == l) = none := by
    rw [List.find?_eq_none]
    rintro ⟨hop, i⟩ mem
    have here := List.mem_of_getElem? (List.mk_mem_zipIdx_iff_getElem?.1 mem)
    simpa using h hop here
  unfold bypassHop
  rw [missing]
  rfl

section
variable {r : Fin 16} {p : Probe} {x : Sighting} {d : Device}

/-- An answer that confirms the probe's own hop offers the look. -/
theorem applyAnswer_confirms {h : Nat} {hop : Hop} (at_ : p.record.hops[h]? = some hop) (loc : hop.loc = x.loc) :
    applyAnswer r p x (.expect p.circuit h hop.role.code hop.powerCheck) d = offerLook r p h hop x d := by
  have confirms : confirmsHop hop x hop.role.code hop.powerCheck = true := by simp [confirmsHop, loc]
  unfold applyAnswer
  dsimp only
  rw [if_pos rfl, at_]
  exact if_pos confirms

/-- An answer of the probe's circuit that names no hop of the probe there is unclassified. -/
theorem applyAnswer_unclassified {h : Nat} {role : Byte} {power : Bool}
    (none : ∀ hop, p.record.hops[h]? = some hop → ¬(hop.loc = x.loc ∧ hop.role.code = role ∧ hop.powerCheck = power)) :
    applyAnswer r p x (.expect p.circuit h role power) d = takeUnclassified p x d := by
  unfold applyAnswer
  dsimp only
  rw [if_pos rfl]
  split
  · next hop at_ =>
    refine if_neg fun confirms => none hop at_ ?_
    simpa [confirmsHop, and_assoc] using confirms
  · rfl

theorem applyAnswer_other {c h : Nat} {role : Byte} {power : Bool} (other : c ≠ p.circuit) :
    applyAnswer r p x (.expect c h role power) d = if x.level.isSome = true then takeCross r p c x d else d := by
  unfold applyAnswer
  exact if_neg other

theorem takeCross_record {c : Nat} (first : p.cross = none) :
    (takeCross r p c x d).probes.records[r] = some { p with cross := some c } := by
  rw [takeCross, if_neg (by simp [first]), (journalRequest_keeps _ _ _).2.2.2.2.2.2.2.2.1]
  exact (vec_set_get ..).trans (if_pos rfl)

theorem takeMisroute_record (first : p.misroute = none) :
    (takeMisroute r p x d).probes.records[r] = some { p with misroute := some x.loc } := by
  rw [takeMisroute, if_neg (by simp [first]), (journalRequest_keeps _ _ _).2.2.2.2.2.2.2.2.1]
  exact (vec_set_get ..).trans (if_pos rfl)

theorem takeCross_again {c : Nat} (again : p.cross.isSome) : takeCross r p c x d = d := if_pos again

theorem takeMisroute_again (again : p.misroute.isSome) : takeMisroute r p x d = d := if_pos again

theorem setRecord_others {q : Fin 16} (v : Option Probe) (other : q ≠ r) :
    (d.setRecord r v).probes.records[q] = d.probes.records[q] := (vec_set_get ..).trans (if_neg other)

theorem others_of_probes {d e : Device} {q : Fin 16} (h : e.probes = d.probes) :
    e.probes.records[q] = d.probes.records[q] := congrArg (fun t : ProbeTable => t.records[q]) h

theorem takeUnclassified_others (q : Fin 16) : (takeUnclassified p x d).probes.records[q] = d.probes.records[q] :=
  others_of_probes (by simp)

theorem takeCross_others {q : Fin 16} (c : Nat) (other : q ≠ r) :
    (takeCross r p c x d).probes.records[q] = d.probes.records[q] := by
  by_cases again : p.cross.isSome = true
  · rw [takeCross_again again]
  · have journaled : (takeCross r p c x d).probes = (d.setRecord r (some { p with cross := some c })).probes := by
      rw [takeCross, if_neg again]; simp
    exact (others_of_probes journaled).trans (setRecord_others _ other)

theorem takeMisroute_others {q : Fin 16} (other : q ≠ r) :
    (takeMisroute r p x d).probes.records[q] = d.probes.records[q] := by
  by_cases again : p.misroute.isSome = true
  · rw [takeMisroute_again again]
  · have journaled : (takeMisroute r p x d).probes = (d.setRecord r (some { p with misroute := some x.loc })).probes := by
      rw [takeMisroute, if_neg again]; simp
    exact (others_of_probes journaled).trans (setRecord_others _ other)

/-- An answer leaves the other records. -/
theorem applyAnswer_others {q : Fin 16} (ans : Answer) (other : q ≠ r) :
    (applyAnswer r p x ans d).probes.records[q] = d.probes.records[q] := by
  unfold applyAnswer
  split
  · split
    · split
      · split
        · exact offerLook_others _ _ _ _ _ other
        · exact takeUnclassified_others q
      · exact takeUnclassified_others q
    · split
      · exact takeCross_others _ other
      · rfl
  · split
    · exact takeMisroute_others other
    · rfl

theorem applyBypass_others {q : Fin 16} (other : q ≠ r) : (applyBypass r p x d).probes.records[q] = d.probes.records[q] := by
  unfold applyBypass
  split
  · exact offerLook_others _ _ _ _ _ other
  · exact takeUnclassified_others q

end

end Sys2Proof.Machine.Answers

/-! ## Departures and the classifier's turn (5.8, 8.2 to 8.5) -/

namespace Sys2Proof.Machine.Classification
open Completions SettingsInForce Replies RoundTimer RoundStarts PeerFrames LookEnds Answers

/-! ### HOLDING detectors served at a departure -/

theorem lowestHolding_above {d : Device} {i j : Fin 4} {xs : List Sighting} (h : d.taps.detectors[i] = .holding xs)
    (above : i < j) : lowestHolding d j = false := by
  unfold lowestHolding
  rw [List.all_eq_false]
  refine ⟨i, List.mem_finRange i, ?_⟩
  rw [h, decide_eq_false (by omega)]
  simp [Detector.isHolding]

theorem serveInTurn_above {d : Device} {i j : Fin 4} {xs : List Sighting} (h : d.taps.detectors[i] = .holding xs)
    (above : i < j) : serveInTurn d j = d := by
  rw [serveInTurn, lowestHolding_above h above]
  rfl

/-- What the share has no room for stays with the lowest HOLDING detector, and the others wait behind it. -/
theorem serveHolding_overflows {d : Device} {i : Fin 4} {xs : List Sighting} (h : d.taps.detectors[i] = .holding xs)
    (lowest : ∀ (j : Fin 4) ys, j < i → d.taps.detectors[j] ≠ .holding ys) (full : localRoom d < xs.length) :
    serveHolding d = (pushQueue (xs.take (localRoom d)) d).setDetector i (.holding (xs.drop (localRoom d))) := by
  have turn : serveInTurn d i = (pushQueue (xs.take (localRoom d)) d).setDetector i (.holding (xs.drop (localRoom d))) := by
    rw [serveInTurn, if_pos (lowestHolding_of d i lowest), serveDetector_overflows h (by omega)]
  have still : (serveInTurn d i).taps.detectors[i] = .holding (xs.drop (localRoom d)) := by
    rw [turn]; exact (setDetector_detectors ..).trans (if_pos rfl)
  rw [← turn]
  have below (j : Fin 4) (lower : j < i) : serveInTurn d j = d := serveInTurn_idle d j fun ys => lowest j ys lower
  have above (j : Fin 4) (higher : i < j) : serveInTurn (serveInTurn d i) j = serveInTurn d i := serveInTurn_above still higher
  clear turn still h lowest full
  rw [serveHolding_spelled]
  have four : i = 0 ∨ i = 1 ∨ i = 2 ∨ i = 3 := by omega
  rcases four with rfl | rfl | rfl | rfl
  · rw [above 1 (by decide), above 2 (by decide), above 3 (by decide)]
  · rw [below 0 (by decide), above 2 (by decide), above 3 (by decide)]
  · rw [below 0 (by decide), below 1 (by decide), above 3 (by decide)]
  · rw [below 0 (by decide), below 1 (by decide), below 2 (by decide)]

theorem serveInTurn_unholding {i : Fin 4} (d : Device) (j : Fin 4) (h : ∀ ys, d.taps.detectors[i] ≠ .holding ys) :
    ∀ ys, (serveInTurn d j).taps.detectors[i] ≠ .holding ys := by
  by_cases same : i = j
  · rw [← same, serveInTurn_idle d i h]; exact h
  · intro ys holds
    unfold serveInTurn at holds
    split at holds
    · exact h ys ((serveDetector_others same).symm.trans holds)
    · exact h ys holds

theorem serveHolding_unholding {i : Fin 4} (d : Device) (h : ∀ ys, d.taps.detectors[i] ≠ .holding ys) :
    ∀ ys, (serveHolding d).taps.detectors[i] ≠ .holding ys := by
  rw [serveHolding_spelled]
  exact serveInTurn_unholding _ 3 (serveInTurn_unholding _ 2 (serveInTurn_unholding _ 1 (serveInTurn_unholding d 0 h)))

theorem serveHolding_idle {d : Device} (h : ∀ (i : Fin 4) (xs : List Sighting), d.taps.detectors[i] ≠ .holding xs) :
    serveHolding d = d := by
  rw [serveHolding_spelled, serveInTurn_idle d 0 (h 0), serveInTurn_idle d 1 (h 1), serveInTurn_idle d 2 (h 2),
    serveInTurn_idle d 3 (h 3)]

/-- The lowest HOLDING detector holds none and takes work, and the next one has the room that remains. -/
theorem serveHolding_empties {d : Device} {i : Fin 4} {xs : List Sighting} (h : d.taps.detectors[i] = .holding xs)
    (lowest : ∀ (j : Fin 4) (ys : List Sighting), j < i → d.taps.detectors[j] ≠ .holding ys) (fits : xs.length ≤ localRoom d) :
    (∀ ys, (serveHolding d).taps.detectors[i] ≠ .holding ys) ∧
    ∃ e, takesWork { d with
        classifier := { d.classifier with queue := d.classifier.queue ++ xs.map (fun x => ⟨x, none, none⟩) }
        taps := { d.taps with detectors := d.taps.detectors.set i .idle } } e i ∧
      e.classifier.queue = d.classifier.queue ++ xs.map (fun x => ⟨x, none, none⟩) ∧
      (∀ j : Fin 4, j ≠ i → e.taps.detectors[j] = d.taps.detectors[j]) ∧ serveHolding d = serveHolding e ∧
      ((∀ (j : Fin 4) (ys : List Sighting), j ≠ i → d.taps.detectors[j] ≠ .holding ys) → serveHolding d = e) := by
  have next := serveHolding_next d i xs h lowest fits
  obtain ⟨_, _, _, others, own⟩ := takeWork_taps (emptied d i xs) i
  have rest (j : Fin 4) (other : j ≠ i) : (takeWork (emptied d i xs) i).taps.detectors[j] = d.taps.detectors[j] :=
    (others j other).trans ((vec_set_get ..).trans (if_neg other))
  have free (ys : List Sighting) : (takeWork (emptied d i xs) i).taps.detectors[i] ≠ .holding ys := fun holds =>
    absurd ((show (emptied d i xs).taps.detectors[i] = .idle from (vec_set_get ..).trans (if_pos rfl)).symm.trans (own ys holds))
      (by simp)
  refine ⟨by rw [next]; exact serveHolding_unholding _ free, _, takeWork_takes (emptied d i xs) i, by simp, rest, next, fun none => ?_⟩
  rw [next]
  refine serveHolding_idle fun j ys => ?_
  by_cases same : j = i
  · rw [same]; exact free ys
  · rw [rest j same]; exact none j ys same

theorem depart_remote {i : Nat} {e : QueueEntry} {d : Device} (at_ : d.classifier.queue[i]? = some e)
    (remote : e.sighting.source.isSome) : depart i d = d.setQueue (d.classifier.queue.eraseIdx i) := by
  unfold depart
  rw [at_]
  exact if_neg (Option.isSome_iff_ne_none.1 remote)

theorem depart_local {i : Nat} {e : QueueEntry} {d : Device} (at_ : d.classifier.queue[i]? = some e)
    (here : e.sighting.source = none) : depart i d = serveHolding (d.setQueue (d.classifier.queue.eraseIdx i)) := by
  unfold depart
  rw [at_]
  exact if_pos here

/-! ### An entry presented -/

theorem classifyNext_idle {d : Device} (h : d.leading = false ∨ d.classifier.stalled = true ∨ nextEntry d = none) :
    classifyNext d = d := by
  unfold classifyNext
  rcases h with off | stalled | none
  · rw [off]; rfl
  · rw [stalled]; simp
  · rw [none]; exact ite_self _

theorem classifyNext_presents {d : Device} {i : Nat} (leading : d.leading = true) (idle : d.classifier.stalled = false)
    (next : nextEntry d = some i) : classifyNext d = presentEntry i d := by
  unfold classifyNext
  rw [leading, idle, next]
  rfl

/-- An entry that a check decides departs with what the check does. -/
theorem presentEntry_decided {i : Nat} {e : QueueEntry} {d : Device} (at_ : d.classifier.queue[i]? = some e)
    (decided : ∀ r p, checkEntry d e.sighting ≠ .pass r p) :
    presentEntry i d = depart i (applyChecked e.sighting (checkEntry d e.sighting) d) := by
  unfold presentEntry
  rw [at_]
  dsimp only
  split
  · next r p pass => exact absurd pass (decided r p)
  · rfl

/-- An entry that passes is given its memo and translated. -/
theorem presentEntry_passes {i : Nat} {e : QueueEntry} {d : Device} {r : Fin 16} {p : Probe}
    (at_ : d.classifier.queue[i]? = some e) (pass : checkEntry d e.sighting = .pass r p) {e' : QueueEntry}
    (memo : e' = { e with memo := some (memoOf r p) }) : presentEntry i d = translateEntry i e' r p (setEntry i e' d) := by
  unfold presentEntry
  rw [at_, memo]
  dsimp only
  rw [pass]

/-- What a check before translation does. -/
theorem applyChecked_does (x : Sighting) (o : Checked) (decided : ∀ r p, o ≠ .pass r p) (d : Device) {y : Device}
    (h : y = applyChecked x o d) :
    y.probes = d.probes ∧
    y.classifier = { d.classifier with
      stale := d.classifier.stale + (if o = .stale then 1#32 else 0#32)
      lateTone := d.classifier.lateTone + (if o = .lateTone then 1#32 else 0#32)
      stray := d.classifier.stray + (if o = .stray then 1#32 else 0#32) } ∧
    ((o = .stale ∨ o = .lateTone ∨ o = .stray) →
      writeShown d y .sightingCounters (boardAddr d 0x40) (sightingCounterBytes y.classifier)) ∧
    (∀ p, o = .late p → y = countSlot .late p.slot p.generation d) ∧
    (∀ p, o = .outOfReach p → y = countSlot .outOfReach p.slot p.generation d) ∧
    ((∀ p, o ≠ .late p ∧ o ≠ .outOfReach p) → y.slots = d.slots) := by
  have kept : ({ d.classifier with
      stale := d.classifier.stale + 0#32, lateTone := d.classifier.lateTone + 0#32, stray := d.classifier.stray + 0#32 } : Classifier) =
      d.classifier := by simp
  rw [h]
  cases o with
  | stale =>
    obtain ⟨classifier, probes, slots, due⟩ := countHeader_does .stale d
    refine ⟨probes, ?_, fun _ => due, fun _ bad => (by cases bad), fun _ bad => (by cases bad), fun _ => slots⟩
    exact classifier.trans (by simp [Classifier.count])
  | lateTone =>
    obtain ⟨classifier, probes, slots, due⟩ := countHeader_does .lateTone d
    refine ⟨probes, ?_, fun _ => due, fun _ bad => (by cases bad), fun _ bad => (by cases bad), fun _ => slots⟩
    exact classifier.trans (by simp [Classifier.count])
  | stray =>
    obtain ⟨classifier, probes, slots, due⟩ := takeStray_does x d
    refine ⟨probes, ?_, fun _ => due, fun _ bad => (by cases bad), fun _ bad => (by cases bad), fun _ => slots⟩
    exact classifier.trans (by simp [Classifier.count])
  | silent =>
    exact ⟨rfl, kept.symm, (by rintro (bad | bad | bad) <;> cases bad), fun _ bad => (by cases bad), fun _ bad => (by cases bad), fun _ => rfl⟩
  | late p =>
    refine ⟨(countSlot_keeps _ _ _ d).2.2.2.2.2.2.2.2.1, (countSlot_keeps _ _ _ d).2.2.2.2.2.2.2.2.2.2.2.2.2.2.2.2.2.1.trans kept.symm,
      (by rintro (bad | bad | bad) <;> cases bad), fun _ same => (by cases same; rfl), fun _ bad => (by cases bad), fun none => absurd rfl (none p).1⟩
  | outOfReach p =>
    refine ⟨(countSlot_keeps _ _ _ d).2.2.2.2.2.2.2.2.1, (countSlot_keeps _ _ _ d).2.2.2.2.2.2.2.2.2.2.2.2.2.2.2.2.2.1.trans kept.symm,
      (by rintro (bad | bad | bad) <;> cases bad), fun _ bad => (by cases bad), fun _ same => (by cases same; rfl), fun none => absurd rfl (none p).2⟩
  | pass r p => exact absurd rfl (decided r p)

/-- A hit, or bypass mode, answers an entry before it departs. -/
theorem translateEntry_answers {i : Nat} {e : QueueEntry} {r : Fin 16} {p : Probe} {d : Device}
    (answered : d.slots[p.slot].desc.directoryBase = 0 ∨ (d.areas[p.slot].lookup e.sighting.loc).isSome) :
    ∃ x, translateEntry i e r p d = depart i x ∧
      (d.slots[p.slot].desc.directoryBase = 0 → x = applyBypass r p e.sighting d) ∧
      (d.slots[p.slot].desc.directoryBase ≠ 0 → ∀ ans, d.areas[p.slot].lookup e.sighting.loc = some ans →
        x = applyAnswer r p e.sighting ans d) := by
  unfold translateEntry
  by_cases bypass : d.slots[p.slot].desc.directoryBase = 0
  · rw [if_pos bypass]
    exact ⟨_, rfl, fun _ => rfl, fun bad => absurd bypass bad⟩
  · rw [if_neg bypass]
    obtain ⟨ans, hit⟩ := Option.isSome_iff_exists.1 (answered.resolve_left bypass)
    rw [hit]
    exact ⟨_, rfl, fun bad => absurd bad bypass, fun _ other same => by cases same; rfl⟩

theorem translateEntry_misses {i : Nat} {e : QueueEntry} {r : Fin 16} {p : Probe} {d : Device}
    (translated : d.slots[p.slot].desc.directoryBase ≠ 0) (miss : d.areas[p.slot].lookup e.sighting.loc = none) :
    translateEntry i e r p d = missEntry i e p.slot d := by
  unfold translateEntry
  rw [if_neg translated, miss]

/-- The three ways of a miss. -/
theorem missEntry_does {i : Nat} {e : QueueEntry} {area : Fin 8} {d : Device} (inside : i < d.classifier.queue.length)
    (can : canAccess d = true) {y : Device} (h : y = missEntry i e area d) :
    (∀ w, walkFor d area e.sighting.loc = some w → y.walks = d.walks ∧ y.classifier.stalled = d.classifier.stalled ∧
      y.classifier.queue[i]? = some { e with parked := some w }) ∧
    (∀ w, walkFor d area e.sighting.loc = none → freeWalk? d = some w →
      y.walks[w] = some ⟨.node, area, d.slots[area].generation, e.sighting.loc, 0, 0, 0, 0⟩ ∧
      y.classifier.queue[i]? = some { e with parked := some w } ∧ y.classifier.stalled = d.classifier.stalled ∧
      (∀ addr, addr = d.slots[area].desc.directoryBase + 8 * e.sighting.loc.node.val →
        inWindow d.iface.bounds addr 8 = true → inFlight y addr 8 (.walkRead w))) ∧
    (walkFor d area e.sighting.loc = none → freeWalk? d = none → y.walks = d.walks ∧ y.classifier.stalled = true) := by
  have placed (x : QueueEntry) : (setEntry i x d).classifier.queue[i]? = some x := List.getElem?_set_self inside
  rw [h]
  unfold missEntry
  refine ⟨fun w joined => ?_, fun w fresh free => ?_, fun fresh full => ?_⟩
  · rw [joined]
    exact ⟨rfl, rfl, placed _⟩
  · rw [fresh, free]
    dsimp only
    refine ⟨?_, ?_, by simp [startWalk, setEntry], fun addr at_ within => ?_⟩
    · rw [startWalk, (issueRead_keeps _ _ _ _).2.2.2.2.2.2.2.2.2.2.2.2.2.2.2.2.2.1]
      exact (vec_set_get ..).trans (if_pos rfl)
    · rw [(startWalk_keeps _ _ _ _).2.2.2.2.2.2.2.2.2.2.2.2.2.2.2.2.2.1]
      exact placed _
    · rw [at_] at within ⊢
      exact inFlight_issue can within
  · rw [fresh, full]
    exact ⟨rfl, rfl⟩

/-- What a hit or bypass mode leaves of a sighting's probe, offered look by offered look. -/
theorem offered_does {d m x : Device} {r : Fin 16} {p : Probe} {h : Nat} {hop : Hop} {a : Accumulator} {e : Sighting}
    (slots : m.slots = d.slots) (probes : m.probes = d.probes) (tones : m.tones = d.tones) (launch : m.launch = d.launch)
    (iface : m.iface = d.iface) (rounds : m.rounds = d.rounds) (accum : p.accums[h]? = some a)
    (offered : x = offerLook r p h hop e m) :
    x.slots = d.slots ∧
    (lookIgnored a p.record.looks e = true → x.probes = d.probes ∧ x.tones = d.tones) ∧
    (lookIgnored a p.record.looks e = false → ∀ q : Probe, q = Accepted p h hop a e →
      (q.complete = false → x.probes.records[r] = some q ∧ x.tones = d.tones ∧ x.launch = d.launch) ∧
      (q.complete = true → evaluated d x r q ∧
        (p.state = .listening → stopsIssued d x (fun c => c = p.ctx)) ∧
        (p.state ≠ .listening → x.launch.issued = d.launch.issued) ∧
        x.launch.contexts[p.ctx].owner ≠ some r ∧
        (p.state = .listening →
          x.tones[p.tone] = .quarantined ⟨d.rounds.number, some r, .ended, p.lastListen, false⟩ ∧
          (d.launch.contexts[p.ctx].state = .on → x.launch.contexts[p.ctx].state = .stopping)) ∧
        (∀ z, p.state = .grace → d.tones[p.tone] = .quarantined z → z.holder = some r → z.status = .grace →
          x.tones[p.tone] = .quarantined { z with status := .ended }))) := by
  refine ⟨by rw [offered, ← slots]; simp, fun ignored => ?_, fun taken q hq => ⟨fun incomplete => ?_, fun complete => ?_⟩⟩
  · rw [offered, offerLook_ignored accum ignored]
    exact ⟨probes, tones⟩
  · obtain ⟨record, bus, pool⟩ := (offerLook_does r p h hop a e m q accum taken hq).1 incomplete
    rw [offered]
    exact ⟨record, pool.trans tones, bus.trans launch⟩
  · have done := offerLook_completes (r := r) (hop := hop) (d := m) accum taken (by rw [← hq]; exact complete)
    rw [← offered, launch, tones, rounds, ← hq] at done
    obtain ⟨judged, stopped, still, owner, tone, grace⟩ := done
    refine ⟨judged.before (by rw [iface]) ?_ (by rw [slots]), fun s => ?_, still, owner, tone, grace⟩
    · unfold verdictWithheld canAccess
      rw [slots, iface]
    · exact (stopped s).sandwich (.of_eq launch) (.of_eq rfl) fun _ => Iff.rfl

/-- Settles O52, by what the checks decide and, where they pass, by what translation answers. -/
theorem classifySighting : Obligations.ClassifySighting := by
  refine ⟨fun s => ⟨fun idle => ?_, fun i e leading free next at_ => ?_⟩,
    fun d i e at_ => ⟨depart_remote at_, depart_local at_⟩, fun d => serveHolding_idle, fun d i xs holding lowest =>
      ⟨fun full => serveHolding_overflows holding (fun j ys => lowest j ys) full, serveHolding_empties holding lowest⟩⟩
  · show Host.Outcome.next { s with dev := settle (classifyNext s.dev) } = _
    rw [classifyNext_idle idle]
  have run : exec .classifySighting s = .next { s with dev := settle (presentEntry i s.dev) } := by
    rw [← classifyNext_presents leading free next]; rfl
  refine ⟨fun remote => ⟨presentEntry i s.dev, run, ?_⟩, fun decided => ?_, fun r p pass translated miss => ?_,
    fun r p pass answered => ?_⟩
  · by_cases decided : ∀ r p, checkEntry s.dev e.sighting ≠ .pass r p
    · have does := applyChecked_does e.sighting _ decided s.dev rfl
      rw [presentEntry_decided at_ decided]
      generalize hx : applyChecked e.sighting (checkEntry s.dev e.sighting) s.dev = x at does
      obtain ⟨probes, classifier, _, late, outOfReach, slots⟩ := does
      have queue : x.classifier.queue = s.dev.classifier.queue := by rw [classifier]
      rw [depart_remote (by rw [queue]; exact at_) remote, queue]
      refine ⟨fun o => ⟨?_, probes, slots fun p => by simp [o]⟩, fun o => ⟨?_, probes, slots fun p => by simp [o]⟩,
        fun o => ⟨?_, probes, slots fun p => by simp [o]⟩, fun o => ?_, fun p o => ⟨rfl, probes, fun same => ?_, fun other => ?_⟩,
        fun p o => ⟨rfl, probes, fun same => ?_⟩⟩
      · simp [Device.setQueue, classifier, o]
      · simp [Device.setQueue, classifier, o]
      · simp [Device.setQueue, classifier, o]
      · rw [← hx, o]; rfl
      · rw [late p o]
        exact congrArg Summary.lateDiscard (countSlot_summary same)
      · rw [late p o, countSlot_other other]
        rfl
      · rw [outOfReach p o]
        exact congrArg Summary.outOfReach (countSlot_summary same)
    · obtain ⟨r, p, pass⟩ : ∃ r p, checkEntry s.dev e.sighting = .pass r p := by simpa using decided
      simp [pass]
  · exact ⟨_, run.trans (by rw [presentEntry_decided at_ decided]), applyChecked_does e.sighting _ decided s.dev rfl⟩
  · have inside := (List.getElem?_eq_some_iff.1 at_).1
    have can : canAccess s.dev = true := canAccess_of_running (leading_iff.1 leading).1
    have missed : presentEntry i s.dev = missEntry i { e with memo := some (memoOf r p) } p.slot
        (setEntry i { e with memo := some (memoOf r p) } s.dev) := by
      rw [presentEntry_passes at_ pass rfl]
      exact translateEntry_misses (d := setEntry i { e with memo := some (memoOf r p) } s.dev) translated miss
    obtain ⟨joins, begins, stalls⟩ := missEntry_does (d := setEntry i { e with memo := some (memoOf r p) } s.dev)
      (by simpa [setEntry, Device.setQueue] using inside) can missed
    refine ⟨_, run, by rw [missed]; simp, by rw [missed]; simp, fun w walk => ?_, fun w none walk => ?_, stalls⟩
    · obtain ⟨walks, stalled, entry⟩ := joins w walk
      exact ⟨walks, stalled.trans free, entry⟩
    · obtain ⟨record, entry, stalled, read⟩ := begins w none walk
      exact ⟨record, entry, stalled.trans free, read⟩
  · have passed := presentEntry_passes at_ pass rfl
    generalize hm : setEntry i { e with memo := some (memoOf r p) } s.dev = m at passed
    have frame : m.slots = s.dev.slots ∧ m.areas = s.dev.areas ∧ m.probes = s.dev.probes ∧ m.tones = s.dev.tones ∧
        m.launch = s.dev.launch ∧ m.iface = s.dev.iface ∧ m.rounds = s.dev.rounds ∧ m.walks = s.dev.walks ∧
        m.classifier = { s.dev.classifier with
          queue := s.dev.classifier.queue.set i { e with memo := some ⟨r, p.slot, p.generation, p.circuit⟩ } } := by
      rw [← hm]; exact ⟨rfl, rfl, rfl, rfl, rfl, rfl, rfl, rfl, rfl⟩
    obtain ⟨slots, areas, probes, tones, launch, iface, rounds, walks, classifier⟩ := frame
    obtain ⟨x, departs, bypass, hit⟩ := translateEntry_answers (i := i) (e := { e with memo := some (memoOf r p) }) (r := r) (p := p)
      (d := m) (by rw [slots, areas]; exact answered)
    rw [slots] at bypass hit
    rw [areas] at hit
    have either : x = applyBypass r p e.sighting m ∨ ∃ ans, x = applyAnswer r p e.sighting ans m := by
      by_cases zero : s.dev.slots[p.slot].desc.directoryBase = 0
      · exact .inl (bypass zero)
      · obtain ⟨ans, looked⟩ := Option.isSome_iff_exists.1 (answered.resolve_left zero)
        exact .inr ⟨ans, hit zero ans looked⟩
    have kept : x.classifier = m.classifier ∧ x.areas = m.areas ∧ x.walks = m.walks ∧
        ∀ q : Fin 16, q ≠ r → x.probes.records[q] = m.probes.records[q] := by
      rcases either with eq | ⟨ans, eq⟩ <;> rw [eq]
      · exact ⟨by simp, by simp, by simp, fun q => applyBypass_others⟩
      · exact ⟨by simp, by simp, by simp, fun q => applyAnswer_others ans⟩
    obtain ⟨classifier', areas', walks', others⟩ := kept
    refine ⟨x, run.trans (by rw [passed, departs]), classifier'.trans classifier, fun q other => ?_, areas'.trans areas,
      walks'.trans walks, fun h hop a hopAt accum loc way => ?_, fun way => ?_, fun c h role power translated other answer => ?_,
      fun translated answer => ?_⟩
    · exact (others q other).trans (others_of_probes probes)
    · refine offered_does slots probes tones launch iface rounds accum ?_
      rcases way with ⟨zero, first⟩ | ⟨translated, answer⟩
      · rw [bypass zero, applyBypass, bypassHop_first hopAt loc first]
      · rw [hit translated _ answer, applyAnswer_confirms hopAt loc]
    · have unclassified : x = takeUnclassified p e.sighting m := by
        rcases way with ⟨zero, none⟩ | ⟨h, role, power, translated, answer, none⟩
        · rw [bypass zero, applyBypass, bypassHop_none none]
        · rw [hit translated _ answer, applyAnswer_unclassified none]
      refine ⟨by rw [unclassified, ← probes]; simp, fun quiet => ?_, fun found same => ?_⟩
      · rw [unclassified, takeUnclassified, ← slots]
        rcases quiet with empty | other
        · rw [if_neg (by simp [empty])]
        · rw [countSlot_other (by rw [slots]; exact other), ite_self]
      · rw [unclassified, takeUnclassified, if_pos found, countSlot_summary (by rw [slots]; exact same), slots]
        rfl
    · have crossed : x = if e.sighting.level.isSome = true then takeCross r p c e.sighting m else m := by
        rw [hit translated _ answer, applyAnswer_other other]
      rw [crossed]
      refine ⟨?_, fun found first => ?_, fun quiet => ?_⟩
      · split
        · rw [← slots]; simp
        · exact slots
      · rw [if_pos found]; exact takeCross_record first
      · rw [← probes]
        rcases quiet with empty | again
        · rw [if_neg (by simp [empty])]
        · rw [takeCross_again again, ite_self]
    · have misrouted : x = if e.sighting.level.isSome = true then takeMisroute r p e.sighting m else m :=
        hit translated _ answer
      rw [misrouted]
      refine ⟨?_, fun found first => ?_, fun quiet => ?_⟩
      · split
        · rw [← slots]; simp
        · exact slots
      · rw [if_pos found]; exact takeMisroute_record first
      · rw [← probes]
        rcases quiet with empty | again
        · rw [if_neg (by simp [empty])]
        · rw [takeMisroute_again again, ite_self]

end Sys2Proof.Machine.Classification

/-! ## Walk reads, fills and hand-back (7.1, 7.3 to 7.6, 8.2 to 8.5) -/

namespace Sys2Proof.Machine.WalkReads
open Completions SettingsInForce Replies RoundTimer RoundStarts WalkEnds Slots Answers Classification

/-! ### A walk's next step -/

section
variable {w : Fin 4} {k : Walk} {b : List Byte} {d : Device}

/-- A zero pointer, or an absent slot entry, ends a walk with NONE. -/
theorem advanceWalk_nothing
    (h : (k.state = .node ∨ k.state = .port) ∧ u64 b 0 = 0 ∨ k.state = .slot ∧ (word b 0).getLsbD 31 = false) :
    advanceWalk w k b d = endWithAnswer w k .nothing d := by
  unfold advanceWalk
  rcases h with ⟨node | port, zero⟩ | ⟨slot, absent⟩
  · rw [node]; exact if_pos zero
  · rw [port]; exact if_pos zero
  · rw [slot]; exact if_neg (by rw [absent]; simp)

/-- A circuit record whose hop lies at the walk's location ends it with that hop. -/
theorem advanceWalk_confirms (circuit : k.state = .circuit) (named : k.hop < u8 b 7) (at_ : hopAt b k.hop k.key = true) :
    advanceWalk w k b d =
      endWithAnswer w k (.expect k.circuit k.hop (byteAt b (19 + 16 * k.hop)) (bitAt b (20 + 16 * k.hop) 0)) d := by
  unfold advanceWalk judgeCircuit
  rw [circuit]
  dsimp only
  rw [if_neg (by omega), if_pos at_]

/-- An inconsistency drains the slot for PLAN_ERROR, its journal entry naming what was read. -/
theorem advanceWalk_faults
    (h : (k.state = .node ∧ u64 b 0 ≠ 0 ∧ pointerOk d.iface.bounds (u64 b 0) 256 = false) ∨
      (k.state = .port ∧ u64 b 0 ≠ 0 ∧ pointerOk d.iface.bounds (u64 b 0) 384 = false) ∨
      (k.state = .slot ∧ (word b 0).getLsbD 31 = true ∧ d.slots[k.area].desc.count ≤ slotEntryCircuit b) ∨
      (k.state = .circuit ∧ (u8 b 7 ≤ k.hop ∨ hopAt b k.hop k.key = false))) :
    ∃ f, advanceWalk w k b d = endWithFault w k f d ∧ planErrorOf k b (planErrorEntry k f) := by
  unfold advanceWalk judgeCircuit
  rcases h with ⟨node, some_, bad⟩ | ⟨port, some_, bad⟩ | ⟨slot, present, bad⟩ | ⟨circuit, bad⟩
  · refine ⟨.badPointer 1, ?_, by simp [planErrorOf, planErrorEntry, JournalEntry.blank, node]⟩
    rw [node]
    dsimp only
    rw [if_neg some_, if_neg (by rw [bad]; simp)]
  · refine ⟨.badPointer 2, ?_, by simp [planErrorOf, planErrorEntry, JournalEntry.blank, port]⟩
    rw [port]
    dsimp only
    rw [if_neg some_, if_neg (by rw [bad]; simp)]
  · refine ⟨.badIndex (slotEntryCircuit b) (slotEntryHop b), ?_, by simp [planErrorOf, planErrorEntry, JournalEntry.blank, slot]⟩
    rw [slot]
    dsimp only
    rw [if_pos present, if_neg (by omega)]
  · by_cases short : u8 b 7 ≤ k.hop
    · refine ⟨.badHop k.circuit k.hop, ?_, by simp [planErrorOf, planErrorEntry, JournalEntry.blank, circuit, short]⟩
      rw [circuit]
      exact if_pos short
    · refine ⟨.badLocation k.circuit k.hop, ?_, by simp [planErrorOf, planErrorEntry, JournalEntry.blank, circuit, short]⟩
      rw [circuit]
      dsimp only
      rw [if_neg short, if_neg (by rw [bad.resolve_left short]; simp)]

end

/-- A walk that ends with an answer fills it where it may, and hands its sightings back. -/
theorem endWithAnswer_ends (w : Fin 4) (k : Walk) (ans : Answer) (d : Device) :
    (mayFill d k = true → (endWithAnswer w k ans d).areas[k.area].lookup k.key = some ans) ∧
    (mayFill d k = false → (endWithAnswer w k ans d).areas = d.areas) ∧
    endsWalk w (if d.slots[k.area].generation = k.generation then some ans else none)
      (if mayFill d k = true then { d with areas := d.areas.set k.area (d.areas[k.area].fill k.key ans) } else d)
      (endWithAnswer w k ans d) := by
  have areas : (endWithAnswer w k ans d).areas =
      (if mayFill d k then d.setArea k.area (d.areas[k.area].fill k.key ans) else d).areas := by
    simp [endWithAnswer]
  refine ⟨fun may => ?_, fun may => ?_, releaseWalk_ends _ _ _⟩
  · rw [if_pos may] at areas
    have filled : (endWithAnswer w k ans d).areas[k.area] = d.areas[k.area].fill k.key ans :=
      (congrArg (fun v : Vector Area 8 => v[k.area]) areas).trans ((vec_set_get ..).trans (if_pos rfl))
    rw [filled]
    exact Area.lookup_fill _ _ _
  · rw [areas, if_neg (by rw [may]; simp)]

/-- A walk that ends with an inconsistency drains its slot. -/
theorem endWithFault_ends (w : Fin 4) (k : Walk) (f : PlanFault) (d : Device) :
    (endWithFault w k f d).areas = d.areas ∧
    endsWalk w none (journalRequest (planErrorEntry k f) (some (.planError k.area.val)) (drainSlot k.area .planError d))
      (endWithFault w k f d) ∧
    ((d.slots[k.area].state = .running ∨ d.slots[k.area].state = .suspended) →
      (endWithFault w k f d).slots[k.area].state = .draining ∧ (endWithFault w k f d).slots[k.area].reason = .planError) := by
  refine ⟨by simp [endWithFault], releaseWalk_ends _ _ _, fun state => ?_⟩
  obtain ⟨s, same⟩ := releaseWalk_tallied w none
    (journalRequest (planErrorEntry k f) (some (.planError k.area.val)) (drainSlot k.area .planError d)) k.area
  have slots : (journalRequest (planErrorEntry k f) (some (.planError k.area.val)) (drainSlot k.area .planError d)).slots =
      (drainSlot k.area .planError d).slots := by simp
  have drained := drainSlot_noted (r := .planError) (n := k.area) (d := d) (by rcases state with h | h <;> rw [h] <;> rfl)
  rw [endWithFault, same, slots]
  exact ⟨drained.fields.1, drained.fields.2.1⟩

/-! ### A fill -/

theorem fill_toggles (a : Area) (l : Location) (ans : Answer) (i : Nat) :
    (a.fill l ans).toggles.getLsbD i =
      (if (a.fillWay l).2 = true ∧ i = ltbIndex l then !a.toggles.getLsbD i else a.toggles.getLsbD i) := by
  have bound : ltbIndex l < 64 := Nat.mod_lt _ (by decide)
  unfold Area.fill
  dsimp only
  by_cases flips : (a.fillWay l).2 = true
  · rw [if_pos flips, BitVec.getLsbD_xor]
    by_cases here : i = ltbIndex l
    · rw [if_pos ⟨flips, here⟩, here]
      have one : (1#64 <<< ltbIndex l).getLsbD (ltbIndex l) = true := by simp [bound]
      rw [one, Bool.xor_true]
    · rw [if_neg (fun h => here h.2)]
      have zero : (1#64 <<< ltbIndex l).getLsbD i = false := by
        rw [BitVec.getLsbD_shiftLeft]
        by_cases low : i < ltbIndex l
        · simp [low]
        · have : i - ltbIndex l ≠ 0 := by omega
          simp [BitVec.getLsbD_one, this]
      rw [zero, Bool.xor_false]
  · rw [if_neg flips, if_neg (fun h => flips h.1)]

/-- The way a fill goes to: the tag's, else an invalid one, else the toggle's, which then flips. -/
theorem fillWay_spec (a : Area) (l : Location) : ∃ way flips, a.fillWay l = (way, flips) ∧
    (hasTag l (a.way l 0) = true → way = 0 ∧ flips = false) ∧
    (hasTag l (a.way l 0) = false → hasTag l (a.way l 1) = true → way = 1 ∧ flips = false) ∧
    (hasTag l (a.way l 0) = false → hasTag l (a.way l 1) = false →
      (a.way l 0 = none → way = 0 ∧ flips = false) ∧
      ((a.way l 0).isSome → a.way l 1 = none → way = 1 ∧ flips = false) ∧
      ((a.way l 0).isSome → (a.way l 1).isSome → flips = true ∧ way = (if a.toggles.getLsbD (ltbIndex l) then 1 else 0))) := by
  rcases chosen : a.fillWay l with ⟨way, flips⟩
  have is {v : Nat × Bool} (h : a.fillWay l = v) : way = v.1 ∧ flips = v.2 := by
    rw [chosen] at h; rw [← h]; exact ⟨rfl, rfl⟩
  refine ⟨way, flips, rfl, fun a0 => is (v := (0, false)) ?_, fun a0 b0 => is (v := (1, false)) ?_,
    fun a0 b0 => ⟨fun empty => is (v := (0, false)) ?_, fun full empty => is (v := (1, false)) ?_,
    fun full full' => And.symm (is (v := (if a.toggles.getLsbD (ltbIndex l) then 1 else 0, true)) ?_)⟩⟩
  · simp [Area.fillWay, a0]
  · simp [Area.fillWay, a0, b0]
  · simp [Area.fillWay, b0, empty]
  · obtain ⟨x, hx⟩ := Option.isSome_iff_exists.1 full
    unfold Area.fillWay
    rw [a0, b0, hx, empty]
    rfl
  · obtain ⟨x, hx⟩ := Option.isSome_iff_exists.1 full
    obtain ⟨y, hy⟩ := Option.isSome_iff_exists.1 full'
    unfold Area.fillWay Area.togglesB
    rw [a0, b0, hx, hy]
    cases a.toggles.getLsbD (ltbIndex l) <;> rfl

/-! ### Hand-back -/

theorem handBack_next {w : Fin 4} {ans : Option Answer} {n i : Nat} {x : Sighting} {m : Memo} {d : Device}
    (found : d.classifier.queue.findIdx? (fun e => e.parked == some w) = some i)
    (at_ : d.classifier.queue[i]? = some ⟨x, some w, some m⟩) :
    handBack w ans (n + 1) d = handBack w ans n (depart i (applyHandedBack x m ans d)) := by
  rw [handBack, found]
  dsimp only
  rw [at_]

theorem memoLate_iff {d : Device} {m : Memo} : memoLate d m = true ↔
    (d.slots[m.slot].generation = m.generation ∧ d.slots[m.slot].state = .draining) ∨
      ∃ p, d.probes.records[m.record] = some p ∧ p.state = .evaluating ∧ p.slot = m.slot ∧ p.generation = m.generation ∧
        p.circuit = m.circuit := by
  unfold memoLate
  rw [Bool.or_eq_true]
  refine or_congr (by simp [-Fin.getElem_fin]) ?_
  split
  · next p record => simp [record, and_assoc, -Fin.getElem_fin]
  · next record => simp [record, -Fin.getElem_fin]

/-- Checks 3 to 5 end in one of three ways. -/
theorem checkProbe_cases (d : Device) (x : Sighting) (r : Fin 16) (p : Probe) :
    checkProbe d x r p = .late p ∨ checkProbe d x r p = .outOfReach p ∨ checkProbe d x r p = .pass r p := by
  unfold checkProbe
  split
  · exact .inl rfl
  · split
    · exact .inl rfl
    · split
      · exact .inr (.inr rfl)
      · exact .inr (.inl rfl)

section
variable {x : Sighting} {m : Memo} {ans : Option Answer} {d : Device}

theorem applyHandedBack_stale (stale : isStale d.rounds.number x.round = true) :
    applyHandedBack x m ans d = countHeader .stale d := if_pos stale

variable (fresh : isStale d.rounds.number x.round = false)
include fresh

theorem applyHandedBack_late (late : memoLate d m = true) : applyHandedBack x m ans d = countSlot .late m.slot m.generation d := by
  unfold applyHandedBack
  rw [if_neg (by rw [fresh]; simp), if_pos late]

variable (live : memoLate d m = false)
include live

theorem applyHandedBack_lateTone (resolved : resolveTone d x = .lateTone) :
    applyHandedBack x m ans d = countHeader .lateTone d := by
  unfold applyHandedBack
  rw [if_neg (by rw [fresh]; simp), if_neg (by rw [live]; simp), resolved]

theorem applyHandedBack_stray (resolved : resolveTone d x = .stray) : applyHandedBack x m ans d = takeStray x d := by
  unfold applyHandedBack
  rw [if_neg (by rw [fresh]; simp), if_neg (by rw [live]; simp), resolved]

theorem applyHandedBack_silent (resolved : resolveTone d x = .silent) : applyHandedBack x m ans d = d := by
  unfold applyHandedBack
  rw [if_neg (by rw [fresh]; simp), if_neg (by rw [live]; simp), resolved]

variable {r : Fin 16} {p : Probe} (resolved : resolveTone d x = .probe r p)
include resolved

theorem applyHandedBack_stranger (other : memoOf r p ≠ m) : applyHandedBack x m ans d = countHeader .lateTone d := by
  unfold applyHandedBack
  rw [if_neg (by rw [fresh]; simp), if_neg (by rw [live]; simp), resolved]
  exact if_pos other

variable (own : memoOf r p = m)
include own

theorem applyHandedBack_own_late (late : checkProbe d x r p = .late p) :
    applyHandedBack x m ans d = countSlot .late p.slot p.generation d := by
  unfold applyHandedBack
  rw [if_neg (by rw [fresh]; simp), if_neg (by rw [live]; simp), resolved]
  dsimp only
  rw [if_neg (not_not.2 own), late]
  rfl

theorem applyHandedBack_own_outOfReach (far : checkProbe d x r p = .outOfReach p) :
    applyHandedBack x m ans d = countSlot .outOfReach p.slot p.generation d := by
  unfold applyHandedBack
  rw [if_neg (by rw [fresh]; simp), if_neg (by rw [live]; simp), resolved]
  dsimp only
  rw [if_neg (not_not.2 own), far]
  rfl

theorem applyHandedBack_own_answers (pass : checkProbe d x r p = .pass r p) :
    (ans = none → applyHandedBack x m ans d = countSlot .late m.slot m.generation d) ∧
    ∀ z, ans = some z → applyHandedBack x m ans d = applyAnswer r p x z d := by
  unfold applyHandedBack
  rw [if_neg (by rw [fresh]; simp), if_neg (by rw [live]; simp), resolved]
  dsimp only
  rw [if_neg (not_not.2 own), pass]
  exact ⟨fun none => by rw [none], fun z some => by rw [some]⟩

end

/-- Only the header counters change in the classifier at a hand-back, each with its write due. -/
theorem applyHandedBack_counts {x : Sighting} {m : Memo} {ans : Option Answer} {d : Device}
    (changed : (applyHandedBack x m ans d).classifier ≠ d.classifier) :
    writeShown d (applyHandedBack x m ans d) .sightingCounters (boardAddr d 0x40)
      (sightingCounterBytes (applyHandedBack x m ans d).classifier) := by
  have slotCount (k : SlotCount) (n : Fin 8) (g : Half) : (countSlot k n g d).classifier = d.classifier := by simp
  cases stale : isStale d.rounds.number x.round with
  | true => rw [applyHandedBack_stale stale]; exact (countHeader_does .stale d).2.2.2
  | false =>
    cases late : memoLate d m with
    | true => exact absurd (by rw [applyHandedBack_late stale late]; exact slotCount ..) changed
    | false =>
      cases resolved : resolveTone d x with
      | probe r p =>
        by_cases own : memoOf r p = m
        · refine absurd ?_ changed
          rcases checkProbe_cases d x r p with o | o | o
          · rw [applyHandedBack_own_late stale late resolved own o]; exact slotCount ..
          · rw [applyHandedBack_own_outOfReach stale late resolved own o]; exact slotCount ..
          · obtain ⟨silent, answered⟩ := applyHandedBack_own_answers stale late resolved own (ans := ans) o
            cases ans with
            | none => rw [silent rfl]; exact slotCount ..
            | some z => rw [answered z rfl]; simp
        · rw [applyHandedBack_stranger stale late resolved own]; exact (countHeader_does .lateTone d).2.2.2
      | lateTone => rw [applyHandedBack_lateTone stale late resolved]; exact (countHeader_does .lateTone d).2.2.2
      | stray => rw [applyHandedBack_stray stale late resolved]; exact (takeStray_does x d).2.2.2
      | silent => exact absurd (by rw [applyHandedBack_silent stale late resolved]) changed

/-- An extent inside one that lies in the window lies in it too, as a table entry in its table. -/
theorem inWindow_part {bounds : Option Bounds} {a n b m : Nat} (h : inWindow bounds a n = true) (low : a ≤ b)
    (high : b + m ≤ a + n) : inWindow bounds b m = true := by
  unfold inWindow at h ⊢
  split at h
  · cases h
  · rw [Bool.and_eq_true, decide_eq_true_eq, decide_eq_true_eq] at h ⊢
    omega

theorem inWindow_of_pointerOk {bounds : Option Bounds} {p n b m : Nat} (h : pointerOk bounds p n = true) (low : p ≤ b)
    (high : b + m ≤ p + n) : inWindow bounds b m = true :=
  inWindow_part (Bool.and_eq_true_iff.1 h).2 low high

theorem nonzero_of_pointerOk {bounds : Option Bounds} {p n : Nat} (h : pointerOk bounds p n = true) : p ≠ 0 := by
  rintro rfl
  simp [pointerOk] at h

theorem walkRead_advances {w : Fin 4} {k : Walk} {d : Device} (walking : d.walks[w] = some k) (b : List Byte) :
    walkRead w (.bytes b) d = advanceWalk w k b d := by
  unfold walkRead
  rw [walking]

/-- A read that goes on sets the walk's record and is in flight. -/
theorem nextRead_does {w : Fin 4} {k : Walk} {addr len : Nat} {d : Device} (can : canAccess d = true) :
    (issueRead (.walkRead w) addr len (d.setWalk w (some k))).walks[w] = some k ∧
    (inWindow d.iface.bounds addr len = true →
      inFlight (issueRead (.walkRead w) addr len (d.setWalk w (some k))) addr len (.walkRead w)) := by
  refine ⟨?_, fun within => inFlight_issue can within⟩
  rw [(issueRead_keeps _ _ _ _).2.2.2.2.2.2.2.2.2.2.2.2.2.2.2.2.2.1]
  exact (vec_set_get ..).trans (if_pos rfl)

/-- Settles O53, by the level a walk reads, the way a fill goes to and the checks of a hand-back. -/
theorem walkReadDone : Obligations.WalkReadDone := by
  refine ⟨fun a w k b s h kind walking can => ?_, fun x y l ans filled => ?_, fun w ans n d bounded => ?_,
    fun w ans n i x m d found at_ => handBack_next found at_, fun x m ans d y handed => ?_,
    fun r p h hop a x d at_ accum => ⟨fun loc => applyAnswer_confirms at_ loc, offerLook_ignored accum, fun taken q hq => ?_⟩,
    fun kind n g d => ⟨countSlot_other, fun same => ?_⟩⟩
  · have taken := complete_landed h (walkTaken b)
    rw [kind] at taken
    generalize hm : dropAccess s.dev a.tag = m at taken
    have frame : m.iface = s.dev.iface ∧ m.slots = s.dev.slots ∧ m.areas = s.dev.areas ∧ m.walks = s.dev.walks ∧
        mayFill m k = mayFill s.dev k := by rw [← hm]; exact ⟨rfl, rfl, rfl, rfl, rfl⟩
    obtain ⟨iface, slots, areas, walks, may⟩ := frame
    have advanced : walkTaken b (.walkRead w) m = advanceWalk w k b m := walkRead_advances (by rw [walks]; exact walking) b
    rw [advanced] at taken
    have can' : canAccess m = true := by rw [← hm]; exact can
    rw [← iface, ← slots, ← areas, ← may]
    refine ⟨_, congrArg Host.Outcome.next taken, fun node good => ?_, fun port good => ?_, fun slot present known => ?_, fun none => ?_,
      fun circuit named at_ => ?_, fun bad => ?_⟩
    · have next : advanceWalk w k b m = issueRead (.walkRead w) (u64 b 0 + 8 * k.key.port.val) 8
          (m.setWalk w (some { k with state := .port, portTable := u64 b 0 })) := by
        unfold advanceWalk
        rw [node]
        dsimp only
        rw [if_neg (nonzero_of_pointerOk good), if_pos good]
      rw [next]
      exact ⟨(nextRead_does can').1, (nextRead_does can').2 (inWindow_of_pointerOk good (by omega) (by omega))⟩
    · have next : advanceWalk w k b m = issueRead (.walkRead w) (u64 b 0 + 4 * k.key.slot.val) 4
          (m.setWalk w (some { k with state := .slot, slotTable := u64 b 0 })) := by
        unfold advanceWalk
        rw [port]
        dsimp only
        rw [if_neg (nonzero_of_pointerOk good), if_pos good]
      rw [next]
      exact ⟨(nextRead_does can').1, (nextRead_does can').2 (inWindow_of_pointerOk good (by omega) (by omega))⟩
    · have next : advanceWalk w k b m = issueRead (.walkRead w)
          (m.slots[k.area].desc.circuitBase + slotEntryCircuit b * Config.circuitBytes) (16 + 16 * (slotEntryHop b + 1))
          (m.setWalk w (some { k with state := .circuit, circuit := slotEntryCircuit b, hop := slotEntryHop b })) := by
        unfold advanceWalk
        rw [slot]
        dsimp only
        rw [if_pos present, if_pos known]
      rw [next]
      exact ⟨(nextRead_does can').1, fun addr at_ within => by rw [at_] at within ⊢; exact (nextRead_does can').2 within⟩
    · rw [advanceWalk_nothing none]
      obtain ⟨fills, _, ends⟩ := endWithAnswer_ends w k .nothing m
      exact ⟨fills, ends⟩
    · rw [advanceWalk_confirms circuit named at_]
      obtain ⟨fills, leaves, ends⟩ := endWithAnswer_ends w k
        (.expect k.circuit k.hop (byteAt b (19 + 16 * k.hop)) (bitAt b (20 + 16 * k.hop) 0)) m
      exact ⟨fills, leaves, fun ans same => by rw [same]; exact ends⟩
    · obtain ⟨f, faults, names⟩ := advanceWalk_faults (w := w) bad
      obtain ⟨areas', ends, drains⟩ := endWithFault_ends w k f m
      rw [faults]
      exact ⟨areas', ⟨_, names, ends⟩, drains⟩
  · obtain ⟨way, flips, chosen, spec⟩ := fillWay_spec x l
    have entries : y.entries = Sparse.put x.entries (2 * ltbIndex l + way) ⟨l, ans⟩ := by rw [filled, Area.fill, chosen]
    refine ⟨by rw [filled]; rfl, by rw [filled]; exact Area.lookup_fill x l ans, way, flips, spec.1, spec.2.1, spec.2.2, ?_, fun k other => ?_,
      fun i _ => ?_⟩
    · rw [entries]; exact (Sparse.get_put ..).trans (if_pos rfl)
    · rw [entries]; exact (Sparse.get_put ..).trans (if_neg other)
    · rw [filled, fill_toggles, chosen]; rfl
  · exact ⟨handBack_unparked w ans n d (List.countP_le_length.trans bounded), by simp, by simp⟩
  · subst handed
    refine ⟨applyHandedBack_queue x m ans d, fun stale => ?_, applyHandedBack_counts, fun fresh => ⟨fun late => ?_, fun ready live => ?_⟩⟩
    · rw [applyHandedBack_stale stale]
      obtain ⟨classifier, probes, slots, _⟩ := countHeader_does .stale d
      exact ⟨classifier, probes, slots⟩
    · exact applyHandedBack_late fresh (memoLate_iff.2 late)
    · have timely : memoLate d m = false := Bool.eq_false_iff.2 fun late => by
        rcases memoLate_iff.1 late with ⟨same, draining⟩ | ⟨p, record, state, slot, generation, circuit⟩
        · exact ready.elim (fun no => no same) fun no => no draining
        · rcases live p record with no | no | no | no
          · exact no state
          · exact no slot
          · exact no generation
          · exact no circuit
      obtain ⟨classifier, probes, slots, _⟩ := countHeader_does .lateTone d
      refine ⟨fun o => ?_, fun o => ?_, fun o => applyHandedBack_silent fresh timely o, fun r p o => ⟨fun other => ?_, fun own => ?_⟩⟩
      · rw [applyHandedBack_lateTone fresh timely o]
        exact ⟨classifier, probes, slots⟩
      · rw [applyHandedBack_stray fresh timely o]
        obtain ⟨classifier, probes, slots, _⟩ := takeStray_does x d
        exact ⟨classifier, probes, slots⟩
      · have stranger : memoOf r p ≠ m := by
          rintro rfl
          simp [memoOf] at other
        rw [applyHandedBack_stranger fresh timely o stranger]
        exact ⟨classifier, probes, slots⟩
      · refine ⟨fun outside going judged => ?_, applyHandedBack_own_outOfReach fresh timely o own.symm,
          applyHandedBack_own_answers fresh timely o own.symm⟩
        refine applyHandedBack_own_late fresh timely o own.symm ?_
        unfold checkProbe
        rw [if_neg (by rintro (h | h) <;> contradiction), if_pos outside]
  · obtain ⟨goes, completes⟩ := offerLook_does r p h hop a x d q accum taken hq
    exact ⟨goes, fun complete => ⟨(completes complete).1, (completes complete).2.1, fun other => ((completes complete).2.2 other).issued⟩⟩
  · rw [countSlot_counts same, tally_eq]
    rfl

end Sys2Proof.Machine.WalkReads

/-! ## The arbiter (4.3, R62 to R65) -/

namespace Sys2Proof.Machine.Admission
open Completions Halts Slots SlotWrites Closing Verdicts Starts StepLaws

/-! ### The lowest number that passes a test -/

theorem find?_finRange {n : Nat} {p : Fin n → Bool} {i : Fin n} :
    (List.finRange n).find? p = some i ↔ p i = true ∧ ∀ j, j < i → p j = false := by
  rw [List.find?_eq_some_iff_getElem]
  constructor
  · rintro ⟨hit, k, small, eq, first⟩
    have place : i.val = k := by rw [← eq]; simp
    refine ⟨hit, fun j below => ?_⟩
    have h := first j.val (by rw [← place]; exact below)
    simpa using h
  · rintro ⟨hit, first⟩
    exact ⟨hit, i.val, by simp, by simp, fun j below => by simpa using first ⟨j, by omega⟩ below⟩

theorem find?_finRange_isSome {n : Nat} {p : Fin n → Bool} {i : Fin n} (h : p i = true) :
    ∃ j, (List.finRange n).find? p = some j := by
  rw [← Option.isSome_iff_exists, List.find?_isSome]
  exact ⟨i, List.mem_finRange i, h⟩

/-! ### The resources -/

/-- The resources of R62, each the lowest-numbered that is free. -/
theorem resources?_lowest {d : Device} {res : Resources} (h : resources? d = some res) :
    d.leading = true ∧ d.launch.stuck.length + busyContexts d < 8 ∧
    d.probes.records[res.record] = none ∧ (∀ r : Fin 16, r < res.record → d.probes.records[r].isSome) ∧
    d.launch.contexts[res.ctx].free = true ∧ (∀ c : Fin 8, c < res.ctx → d.launch.contexts[c].free = false) ∧
    d.tones[res.tone] = .free ∧ (∀ t : Fin 48, t < res.tone → d.tones[t] ≠ .free) := by
  unfold resources? at h
  split at h
  · next ready =>
    rw [Bool.and_eq_true, decide_eq_true_eq] at ready
    split at h
    · next r c t record context tone =>
      cases h
      obtain ⟨noRecord, records⟩ := find?_finRange.1 record
      obtain ⟨free, contexts⟩ := find?_finRange.1 context
      obtain ⟨freeTone, tones⟩ := find?_finRange.1 tone
      refine ⟨ready.1, ready.2, Option.isNone_iff_eq_none.1 noRecord, fun q below => ?_, free, contexts,
        eq_of_beq freeTone, fun q below bad => ?_⟩
      · have used := records q below
        rw [Option.isNone_eq_false_iff] at used
        exact used
      · have used := tones q below
        rw [bad] at used
        cases used
    · cases h
  · cases h

theorem resources?_isSome {d : Device} {r : Fin 16} {c : Fin 8} {t : Fin 48} (leading : d.leading = true)
    (room : d.launch.stuck.length + busyContexts d < 8) (record : d.probes.records[r] = none)
    (free : d.launch.contexts[c].free = true) (tone : d.tones[t] = .free) : (resources? d).isSome := by
  obtain ⟨r', hr⟩ := find?_finRange_isSome (p := fun r : Fin 16 => d.probes.records[r].isNone) (i := r) (by
    show d.probes.records[r].isNone = true; rw [record]; rfl)
  obtain ⟨c', hc⟩ := find?_finRange_isSome (p := fun c : Fin 8 => d.launch.contexts[c].free) (i := c) free
  obtain ⟨t', ht⟩ := find?_finRange_isSome (p := fun t : Fin 48 => d.tones[t] == .free) (i := t) (by
    show (d.tones[t] == .free) = true; rw [tone]; rfl)
  have ready : (d.leading && decide (d.launch.stuck.length + busyContexts d < Config.stuckDepth)) = true := by
    rw [leading, decide_eq_true (show _ < Config.stuckDepth from room)]; rfl
  unfold resources?
  rw [if_pos ready, show freeRecord? d = some r' from hr, show freeContext? d = some c' from hc, show freeTone? d = some t' from ht]
  rfl

/-! ### The circuit chosen -/

theorem candidateAt_eq_some {d : Device} {n : Fin 8} {p : Fin 2} {x : Candidate} : candidateAt d n p = some x ↔
    x.slot = n ∧ x.place = p ∧ d.sched[n].stage[p] = .fetched x.circuit x.record ∧ d.slots[n].state = .running ∧
      pointHeld d x.record.point = false ∧ isStuck d x.record.point = false := by
  unfold candidateAt
  generalize d.sched[n].stage[p] = v
  cases v with
  | empty => simp
  | fetching c => simp
  | fetched c record =>
    dsimp only
    constructor
    · intro h
      split at h
      · next ready =>
        cases h
        simp only [Bool.and_eq_true, Bool.not_eq_true', beq_iff_eq] at ready
        exact ⟨rfl, rfl, rfl, ready.1.1, ready.1.2, ready.2⟩
      · cases h
    · rintro ⟨rfl, rfl, same, running, unheld, unstuck⟩
      cases same
      rw [if_pos (by rw [running, unheld, unstuck]; rfl)]

/-- A slot's candidate is one of its two places', the one of the lower circuit. -/
theorem candidateOf_eq_some {d : Device} {n : Fin 8} {x : Candidate} (h : candidateOf d n = some x) :
    (∃ p, candidateAt d n p = some x) ∧ ∀ (q : Fin 2) (y : Candidate), candidateAt d n q = some y → x.circuit ≤ y.circuit := by
  unfold candidateOf at h
  have places (q : Fin 2) : q = 0 ∨ q = 1 := by omega
  split at h
  · next a b first second =>
    have cases_ (q : Fin 2) (y : Candidate) (at_ : candidateAt d n q = some y) : y = a ∨ y = b := by
      rcases places q with rfl | rfl
      · exact .inl (Option.some.inj (at_.symm.trans first))
      · exact .inr (Option.some.inj (at_.symm.trans second))
    split at h
    · next lower =>
      cases h
      exact ⟨⟨1, second⟩, fun q y at_ => by rcases cases_ q y at_ with rfl | rfl <;> omega⟩
    · next higher =>
      cases h
      exact ⟨⟨0, first⟩, fun q y at_ => by rcases cases_ q y at_ with rfl | rfl <;> omega⟩
  · next a first second =>
    cases h
    refine ⟨⟨0, first⟩, fun q y at_ => ?_⟩
    rcases places q with rfl | rfl
    · rw [Option.some.inj (at_.symm.trans first)]
    · rw [at_] at second; cases second
  · next b first =>
    refine ⟨⟨1, h⟩, fun q y at_ => ?_⟩
    rcases places q with rfl | rfl
    · rw [at_] at first; cases first
    · rw [Option.some.inj (at_.symm.trans h)]

theorem candidateOf_isSome {d : Device} {n : Fin 8} {q : Fin 2} {y : Candidate} (h : candidateAt d n q = some y) :
    ∃ x, candidateOf d n = some x := by
  unfold candidateOf
  have places : q = 0 ∨ q = 1 := by omega
  split
  · split
    · exact ⟨_, rfl⟩
    · exact ⟨_, rfl⟩
  · exact ⟨_, rfl⟩
  · next first =>
    rcases places with rfl | rfl
    · rw [h] at first; cases first
    · exact ⟨y, h⟩

/-- The candidates in the order of the slots after the pointer. -/
def candidates (d : Device) : List Candidate := (slotOrder d.probes.pointer).filterMap (candidateOf d)

/-- The highest latched priority of a list of candidates. -/
def bestPriority (d : Device) (cs : List Candidate) : Nat := cs.foldl (fun m c => max m d.slots[c.slot].desc.priority) 0

theorem chosen_eq (d : Device) :
    chosen d = (candidates d).find? (fun c => d.slots[c.slot].desc.priority == bestPriority d (candidates d)) := rfl

theorem foldl_max {α : Type} (f : α → Nat) (xs : List α) (b : Nat) :
    b ≤ xs.foldl (fun m c => max m (f c)) b ∧ (∀ x ∈ xs, f x ≤ xs.foldl (fun m c => max m (f c)) b) ∧
    (xs.foldl (fun m c => max m (f c)) b = b ∨ ∃ x ∈ xs, f x = xs.foldl (fun m c => max m (f c)) b) := by
  induction xs generalizing b with
  | nil => exact ⟨Nat.le_refl _, fun x h => by simp at h, .inl rfl⟩
  | cons x xs ih =>
    obtain ⟨least, all, attained⟩ := ih (max b (f x))
    rw [List.foldl_cons]
    refine ⟨by omega, fun y mem => ?_, ?_⟩
    · rcases List.mem_cons.1 mem with rfl | mem
      · omega
      · exact all y mem
    · rcases attained with same | ⟨y, mem, eq⟩
      · rw [same]
        by_cases larger : b ≤ f x
        · exact .inr ⟨x, List.mem_cons_self, by omega⟩
        · exact .inl (by omega)
      · exact .inr ⟨y, List.mem_cons_of_mem _ mem, eq⟩

theorem mem_slotOrder (pointer n : Fin 8) : n ∈ slotOrder pointer := by revert pointer n; decide

theorem slotOrder_ordered (pointer : Fin 8) : (slotOrder pointer).Pairwise (fun m n => m - pointer - 1 < n - pointer - 1) := by
  revert pointer; decide

theorem mem_candidates {d : Device} {n : Fin 8} {x : Candidate} (h : candidateOf d n = some x) : x ∈ candidates d :=
  List.mem_filterMap.2 ⟨n, mem_slotOrder _ n, h⟩

theorem slot_of_candidate {d : Device} {n : Fin 8} {x : Candidate} (h : candidateOf d n = some x) : x.slot = n := by
  obtain ⟨⟨p, at_⟩, _⟩ := candidateOf_eq_some h
  exact (candidateAt_eq_some.1 at_).1

theorem candidates_ordered (d : Device) :
    (candidates d).Pairwise (fun x y => x.slot - d.probes.pointer - 1 < y.slot - d.probes.pointer - 1) :=
  List.pairwise_filterMap.2 ((slotOrder_ordered _).imp fun before x hx y hy => by
    rw [slot_of_candidate hx, slot_of_candidate hy]; exact before)

/-- The candidate chosen: of the highest priority, and of those the first after the pointer. -/
theorem chosen_first {d : Device} {x : Candidate} (h : chosen d = some x) : candidateOf d x.slot = some x ∧
    ∀ y ∈ candidates d, d.slots[y.slot].desc.priority ≤ d.slots[x.slot].desc.priority ∧
      (d.slots[y.slot].desc.priority = d.slots[x.slot].desc.priority →
        x.slot - d.probes.pointer - 1 ≤ y.slot - d.probes.pointer - 1) := by
  rw [chosen_eq, List.find?_eq_some_iff_append] at h
  obtain ⟨best, before, after, split, lower⟩ := h
  have best : d.slots[x.slot].desc.priority = bestPriority d (candidates d) := by simpa [-Fin.getElem_fin] using best
  have mem : x ∈ candidates d := by rw [split]; simp
  obtain ⟨n, _, of⟩ := List.mem_filterMap.1 mem
  have own := slot_of_candidate of
  refine ⟨by rw [own]; exact of, fun y my => ⟨?_, fun tie => ?_⟩⟩
  · rw [best]; exact (foldl_max (fun c : Candidate => d.slots[c.slot].desc.priority) _ _).2.1 y my
  · have ordered := candidates_ordered d
    rw [split] at ordered my
    rcases List.mem_append.1 my with early | late
    · have miss := lower y early
      rw [tie, best] at miss
      simp at miss
    · rcases List.mem_cons.1 late with rfl | late
      · exact le_refl _
      · exact le_of_lt ((List.pairwise_cons.1 (List.pairwise_append.1 ordered).2.1).1 y late)

theorem chosen_none {d : Device} (h : chosen d = none) (n : Fin 8) (q : Fin 2) : candidateAt d n q = none := by
  refine Option.eq_none_iff_forall_ne_some.2 fun y at_ => ?_
  obtain ⟨x, of⟩ := candidateOf_isSome at_
  rw [chosen_eq, List.find?_eq_none] at h
  obtain ⟨_, all, attained⟩ := foldl_max (fun c : Candidate => d.slots[c.slot].desc.priority) (candidates d) 0
  rcases attained with zero | ⟨z, mz, eq⟩
  · refine h x (mem_candidates of) (beq_iff_eq.2 ?_)
    have low := all x (mem_candidates of)
    have best : bestPriority d (candidates d) = 0 := zero
    rw [best]
    omega
  · exact h z mz (beq_iff_eq.2 eq)

/-! ### One decision -/

theorem admitOne_none {d : Device} (h : resources? d = none ∨ chosen d = none) : admitOne d = none := by
  unfold admitOne
  split
  · next res x resources circuit =>
    rcases h with none | none
    · rw [resources] at none; cases none
    · rw [circuit] at none; cases none
  · rfl

theorem admitOne_eq {d : Device} {res : Resources} {x : Candidate} (resources : resources? d = some res)
    (circuit : chosen d = some x) : admitOne d = some (admitProbe d x res) := by
  unfold admitOne
  rw [resources, circuit]

theorem setPlace_entry (n m : Fin 8) (p : Fin 2) (x : Place) (d : Device) (c : Nat) :
    circuitEntry (d.setPlace n p x) m c = circuitEntry d m c := by
  unfold circuitEntry Device.setPlace
  rw [Device.setSched_sched_get]
  split
  · next same => rw [same]
  · rfl

/-- What an admission leaves of the scheduler, the tone pool and the launch bus. -/
theorem admitProbe_does (d : Device) (x : Candidate) (res : Resources) {e : Device} (h : e = admitProbe d x res) :
    e.probes.records = d.probes.records.set res.record (some (newProbe d x res)) ∧
    e.probes.order = d.probes.order.filter (· ≠ res.record) ++ [res.record] ∧ e.probes.pointer = x.slot ∧
    e.tones = d.tones.set res.tone (.held res.record) ∧
    e.launch.contexts = d.launch.contexts.set res.ctx ⟨.arming, some res.record, x.record.point, res.tone, none⟩ ∧
    e.launch.issued = insertCommand (.launch x.record.point res.tone x.record.depth (some res.ctx)) d.launch.issued ∧
    e.launch.stuck = d.launch.stuck ∧
    circuitEntry e x.slot x.circuit = ⟨.inFlight, (circuitEntry d x.slot x.circuit).voids⟩ ∧
    e.sched[x.slot].stage[x.place] = .empty ∧ e.slots = d.slots ∧ e.dma = d.dma := by
  obtain ⟨records, contexts, stuck, tones⟩ := admitProbe_reads d x res
  rw [h]
  refine ⟨records, by simp [admitProbe, issueCommand, Device.setContext, Device.setRecord, Device.setTone],
    by simp [admitProbe, issueCommand, Device.setContext, Device.setRecord, Device.setTone], tones, contexts,
    by simp [admitProbe, issueCommand, Device.setContext, Device.setRecord, Device.setTone], stuck, ?_, ?_, by simp,
    by simp [admitProbe]⟩
  · unfold admitProbe
    dsimp only
    rw [setPlace_entry, setStatus_entry (by simp), if_pos ⟨rfl, rfl⟩]
    rfl
  · unfold admitProbe
    dsimp only
    rw [setPlace_stage, if_pos ⟨rfl, rfl⟩]

/-! ### The law of launched probes -/

theorem pointHeld_false {d : Device} {point : Byte} (h : pointHeld d point = false) {r : Fin 16} {p : Probe}
    (record : d.probes.records[r] = some p) (launched : p.launched) (holds : p.holdsPoint = true) : p.record.point ≠ point := by
  intro same
  have held : holdsPoint point (d.probes.records[r]) = true := by
    rw [record]
    unfold holdsPoint
    have state : p.state ≠ .evaluating := by
      intro bad
      unfold Probe.launched at launched
      rw [bad] at launched
      simp at launched
    simp [same, holds, state]
  have any : pointHeld d point = true := by
    unfold pointHeld
    rw [Bool.or_eq_true]
    exact .inl (List.any_eq_true.2 ⟨_, Vector.mem_toList_iff.2 (Vector.getElem_mem r.isLt), held⟩)
  rw [h] at any
  cases any

/-- One admission keeps the law that no two launched probes share a tone, a context or a launch point they hold. -/
theorem admitOne_keeps_probeLaw {d e : Device} (h : admitOne d = some e) (law : probeLaw d) : probeLaw e := by
  cases resources : resources? d with
  | none => rw [admitOne_none (.inl resources)] at h; cases h
  | some res =>
  cases circuit : chosen d with
  | none => rw [admitOne_none (.inr circuit)] at h; cases h
  | some x =>
  rw [admitOne_eq resources circuit] at h
  cases h
  obtain ⟨_, _, _, idle, unowned, free⟩ := resources?_free resources
  have unheld := (chosen_admissible circuit).1
  obtain ⟨records, _, _, tones, contexts, _⟩ := admitProbe_does d x res rfl
  have record (r : Fin 16) : (admitProbe d x res).probes.records[r] =
      if r = res.record then some (newProbe d x res) else d.probes.records[r] := by rw [records]; exact vec_set_get ..
  have apart {r : Fin 16} {p : Probe} (there : d.probes.records[r] = some p) (launched : p.launched) :
      p.ctx ≠ res.ctx ∧ p.tone ≠ res.tone ∧ (p.holdsPoint = true → p.record.point ≠ x.record.point) := by
    obtain ⟨owner, tone, _⟩ := law r p there launched
    refine ⟨fun same => ?_, fun same => ?_, pointHeld_false unheld there launched⟩
    · have owner : (contextAt d p.ctx).owner = some r := owner
      rw [same] at owner
      exact absurd (unowned.symm.trans owner) (by simp)
    · have tone : toneAt d p.tone ≠ .free := tone
      rw [same] at tone
      exact tone free
  intro r p there launched
  have owner : (admitProbe d x res).launch.contexts[p.ctx] =
      if p.ctx = res.ctx then ⟨.arming, some res.record, x.record.point, res.tone, none⟩ else d.launch.contexts[p.ctx] := by
    rw [contexts]; exact vec_set_get ..
  have tone : (admitProbe d x res).tones[p.tone] = if p.tone = res.tone then .held res.record else d.tones[p.tone] := by
    rw [tones]; exact vec_set_get ..
  rw [owner, tone]
  rw [record] at there
  by_cases new : r = res.record
  · rw [if_pos new] at there
    cases there
    rw [if_pos (show (newProbe d x res).ctx = res.ctx from rfl), if_pos (show (newProbe d x res).tone = res.tone from rfl)]
    refine ⟨by rw [new], by simp, fun q y other at_ launchedY => ?_⟩
    rw [record, if_neg (by rw [← new]; exact other)] at at_
    obtain ⟨ctx, tone, point⟩ := apart at_ launchedY
    exact ⟨tone, ctx, fun _ holds => point holds⟩
  · rw [if_neg new] at there
    obtain ⟨ctx, other, point⟩ := apart there launched
    obtain ⟨owned, held, rest⟩ := law r p there launched
    rw [if_neg ctx, if_neg other]
    refine ⟨owned, held, fun q y beside at_ launchedY => ?_⟩
    rw [record] at at_
    split at at_
    · cases at_
      exact ⟨Ne.symm other, Ne.symm ctx, fun holds _ => Ne.symm (point holds)⟩
    · exact rest q y beside at_ launchedY

theorem admitAll_keeps_probeLaw (d : Device) (law : probeLaw d) : probeLaw (admitAll d) := by
  have all : ∀ (k : Nat) (d : Device), probeLaw d → probeLaw (admitSteps k d) := by
    intro k
    induction k with
    | zero => exact fun _ h => h
    | succ k ih =>
      intro d h
      unfold admitSteps
      split
      · exact h
      · next e one => exact ih e (admitOne_keeps_probeLaw one h)
  exact all 8 d law

end Sys2Proof.Machine.Admission

/-! ## What every step settles (1.3, 1.6, 4.2, 4.3) -/

namespace Sys2Proof.Machine.Settling
open Completions Halts Slots SlotWrites Closing Verdicts Starts StepLaws Admission

/-! ### One place of a ready stage -/

theorem fetchPlace_idle {d : Device} {n : Fin 8} {q : Fin 2}
    (h : d.running = false ∨ d.slots[n].state ≠ .running ∨ d.sched[n].stage[q] ≠ .empty) : fetchPlace n d q = d := by
  unfold fetchPlace
  refine if_neg fun ready => ?_
  simp only [Bool.and_eq_true, beq_iff_eq] at ready
  rcases h with off | state | full
  · rw [off] at ready; exact absurd ready.1.1 (by simp)
  · exact state ready.1.2
  · exact full ready.2

theorem nextToFetch_none {d : Device} {n : Fin 8}
    (h : ∀ c, c < d.slots[n].desc.count → (circuitEntry d n c).status = .queued → staged d n c = true) :
    nextToFetch d n = none :=
  findFrom_eq_none.2 fun c _ below => by
    by_cases queued : (circuitEntry d n c).status = .queued
    · simp [h c (by omega) queued]
    · simp [queued]

theorem nextToFetch_some {d : Device} {n : Fin 8} {c : Nat} (below : c < d.slots[n].desc.count)
    (queued : (circuitEntry d n c).status = .queued) (unstaged : staged d n c = false)
    (first : ∀ b, b < c → (circuitEntry d n b).status = .queued → staged d n b = true) : nextToFetch d n = some c :=
  findFrom_eq_some.2 ⟨Nat.zero_le _, by omega, by simp [queued, unstaged], fun b _ less => by
    by_cases q : (circuitEntry d n b).status = .queued
    · simp [first b less q]
    · simp [q]⟩

theorem fetchPlace_none {d : Device} {n : Fin 8} {q : Fin 2}
    (h : ∀ c, c < d.slots[n].desc.count → (circuitEntry d n c).status = .queued → staged d n c = true) :
    fetchPlace n d q = d := by
  unfold fetchPlace
  rw [nextToFetch_none h]
  exact ite_self _

/-- The fetch of R59: of the place, in the window or refused. -/
theorem fetchPlace_fetches {d : Device} {n : Fin 8} {q : Fin 2} {c : Nat} (on : d.running = true)
    (state : d.slots[n].state = .running) (empty : d.sched[n].stage[q] = .empty) (next : nextToFetch d n = some c) :
    (∃ x, fetchPlace n d q = { d.setPlace n q (.fetching c) with dma := x }) ∧
    (fetchPlace n d q).sched[n].stage[q] = .fetching c ∧
    (inWindow d.iface.bounds (d.slots[n].desc.circuitBase + c * 272) 272 = true →
      inFlight (fetchPlace n d q) (d.slots[n].desc.circuitBase + c * 272) 272 (.circuitFetch n q c)) := by
  have fetch : fetchPlace n d q = issueRead (.circuitFetch n q c) (d.slots[n].desc.circuitBase + c * 272) 272
      (d.setPlace n q (.fetching c)) := by
    unfold fetchPlace
    rw [if_pos (by rw [on, state, empty]; rfl), next]
    rfl
  rw [fetch]
  refine ⟨issue_frame _ _ _ _ _ _, ?_, fun within => inFlight_issue (d := d.setPlace n q (.fetching c)) ?_ within⟩
  · rw [(issueRead_keeps _ _ _ _).2.2.2.2.2.2.1, setPlace_stage, if_pos ⟨rfl, rfl⟩]
  · exact canAccess_of_running (eq_of_beq on)

/-! ### One slot's closing -/

theorem closeIfDrained_idle {d : Device} {n : Fin 8} (h : canAccess d = false ∨ d.slots[n].state ≠ .draining ∨
    d.slots[n].closing ≠ none ∨ drained d n = false) : closeIfDrained d n = d := by
  unfold closeIfDrained
  refine if_neg fun ready => ?_
  simp only [Bool.and_eq_true, beq_iff_eq] at ready
  rcases h with off | state | begun | busy
  · rw [off] at ready; exact absurd ready.1.1.1 (by simp)
  · exact state ready.1.1.2
  · exact begun ready.1.2
  · rw [busy] at ready; exact absurd ready.2 (by simp)

theorem closeIfDrained_closes {d : Device} {n : Fin 8} (can : canAccess d = true) (state : d.slots[n].state = .draining)
    (none : d.slots[n].closing = none) (done : drained d n = true) : closeIfDrained d n = closeFrom n 0 d := by
  unfold closeIfDrained
  rw [if_pos (by rw [can, state, none, done]; rfl)]

/-- A slot's closing phase is all of the slots that closing writes touch. -/
theorem closeFrom_slots (n m : Fin 8) (k : Nat) (d : Device) :
    ∃ x, (closeFrom n k d).slots[m] = { d.slots[m] with closing := x } := by
  have set (x : ClosePhase) : ∃ y, (if m = n then { d.slots[n] with closing := some x } else d.slots[m]) =
      { d.slots[m] with closing := y } := by
    split
    · next same => subst same; exact ⟨_, rfl⟩
    · exact ⟨d.slots[m].closing, rfl⟩
  unfold closeFrom
  split
  · split
    · rw [writeNotRun_slots]; exact set _
    · rw [writeSummary_slots]; exact set _
  · rw [writeSummary_slots]; exact set _

theorem closeIfDrained_slots (n m : Fin 8) (d : Device) :
    ∃ x, (closeIfDrained d n).slots[m] = { d.slots[m] with closing := x } := by
  unfold closeIfDrained
  split
  · exact closeFrom_slots n m 0 d
  · exact ⟨d.slots[m].closing, rfl⟩

theorem closeDrained_slots (m : Fin 8) (d : Device) : ∃ x, (closeDrained d).slots[m] = { d.slots[m] with closing := x } := by
  unfold closeDrained
  generalize List.finRange 8 = xs
  induction xs generalizing d with
  | nil => exact ⟨d.slots[m].closing, rfl⟩
  | cons n xs ih =>
    obtain ⟨x, first⟩ := closeIfDrained_slots n m d
    obtain ⟨y, rest⟩ := ih (closeIfDrained d n)
    exact ⟨y, by rw [List.foldl_cons, rest, first]⟩

/-! ### One round of settling -/

theorem admitAll_stuck (d : Device) : (admitAll d).launch.stuck = d.launch.stuck := by
  have all : ∀ (k : Nat) (d : Device), (admitSteps k d).launch.stuck = d.launch.stuck := by
    intro k
    induction k with
    | zero => exact fun _ => rfl
    | succ k ih =>
      intro d
      unfold admitSteps admitOne
      split
      · rfl
      · next e one =>
        rw [ih]
        split at one
        · next res x _ _ =>
          cases one
          exact (admitProbe_does d x res rfl).2.2.2.2.2.2.1
        · cases one
  exact all 8 d

theorem settleOnce_frame (d : Device) : settleOnce d = { d with
    slots := (settleOnce d).slots, sched := (settleOnce d).sched, probes := (settleOnce d).probes
    launch := { (settleOnce d).launch with stuck := d.launch.stuck }, tones := (settleOnce d).tones
    dma := (settleOnce d).dma } := by
  have stuck : (settleOnce d).launch.stuck = d.launch.stuck := by
    rw [settleOnce, show (closeDrained (fetchAll (admitAll d))).launch = (admitAll d).launch by simp, admitAll_stuck]
  obtain ⟨now, fuses, regs, iface, identity, windows, rounds, taps, lead, follower, framer, areas, walks, classifier, journal⟩ :=
    settleOnce_keeps d
  rw [← stuck, ← now, ← fuses, ← regs, ← iface, ← identity, ← windows, ← rounds, ← taps, ← lead, ← follower, ← framer, ← areas,
    ← walks, ← classifier, ← journal]

theorem settleOnce_slots (d : Device) (n : Fin 8) :
    (settleOnce d).slots[n] = { d.slots[n] with closing := (settleOnce d).slots[n].closing } := by
  obtain ⟨x, closed⟩ := closeDrained_slots n (fetchAll (admitAll d))
  have slots : (fetchAll (admitAll d)).slots = d.slots := by simp
  rw [slots] at closed
  have once : (settleOnce d).slots[n] = { d.slots[n] with closing := x } := closed
  rw [once]

/-- With no campaign RUNNING or DRAINING a round does nothing. -/
theorem settleOnce_calm {d : Device} (h : ∀ n : Fin 8, d.slots[n].state ≠ .running ∧ d.slots[n].state ≠ .draining) :
    settleOnce d = d := by
  have nobody : chosen d = none := by
    refine Option.eq_none_iff_forall_ne_some.2 fun x circuit => ?_
    obtain ⟨⟨p, at_⟩, _⟩ := candidateOf_eq_some (chosen_first circuit).1
    exact (h x.slot).1 (candidateAt_eq_some.1 at_).2.2.2.1
  have fetch (n : Fin 8) : fetchPlace n (fetchPlace n d 0) 1 = d := by
    rw [fetchPlace_idle (.inr (.inl (h n).1)), fetchPlace_idle (.inr (.inl (h n).1))]
  have admitted : admitAll d = d := admitSteps_of_none 8 d (admitOne_none (.inr nobody))
  have fetched : fetchAll d = d := List.foldl_fixed' fetch _
  have closed : closeDrained d = d := List.foldl_fixed' (fun n => closeIfDrained_idle (.inr (.inl (h n).2))) _
  rw [settleOnce, admitted, fetched, closed]

/-! ### The steps of settling -/

theorem settle_refused {d : Device} {a : Access} {rest : List Access} (h : d.dma.refused = a :: rest) : settle d =
    sendIssued (settleSteps 255 (failAccess a.kind { d with dma := { d.dma with refused := rest } })) := by
  rw [settle, settleSteps, h]

theorem settle_once {d : Device} (before : d.dma.refused = []) (after : (settleOnce d).dma.refused = []) :
    settle d = sendIssued (settleOnce d) := by
  rw [settle, settleSteps, before]
  dsimp only
  rw [if_pos (by rw [after]; rfl)]

theorem settle_calm {d : Device} (h : calm d) : settle d = d := by
  obtain ⟨refused, issued, slots⟩ := h
  have once := settleOnce_calm slots
  rw [settle_once refused (by rw [once]; exact refused), once, sendIssued_nil d issued]

/-! ### Commands in ascending context number -/

theorem insertCommand_perm (c : BusCommand) (cs : List BusCommand) : (insertCommand c cs).Perm (c :: cs) := by
  induction cs with
  | nil => exact .refl _
  | cons x xs ih =>
    unfold insertCommand
    split
    · exact .refl _
    · exact (ih.cons x).trans (.swap c x xs)

theorem insertCommand_sorted (c : BusCommand) {cs : List BusCommand} (h : (cs.map (·.rank)).Pairwise (· ≤ ·)) :
    ((insertCommand c cs).map (·.rank)).Pairwise (· ≤ ·) := by
  induction cs with
  | nil => exact List.pairwise_singleton _ _
  | cons x xs ih =>
    rw [List.map_cons, List.pairwise_cons] at h
    obtain ⟨least, sorted⟩ := h
    unfold insertCommand
    split
    · next before =>
      rw [List.map_cons, List.pairwise_cons]
      refine ⟨fun r mem => ?_, by rw [List.map_cons, List.pairwise_cons]; exact ⟨least, sorted⟩⟩
      rcases List.mem_cons.1 mem with rfl | mem
      · exact Nat.le_of_lt before
      · exact Nat.le_trans (Nat.le_of_lt before) (least r mem)
    · next behind =>
      rw [List.map_cons, List.pairwise_cons]
      refine ⟨fun r mem => ?_, ih sorted⟩
      rcases List.mem_cons.1 (((insertCommand_perm c xs).map _).mem_iff.1 mem) with rfl | mem
      · exact Nat.le_of_not_lt behind
      · exact least r mem

/-! ### The decision of R63 -/

theorem admitOne_does {d : Device} {res : Resources} {x : Candidate} (resources : resources? d = some res)
    (circuit : chosen d = some x) :
    ∃ e p, admitOne d = some e ∧ e.probes.records[res.record] = some p ∧
      p.state = .launching ∧ p.slot = x.slot ∧ p.generation = d.slots[x.slot].generation ∧ p.circuit = x.circuit ∧
      p.record = x.record ∧ p.tone = res.tone ∧ p.ctx = res.ctx ∧ p.voids = (circuitEntry d x.slot x.circuit).voids ∧
      p.accums = x.record.hops.map (fun _ => Accumulator.empty) ∧ p.listenFrom = none ∧ p.lastListen = none ∧
      p.roundsListened = 0 ∧ p.launchFault = none ∧ p.cross = none ∧ p.misroute = none ∧ p.leak = none ∧
      (∀ r : Fin 16, r ≠ res.record → e.probes.records[r] = d.probes.records[r]) ∧
      e.probes.order = d.probes.order.filter (· ≠ res.record) ++ [res.record] ∧ e.probes.pointer = x.slot ∧
      e.tones[res.tone] = .held res.record ∧ (∀ t : Fin 48, t ≠ res.tone → e.tones[t] = d.tones[t]) ∧
      e.launch.contexts[res.ctx] = ⟨.arming, some res.record, x.record.point, res.tone, none⟩ ∧
      (∀ c : Fin 8, c ≠ res.ctx → e.launch.contexts[c] = d.launch.contexts[c]) ∧
      e.launch.issued = insertCommand (.launch x.record.point res.tone x.record.depth (some res.ctx)) d.launch.issued ∧
      circuitEntry e x.slot x.circuit = ⟨.inFlight, (circuitEntry d x.slot x.circuit).voids⟩ ∧
      e.sched[x.slot].stage[x.place] = .empty ∧ e.slots = d.slots ∧ e.dma = d.dma := by
  obtain ⟨records, order, pointer, tones, contexts, issued, _, entry, stage, slots, dma⟩ := admitProbe_does d x res rfl
  have record (r : Fin 16) : (admitProbe d x res).probes.records[r] =
      if r = res.record then some (newProbe d x res) else d.probes.records[r] := by rw [records]; exact vec_set_get ..
  have tone (t : Fin 48) : (admitProbe d x res).tones[t] = if t = res.tone then .held res.record else d.tones[t] := by
    rw [tones]; exact vec_set_get ..
  have context (c : Fin 8) : (admitProbe d x res).launch.contexts[c] =
      if c = res.ctx then ⟨.arming, some res.record, x.record.point, res.tone, none⟩ else d.launch.contexts[c] := by
    rw [contexts]; exact vec_set_get ..
  exact ⟨admitProbe d x res, newProbe d x res, admitOne_eq resources circuit, (record _).trans (if_pos rfl), rfl, rfl, rfl, rfl,
    rfl, rfl, rfl, rfl, rfl, rfl, rfl, rfl, rfl, rfl, rfl, rfl, fun r other => (record r).trans (if_neg other), order, pointer,
    (tone _).trans (if_pos rfl), fun t other => (tone t).trans (if_neg other), (context _).trans (if_pos rfl),
    fun c other => (context c).trans (if_neg other), issued, entry, stage, slots, dma⟩

/-- The circuit chosen (R63) is of the highest latched priority, then of the first slot after the pointer, then of the lower
index. -/
theorem chosen_best {d : Device} {x : Candidate} (h : chosen d = some x) :
    d.slots[x.slot].state = .running ∧ d.sched[x.slot].stage[x.place] = .fetched x.circuit x.record ∧
    pointHeld d x.record.point = false ∧ isStuck d x.record.point = false ∧
    ∀ (n : Fin 8) (q : Fin 2) (y : Candidate), candidateAt d n q = some y →
      d.slots[n].desc.priority ≤ d.slots[x.slot].desc.priority ∧
      (d.slots[n].desc.priority = d.slots[x.slot].desc.priority →
        x.slot - d.probes.pointer - 1 ≤ n - d.probes.pointer - 1) ∧
      (n = x.slot → x.circuit ≤ y.circuit) := by
  obtain ⟨of, best⟩ := chosen_first h
  obtain ⟨⟨p, at_⟩, lowest⟩ := candidateOf_eq_some of
  obtain ⟨_, place, fetched, running, unheld, unstuck⟩ := candidateAt_eq_some.1 at_
  rw [← place] at fetched
  refine ⟨running, fetched, unheld, unstuck, fun n q y other => ?_⟩
  obtain ⟨z, ofZ⟩ := candidateOf_isSome other
  obtain rfl := slot_of_candidate ofZ
  obtain ⟨below, tie⟩ := best z (mem_candidates ofZ)
  exact ⟨below, tie, fun same => lowest q y (by rw [← same]; exact other)⟩

/-- The slots one after another, in ascending order. -/
theorem finRange_slots : List.finRange 8 = [0, 1, 2, 3, 4, 5, 6, 7] := by decide

/-- Settles O3, by the lemmas of a round's parts. -/
theorem settleFrame : Obligations.SettleFrame := by
  refine ⟨fun d => ⟨settle_calm, fun a rest => settle_refused, settle_once, settleOnce_frame d, settleOnce_slots d,
    fun busy => sendAll_behind _ busy, fun c rest idle issued => ?_⟩, fun d => ⟨rfl, admitSteps_of_none 8 d, admitAll_admits d,
    admitAll_exhausts d, by rw [fetchAll, finRange_slots], by rw [closeDrained, finRange_slots]⟩,
    fun a sel act s h => complete_failed h act, fun c cs sorted => ⟨insertCommand_sorted c sorted, insertCommand_perm c cs⟩,
    fun d res x => admitOne_does, fun d => admitOne_none, fun d res => resources?_lowest,
    fun d r c t => resources?_isSome, fun d x => chosen_best, fun d n q none => chosen_none none n q,
    admitAll_keeps_probeLaw, fun d n q => fetchPlace_idle, fun d n q on state empty =>
      ⟨fetchPlace_none, fun c below queued unstaged first =>
        fetchPlace_fetches on state empty (nextToFetch_some below queued unstaged first)⟩,
    fun d n => closeIfDrained_idle, fun d n can state none done => ⟨fun c reason below open_ before => ?_, fun clear => ?_⟩⟩
  · rw [sendIssued, issued]
    exact sendAll_idle (d := { d with launch := { d.launch with issued := [] } }) c rest idle
  · rw [closeIfDrained_closes can state none done, closeFrom_notRun reason (nextNotRun_eq_some.2
      ⟨Nat.zero_le _, below, open_, fun b _ => before b⟩)]
    exact ⟨by rw [writeNotRun_slots, if_pos rfl], writeNotRun_writing can⟩
  · rw [closeIfDrained_closes can state none done, closeFrom_summary (clear.imp_right fun all b _ => all b)]
    exact ⟨by rw [writeSummary_slots, if_pos rfl], writeSummary_writing can⟩

end Sys2Proof.Machine.Settling

/-! ## The parts of a scan completion (1.4, 1.5, 2.2 to 2.4) -/

namespace Sys2Proof.Machine.ScanParts
open Completions Halts Slots SlotWrites

/-! ### What stands through voids -/

/-- No probe record is filled, a STOPPING context stays STOPPING, a command issued stays issued, and the entry of a circuit that
is not IN_FLIGHT stays. -/
structure Stands (d e : Device) : Prop where
  thinned : Thinned d e
  stopping : ∀ c : Fin 8, d.launch.contexts[c].state = .stopping → e.launch.contexts[c].state = .stopping
  issued : ∀ b ∈ d.launch.issued, b ∈ e.launch.issued
  entry : ∀ (n : Fin 8) (c : Nat), (circuitEntry d n c).status ≠ .inFlight → circuitEntry e n c = circuitEntry d n c

theorem Stands.of_eq {d e : Device} (probes : e.probes = d.probes) (launch : e.launch = d.launch)
    (entry : ∀ n c, circuitEntry e n c = circuitEntry d n c) : Stands d e where
  thinned := .of_eq probes
  stopping c h := by rw [launch]; exact h
  issued b h := by rw [launch]; exact h
  entry n c _ := entry n c

theorem Stands.refl (d : Device) : Stands d d := .of_eq rfl rfl fun _ _ => rfl

theorem Stands.trans {d e f : Device} (g : Stands d e) (h : Stands e f) : Stands d f where
  thinned := g.thinned.trans h.thinned
  stopping c s := h.stopping c (g.stopping c s)
  issued b m := h.issued b (g.issued b m)
  entry n c s := by rw [h.entry n c (by rw [g.entry n c s]; exact s), g.entry n c s]

theorem Stands.foldl {β : Type} {f : Device → β → Device} (h : ∀ d b, Stands d (f d b)) (xs : List β) (d : Device) :
    Stands d (xs.foldl f d) := by
  induction xs generalizing d with
  | nil => exact .refl d
  | cons x xs ih => exact (h d x).trans (ih (f d x))

theorem Stands.gone {d e : Device} (h : Stands d e) {r : Fin 16} (free : d.probes.records[r] = none) :
    e.probes.records[r] = none :=
  Option.eq_none_iff_forall_ne_some.2 fun p there => by
    have before := h.thinned.1 r p there
    rw [free] at before
    cases before

theorem mem_insertCommand {b c : BusCommand} {cs : List BusCommand} : b ∈ insertCommand c cs ↔ b = c ∨ b ∈ cs := by
  rw [(Settling.insertCommand_perm c cs).mem_iff, List.mem_cons]

theorem mem_insertCommands {b : BusCommand} (f : Fin 8 → BusCommand) (xs : List (Fin 8)) (cs : List BusCommand) :
    b ∈ xs.foldl (fun l c => insertCommand (f c) l) cs ↔ (∃ c ∈ xs, b = f c) ∨ b ∈ cs := by
  induction xs generalizing cs with
  | nil => simp
  | cons x xs ih =>
    rw [List.foldl_cons, ih, mem_insertCommand]
    simp only [List.mem_cons, exists_eq_or_imp]
    rw [or_left_comm, or_assoc]

/-- STOPs issued leave what is STOPPING and what is issued. -/
theorem stands_of_stops {d e : Device} {wanted : Fin 8 → Prop} (h : stopsIssued d e wanted) :
    (∀ c : Fin 8, d.launch.contexts[c].state = .stopping → e.launch.contexts[c].state = .stopping) ∧
    ∀ b ∈ d.launch.issued, b ∈ e.launch.issued := by
  obtain ⟨_, _, contexts, cs, _, _, issued⟩ := h
  refine ⟨fun c state => ?_, fun b mem => ?_⟩
  · by_cases stops : wanted c ∧ d.launch.contexts[c].state = .on
    · exact ((contexts c).1 stops).1
    · exact ((contexts c).2 stops).1.trans state
  · rw [issued, mem_insertCommands]
    exact .inr mem

theorem voidIf_stands (sel : Probe → Bool) (d : Device) (r : Fin 16) : Stands d (voidIf sel d r) where
  thinned := (voidIf_thins sel d r).1
  stopping c h := ((StepLaws.voidIf_sameBus sel d r).context c).1.trans h
  issued b h := by rw [(StepLaws.voidIf_sameBus sel d r).issued]; exact h
  entry n c h := (voidIf_thins sel d r).2 n c (.inl h)

theorem voidProbes_stands (sel : Probe → Bool) (d : Device) : Stands d (voidProbes sel d) where
  thinned := (voidProbes_thins sel d).1
  stopping := (stands_of_stops (voidProbes_stops sel d)).1
  issued := (stands_of_stops (voidProbes_stops sel d)).2
  entry n c h := (voidProbes_thins sel d).2 n c (.inl h)

theorem owe_stands (ch : Channel) (d : Device) : Stands d (owe ch d) := by
  obtain ⟨_, _, _, _, _, sched, _, _, probes, launch, _⟩ := owe_keeps ch d
  exact .of_eq probes launch fun n c => circuitEntry_congr sched n c

theorem issueRead_stands (k : AccessKind) (a l : Nat) (d : Device) : Stands d (issueRead k a l d) := by
  obtain ⟨x, frame⟩ := issue_frame k a l [] false d
  rw [issueRead, frame]
  exact .of_eq rfl rfl fun _ _ => rfl

theorem discardStage_stands (n : Fin 8) (d : Device) : Stands d (discardStage n d) := by
  refine .of_eq rfl rfl fun m c => ?_
  unfold circuitEntry discardStage
  rw [Device.setSched_sched_get]
  split
  · next same => rw [same]
  · rfl

theorem setSlot_stands (n : Fin 8) (x : Slot) (d : Device) : Stands d (d.setSlot n x) := .of_eq rfl rfl fun _ _ => rfl

theorem drainSlot_stands (n : Fin 8) (r : Reason) (d : Device) : Stands d (drainSlot n r d) := by
  unfold drainSlot
  dsimp only
  split
  · split
    · exact (setSlot_stands n _ d).trans (owe_stands _ _)
    · exact .refl d
  · split
    · exact (((setSlot_stands n _ d).trans (owe_stands _ _)).trans (discardStage_stands n _)).trans (voidProbes_stands _ _)
    · exact .refl d

theorem actOnRequest_stands (n : Fin 8) (k : RequestKind) (d : Device) : Stands d (actOnRequest n k d) := by
  cases k with
  | submit =>
    have owed : Stands d (owe (.shadow n) (d.setSlot n (d.slots[n].submitted d.iface.mode))) :=
      (setSlot_stands n _ d).trans (owe_stands _ _)
    show Stands d (takeSubmit n d)
    by_cases h : d.iface.mode = some .follow
    · rw [takeSubmit_follow h]; exact owed
    · rw [takeSubmit_lead h]; exact owed.trans (issueRead_stands _ _ _ _)
  | abort => exact drainSlot_stands n .aborted d
  | release =>
    have swept : Stands d (d.setArea n { d.areas[n] with sweep := some 0 }) := .of_eq rfl rfl fun _ _ => rfl
    exact (swept.trans (setSlot_stands n _ _)).trans (owe_stands _ _)
  | other => exact .refl d

theorem judgeRequest_stands (area : List Byte) (d : Device) (n : Fin 8) : Stands d (judgeRequest area d n) := by
  unfold judgeRequest
  dsimp only
  split
  · exact .refl d
  · split
    · exact (setSlot_stands n _ d).trans (actOnRequest_stands n _ _)
    · exact (setSlot_stands n _ d).trans (owe_stands _ _)

theorem progressShadow_stands (d : Device) (n : Fin 8) : Stands d (progressShadow d n) := by
  unfold progressShadow
  split
  · exact .refl d
  · exact owe_stands _ _

theorem readConsumed_stands (d : Device) : Stands d (readConsumed d) := by
  unfold readConsumed
  split
  · exact .of_eq rfl rfl fun _ _ => rfl
  · exact issueRead_stands _ _ _ _

/-! ### Voids of one circuit -/

theorem requeue_circuit {n : Fin 8} {c v : Nat} {d : Device} (h : circuitEntry d n c = ⟨.inFlight, v⟩) :
    circuitEntry (requeue n c d) n c = ⟨.queued, min (v + 1) 255⟩ := by
  unfold requeue
  rw [h]
  dsimp only
  rw [if_pos rfl, setCircuit_entry n n c c _ d (by simp [CircuitEntry.fresh]), if_pos ⟨rfl, rfl⟩]

theorem voidProbe_circuit {r : Fin 16} {p : Probe} {d : Device} {v : Nat} (h : d.probes.records[r] = some p)
    (launched : p.state ≠ .evaluating) (entry : circuitEntry d p.slot p.circuit = ⟨.inFlight, v⟩) :
    circuitEntry (voidProbe r d) p.slot p.circuit = ⟨.queued, min (v + 1) 255⟩ := by
  have sched : (releaseOwner p.ctx r (voidTone r p d)).sched = d.sched := by unfold voidTone; split <;> simp
  unfold voidProbe
  rw [h]
  dsimp only
  rw [if_neg launched]
  exact (circuitEntry_congr (d := requeue p.slot p.circuit (releaseOwner p.ctx r (voidTone r p d))) (by simp) _ _).trans
    (requeue_circuit ((circuitEntry_congr sched _ _).trans entry))

/-- A void leaves a circuit IN_FLIGHT as it is, or QUEUED with its void counted. -/
theorem voidIf_circuit (sel : Probe → Bool) (d : Device) (x : Fin 16) {n : Fin 8} {c v : Nat}
    (entry : circuitEntry d n c = ⟨.inFlight, v⟩) : circuitEntry (voidIf sel d x) n c = ⟨.inFlight, v⟩ ∨
      circuitEntry (voidIf sel d x) n c = ⟨.queued, min (v + 1) 255⟩ := by
  unfold voidIf
  split
  · next q there =>
    split
    · by_cases same : q.slot = n ∧ q.circuit = c
      · obtain ⟨rfl, rfl⟩ := same
        by_cases launched : q.state = .evaluating
        · refine .inl ?_
          unfold voidProbe
          rw [there]
          dsimp only
          rw [if_pos launched]
          exact entry
        · exact .inr (voidProbe_circuit there launched entry)
      · refine .inl (((voidProbe_thins x d).2 n c (.inr fun p h slot circuit => same ?_)).trans entry)
        rw [there] at h
        cases h
        exact ⟨slot, circuit⟩
    · exact .inl entry
  · exact .inl entry

/-- The voids of several probes requeue the circuit of each. -/
theorem voids_circuit (sel : Probe → Bool) {r : Fin 16} {p : Probe} {v : Nat} (passes : sel p = true)
    (launched : p.state ≠ .evaluating) (xs : List (Fin 16)) (mem : r ∈ xs) (d : Device) (h : d.probes.records[r] = some p)
    (entry : circuitEntry d p.slot p.circuit = ⟨.inFlight, v⟩) :
    circuitEntry (xs.foldl (voidIf sel) d) p.slot p.circuit = ⟨.queued, min (v + 1) 255⟩ := by
  induction xs generalizing d with
  | nil => cases mem
  | cons x xs ih =>
    rw [List.foldl_cons]
    have rest (queued : circuitEntry (voidIf sel d x) p.slot p.circuit = ⟨.queued, min (v + 1) 255⟩) :
        circuitEntry (xs.foldl (voidIf sel) (voidIf sel d x)) p.slot p.circuit = ⟨.queued, min (v + 1) 255⟩ := by
      rw [(Stands.foldl (voidIf_stands sel) xs (voidIf sel d x)).entry _ _ (by rw [queued]; simp), queued]
    by_cases own : r = x
    · subst own
      have here : voidIf sel d r = voidProbe r d := by
        unfold voidIf
        rw [h]
        dsimp only
        rw [if_pos passes]
      exact rest (by rw [here]; exact voidProbe_circuit h launched entry)
    · rcases voidIf_circuit sel d x entry with still | queued
      · exact ih ((List.mem_cons.1 mem).resolve_left own) _ (by rw [voidIf_records, if_neg own, h]) still
      · exact rest queued

theorem voidProbes_circuit {sel : Probe → Bool} {d : Device} {r : Fin 16} {p : Probe} {v : Nat}
    (h : d.probes.records[r] = some p) (passes : sel p = true) (launched : p.state ≠ .evaluating)
    (entry : circuitEntry d p.slot p.circuit = ⟨.inFlight, v⟩) :
    circuitEntry (voidProbes sel d) p.slot p.circuit = ⟨.queued, min (v + 1) 255⟩ := by
  have queued := voids_circuit sel passes launched _ (List.mem_finRange r) d h entry
  unfold voidProbes
  generalize (List.finRange 16).foldl (voidIf sel) d = e at queued
  obtain ⟨l, frame, _⟩ := requestStops_frame (soundingContexts sel d) e
  rw [frame]
  exact queued

/-- What the voids of several probes leave of one of them. -/
theorem voidProbes_voided {sel : Probe → Bool} {d : Device} {r : Fin 16} {p : Probe} (h : d.probes.records[r] = some p)
    (passes : sel p = true) (launched : p.state ≠ .evaluating) : (voidProbes sel d).probes.records[r] = none ∧
      ((p.state = .armed ∨ p.state = .listening) → d.launch.contexts[p.ctx].state = .on →
        (voidProbes sel d).launch.contexts[p.ctx].state = .stopping ∧
        .stop d.launch.contexts[p.ctx].point (some p.ctx) ∈ (voidProbes sel d).launch.issued) := by
  refine ⟨by rw [voidProbes_records, h, spared_gone passes launched], fun sounds on => ?_⟩
  obtain ⟨_, _, contexts, cs, _, mem, issued⟩ := voidProbes_stops sel d
  have stops : sounding d (fun p => sel p = true) p.ctx ∧ d.launch.contexts[p.ctx].state = .on :=
    ⟨⟨r, p, h, passes, sounds, rfl⟩, on⟩
  refine ⟨((contexts p.ctx).1 stops).1, ?_⟩
  rw [issued, mem_insertCommands (fun c => .stop d.launch.contexts[c].point (some c))]
  exact .inl ⟨p.ctx, (mem p.ctx).2 stops, rfl⟩

/-! ### The windows' wants -/

/-- The device once every window has taken its want. -/
def wanted (area : List Byte) (d : Device) : Device :=
  (List.finRange 4).foldl (fun d w => updateWindow w (d.windows[w].applyWant (wantClosed area w) (holdOff area w)) d) d

theorem applyWants_eq (area : List Byte) (d : Device) : applyWants area d = suspendBound (reopening area d) (wanted area d) := rfl

theorem wanted_frame (area : List Byte) (d : Device) : ∃ w x, wanted area d = { d with windows := w, dma := x } := by
  unfold wanted
  generalize List.finRange 4 = xs
  induction xs generalizing d with
  | nil => exact ⟨d.windows, d.dma, rfl⟩
  | cons x xs ih =>
    obtain ⟨w, y, rest⟩ := ih (updateWindow x (d.windows[x].applyWant (wantClosed area x) (holdOff area x)) d)
    have one : ∃ v z, updateWindow x (d.windows[x].applyWant (wantClosed area x) (holdOff area x)) d =
        { d with windows := v, dma := z } := by
      unfold updateWindow
      split
      · exact ⟨d.windows, d.dma, rfl⟩
      · obtain ⟨z, hz⟩ := oweAs_plain false (.window x)
          (d.setWindow x (d.windows[x].applyWant (wantClosed area x) (holdOff area x))) rfl
        exact ⟨_, z, hz⟩
    obtain ⟨v, z, one⟩ := one
    exact ⟨w, y, by rw [List.foldl_cons, rest, one]⟩

theorem wanted_windows (area : List Byte) (d : Device) (w : Fin 4) :
    (wanted area d).windows[w] = d.windows[w].applyWant (wantClosed area w) (holdOff area w) ∧
    ((wanted area d).windows[w] ≠ d.windows[w] → windowDue d (wanted area d) w) := by
  obtain ⟨windows, _, due⟩ := updateWindows_due (fun w x => x.applyWant (wantClosed area w) (holdOff area w)) (List.finRange 4) d
    (List.nodup_finRange 4)
  exact ⟨(windows w).trans (if_pos (List.mem_finRange w)), due w⟩

theorem wanted_adds {q : AccessKind → Bool} (area : List Byte) (d : Device)
    (h : ∀ w c b, q (.channelWrite (.window w) c b) = false) : Adds q d (wanted area d) :=
  Adds.foldl _ (fun d w => updateWindow_adds w _ d (h w)) _ d

/-! ### The campaigns suspended -/

/-- A slot's campaign is suspended by the wants of a request area (R29, R34). -/
def suspends (area : List Byte) (d : Device) (n : Fin 8) : Prop :=
  d.iface.mode = some .lead ∧ d.slots[n].state = .running ∧
    ∃ w : Fin 4, d.slots[n].desc.windowId = w.val ∧ d.windows[w].phase = .quiet ∧ wantClosed area w = false

theorem mem_suspended (area : List Byte) (d : Device) (n : Fin 8) :
    n ∈ boundSlots (wanted area d) (reopening area d) [.running] ↔ suspends area d n := by
  obtain ⟨w, x, frame⟩ := wanted_frame area d
  rw [frame]
  unfold boundSlots suspends
  dsimp only
  split
  · next lead =>
    simp only [List.mem_filter, List.mem_finRange, true_and, Bool.and_eq_true, List.contains_iff_mem, List.mem_cons,
      List.not_mem_nil, or_false, List.any_eq_true, reopening, boundTo, beq_iff_eq, Bool.not_eq_true']
    exact ⟨fun ⟨state, v, quiet, bound⟩ => ⟨lead, state, v, bound, quiet⟩, fun ⟨_, state, v, bound, quiet⟩ => ⟨state, v, quiet, bound⟩⟩
  · next follow => exact ⟨fun bad => absurd bad List.not_mem_nil, fun h => absurd h.1 follow⟩

theorem moveSlots_noted (st : SlotState) (xs : List (Fin 8)) (d : Device) (n : Fin 8) :
    Noted { d.slots[n] with state := if n ∈ xs then st else d.slots[n].state } (xs.foldl (fun d n => moveSlot n st d) d).slots[n] := by
  induction xs generalizing d with
  | nil => exact .refl _
  | cons x xs ih =>
    rw [List.foldl_cons]
    obtain ⟨k, b, rest⟩ := ih (moveSlot x st d)
    rw [rest]
    by_cases own : n = x
    · subst own
      obtain ⟨j, a, moved⟩ := moveSlot_noted n st d
      rw [moved, if_pos (List.mem_cons_self ..)]
      refine ⟨k, b, ?_⟩
      simp
    · obtain ⟨j, a, moved⟩ := moveSlot_slots x n st d
      rw [moved, if_neg own]
      exact ⟨k, b, by simp [own]⟩

/-- A slot's state once the wants have been applied. -/
theorem applyWants_slot (area : List Byte) (d : Device) (n : Fin 8) {st : SlotState}
    (suspended : suspends area d n → st = .suspended) (stays : ¬suspends area d n → st = d.slots[n].state) :
    Noted { d.slots[n] with state := st } (applyWants area d).slots[n] := by
  have noted := moveSlots_noted .suspended (boundSlots (wanted area d) (reopening area d) [.running]) (wanted area d) n
  obtain ⟨w, x, frame⟩ := wanted_frame area d
  have slots : (wanted area d).slots[n] = d.slots[n] := by rw [frame]
  rw [applyWants_eq, suspendBound, voidProbes_slots]
  rw [slots] at noted
  by_cases h : suspends area d n
  · rw [if_pos ((mem_suspended area d n).2 h)] at noted; rw [suspended h]; exact noted
  · rw [if_neg (mt (mem_suspended area d n).1 h)] at noted; rw [stays h]; exact noted

theorem moveSlots_stands (st : SlotState) (xs : List (Fin 8)) (d : Device) : Stands d (xs.foldl (fun d n => moveSlot n st d) d) :=
  .foldl (fun d n => (setSlot_stands n _ d).trans (owe_stands _ _)) xs d

/-- What a suspension leaves of a probe of the slot. -/
theorem applyWants_voids {area : List Byte} {d : Device} {r : Fin 16} {p : Probe} (h : d.probes.records[r] = some p)
    (launched : p.state ≠ .evaluating) (suspended : suspends area d p.slot) :
    (applyWants area d).probes.records[r] = none ∧
    ((p.state = .armed ∨ p.state = .listening) → d.launch.contexts[p.ctx].state = .on →
      (applyWants area d).launch.contexts[p.ctx].state = .stopping ∧
      .stop d.launch.contexts[p.ctx].point (some p.ctx) ∈ (applyWants area d).launch.issued) ∧
    (∀ v, circuitEntry d p.slot p.circuit = ⟨.inFlight, v⟩ →
      circuitEntry (applyWants area d) p.slot p.circuit = ⟨.queued, min (v + 1) 255⟩) := by
  obtain ⟨w, x, frame⟩ := wanted_frame area d
  have mem : p.slot ∈ boundSlots (wanted area d) (reopening area d) [.running] := (mem_suspended area d p.slot).2 suspended
  rw [applyWants_eq, suspendBound]
  generalize boundSlots (wanted area d) (reopening area d) [.running] = ns at mem
  have same : ∀ xs : List (Fin 8), ∀ e : Device, (xs.foldl (fun d n => moveSlot n .suspended d) e).probes = e.probes ∧
      (xs.foldl (fun d n => moveSlot n .suspended d) e).launch = e.launch ∧
      (xs.foldl (fun d n => moveSlot n .suspended d) e).sched = e.sched := fun xs e =>
    ⟨foldl_keeps (·.probes) _ (by simp) xs e, foldl_keeps (·.launch) _ (by simp) xs e, foldl_keeps (·.sched) _ (by simp) xs e⟩
  obtain ⟨probes, launch, sched⟩ := same ns (wanted area d)
  generalize ns.foldl (fun d n => moveSlot n .suspended d) (wanted area d) = e at probes launch sched
  have probes : e.probes = d.probes := by rw [probes, frame]
  have launch : e.launch = d.launch := by rw [launch, frame]
  have sched : e.sched = d.sched := by rw [sched, frame]
  have there : e.probes.records[r] = some p := by rw [probes]; exact h
  have passes : ns.contains p.slot = true := List.contains_iff_mem.2 mem
  obtain ⟨gone, stops⟩ := voidProbes_voided (sel := fun p => ns.contains p.slot) there passes launched
  rw [← launch]
  refine ⟨gone, stops, fun v entry => voidProbes_circuit (sel := fun p => ns.contains p.slot) there passes launched ?_⟩
  rw [circuitEntry_congr sched, entry]

end Sys2Proof.Machine.ScanParts

/-! ## Scan completions (1.4, 1.5, 2.2 to 2.4) -/

namespace Sys2Proof.Machine.Scans
open Completions Halts Slots SlotWrites ScanParts

/-! ### A slot judged -/

/-- The state a request taken leaves (R17, R20, R21). -/
def takenState (mode : Option Mode) (st : SlotState) : RequestKind → SlotState
  | .submit => if mode = some .follow then .rejected else .validating
  | .abort => .draining
  | .release => .sweeping
  | .other => st

/-- The state a request word with a changed sequence leaves (R16). -/
def judgedState (mode : Option Mode) (st : SlotState) (k : RequestKind) : SlotState :=
  if requestTaken st k = false then st else takenState mode st k

theorem judgedState_ignored {mode : Option Mode} {st : SlotState} {k : RequestKind} (h : requestTaken st k = false) :
    judgedState mode st k = st := if_pos h

theorem judgedState_taken {mode : Option Mode} {st : SlotState} {k : RequestKind} (h : requestTaken st k = true) :
    judgedState mode st k = takenState mode st k := if_neg (by rw [h]; simp)

theorem actOnRequest_state {n : Fin 8} {k : RequestKind} {d : Device} (taken : requestTaken d.slots[n].state k = true) :
    (actOnRequest n k d).slots[n].state = judgedState d.iface.mode d.slots[n].state k := by
  rw [judgedState_taken taken]
  cases k with
  | submit => exact (takeSubmit_noted n d).fields.1
  | abort => exact (drainSlot_noted (r := .aborted) taken).fields.1
  | release =>
    exact (owe_setSlot_noted n { d.slots[n] with state := .sweeping, announce := false }
      (d.setArea n { d.areas[n] with sweep := some 0 })).fields.1
  | other => rfl

/-- A slot judged keeps its descriptor, but for a SUBMIT taken. -/
theorem actOnRequest_desc {n : Fin 8} {k : RequestKind} {d : Device} (taken : requestTaken d.slots[n].state k = true)
    (other : k ≠ .submit) : (actOnRequest n k d).slots[n].desc = d.slots[n].desc := by
  cases k with
  | submit => exact absurd rfl other
  | abort => exact (drainSlot_noted (r := .aborted) taken).fields.2.2.2.2.2.2.1
  | release =>
    exact (owe_setSlot_noted n { d.slots[n] with state := .sweeping, announce := false }
      (d.setArea n { d.areas[n] with sweep := some 0 })).fields.2.2.2.2.2.2.1
  | other => rfl

theorem judgeRequest_lastSeq (area : List Byte) (n : Fin 8) (d : Device) :
    (judgeRequest area d n).slots[n].lastSeq = requestSequence area n := by
  by_cases same : requestSequence area n = d.slots[n].lastSeq
  · rw [judgeRequest_same same, same]
  · cases taken : requestTaken d.slots[n].state (requestKind area n) with
    | false => rw [judgeRequest_ignored same taken]; exact (owe_setSlot_noted n _ d).fields.2.2.2.1
    | true =>
      rw [judgeRequest_taken same taken, (actOnRequest_noted ?_).1, Device.setSlot_slots_get, if_pos rfl]
      rw [Device.setSlot_slots_get, if_pos rfl]; exact taken

/-- A request word with a changed sequence: the outcome, the state it leaves, and the descriptor. -/
theorem judgeRequest_judges {area : List Byte} {n : Fin 8} {d : Device} (h : requestSequence area n ≠ d.slots[n].lastSeq) :
    (judgeRequest area d n).slots[n].outcome =
      (if requestTaken d.slots[n].state (requestKind area n) then .taken else .ignored) ∧
    (judgeRequest area d n).slots[n].state = judgedState d.iface.mode d.slots[n].state (requestKind area n) ∧
    (((judgeRequest area d n).slots[n].state = .waiting ∨ (judgeRequest area d n).slots[n].state = .suspended) →
      (judgeRequest area d n).slots[n].desc = d.slots[n].desc) := by
  cases taken : requestTaken d.slots[n].state (requestKind area n) with
  | false =>
    rw [judgeRequest_ignored h taken]
    obtain ⟨state, -, -, -, outcome, -, desc, -⟩ :=
      (owe_setSlot_noted n { d.slots[n] with lastSeq := requestSequence area n, outcome := .ignored } d).fields
    refine ⟨outcome, ?_, fun _ => desc⟩
    rw [state, judgedState_ignored taken]
  | true =>
    rw [judgeRequest_taken h taken]
    generalize he : d.setSlot n { d.slots[n] with lastSeq := requestSequence area n, outcome := .taken } = e
    have slot : e.slots[n] = { d.slots[n] with lastSeq := requestSequence area n, outcome := .taken } := by
      rw [← he, Device.setSlot_slots_get, if_pos rfl]
    have mode : e.iface.mode = d.iface.mode := by rw [← he]; rfl
    have takenE : requestTaken e.slots[n].state (requestKind area n) = true := by rw [slot]; exact taken
    have state := actOnRequest_state takenE
    rw [mode, slot] at state
    refine ⟨?_, state, fun waits => ?_⟩
    · rw [(actOnRequest_noted takenE).2, slot]; rfl
    · by_cases submit : requestKind area n = .submit
      · rw [state, judgedState_taken taken, submit] at waits
        have shown (st : SlotState) : takenState d.iface.mode st .submit = .rejected ∨ takenState d.iface.mode st .submit = .validating :=
          ite_eq_or_eq _ _ _
        rcases shown d.slots[n].state with shows | shows <;> rw [shows] at waits <;> simp at waits
      · rw [actOnRequest_desc takenE submit, slot]

/-! ### What a scan completion leaves alone -/

/-- The clock, the board interface, the identity, the windows, the rounds, the link and the journal are the same. -/
structure Aside (d e : Device) : Prop where
  now : e.now = d.now
  iface : e.iface = d.iface
  identity : e.identity = d.identity
  windows : e.windows = d.windows
  rounds : e.rounds = d.rounds
  lead : e.lead = d.lead
  follower : e.follower = d.follower
  journal : e.journal = d.journal

theorem Aside.refl (d : Device) : Aside d d := ⟨rfl, rfl, rfl, rfl, rfl, rfl, rfl, rfl⟩

theorem Aside.trans {d e f : Device} (g : Aside d e) (h : Aside e f) : Aside d f :=
  ⟨h.now.trans g.now, h.iface.trans g.iface, h.identity.trans g.identity, h.windows.trans g.windows, h.rounds.trans g.rounds,
    h.lead.trans g.lead, h.follower.trans g.follower, h.journal.trans g.journal⟩

theorem Aside.foldl {β : Type} {f : Device → β → Device} (h : ∀ d b, Aside d (f d b)) (xs : List β) (d : Device) :
    Aside d (xs.foldl f d) := by
  induction xs generalizing d with
  | nil => exact .refl d
  | cons x xs ih => exact (h d x).trans (ih (f d x))

theorem owe_aside (ch : Channel) (d : Device) : Aside d (owe ch d) := by constructor <;> simp

theorem setSlot_aside (n : Fin 8) (x : Slot) (d : Device) : Aside d (d.setSlot n x) := ⟨rfl, rfl, rfl, rfl, rfl, rfl, rfl, rfl⟩

theorem drainSlot_aside (n : Fin 8) (r : Reason) (d : Device) : Aside d (drainSlot n r d) := by constructor <;> simp

theorem actOnRequest_aside (n : Fin 8) (k : RequestKind) (d : Device) : Aside d (actOnRequest n k d) := by
  cases k with
  | submit =>
    have owed : Aside d (owe (.shadow n) (d.setSlot n (d.slots[n].submitted d.iface.mode))) :=
      (setSlot_aside n _ d).trans (owe_aside _ _)
    show Aside d (takeSubmit n d)
    by_cases h : d.iface.mode = some .follow
    · rw [takeSubmit_follow h]; exact owed
    · rw [takeSubmit_lead h]; exact owed.trans (by constructor <;> simp [readDescriptor])
  | abort => exact drainSlot_aside n .aborted d
  | release =>
    have swept : Aside d (d.setArea n { d.areas[n] with sweep := some 0 }) := ⟨rfl, rfl, rfl, rfl, rfl, rfl, rfl, rfl⟩
    exact (swept.trans (setSlot_aside n _ _)).trans (owe_aside _ _)
  | other => exact .refl d

theorem judgeRequest_aside (area : List Byte) (d : Device) (n : Fin 8) : Aside d (judgeRequest area d n) := by
  unfold judgeRequest
  dsimp only
  split
  · exact .refl d
  · split
    · exact (setSlot_aside n _ d).trans (actOnRequest_aside n _ _)
    · exact (setSlot_aside n _ d).trans (owe_aside _ _)

theorem progressShadow_aside (d : Device) (n : Fin 8) : Aside d (progressShadow d n) := by
  unfold progressShadow
  split
  · exact .refl d
  · exact owe_aside _ _

theorem suspendBound_aside (ws : List (Fin 4)) (d : Device) : Aside d (suspendBound ws d) := by constructor <;> simp

/-! ### The slots judged in turn -/

/-- A reaction that takes the slots in turn, each changing its own alone: what it makes of one of them. -/
theorem foldl_slot {g : Device → Fin 8 → Device} (others : ∀ (d : Device) (m n : Fin 8), n ≠ m → (g d m).slots[n] = d.slots[n])
    (aside : ∀ d m, Aside d (g d m)) (n : Fin 8) (d : Device) : ∃ e, e.slots[n] = d.slots[n] ∧ Aside d e ∧
      ((List.finRange 8).foldl g d).slots[n] = (g e n).slots[n] := by
  have behind : ∀ (xs : List (Fin 8)) (d : Device), n ∉ xs → (xs.foldl g d).slots[n] = d.slots[n] := by
    intro xs
    induction xs with
    | nil => exact fun _ _ => rfl
    | cons x xs ih =>
      intro d out
      rw [List.foldl_cons, ih _ (fun m => out (List.mem_cons_of_mem _ m)), others d x n (fun e => out (e ▸ List.mem_cons_self ..))]
  have all : ∀ (xs : List (Fin 8)) (d : Device), xs.Nodup → n ∈ xs → ∃ e, e.slots[n] = d.slots[n] ∧ Aside d e ∧
      (xs.foldl g d).slots[n] = (g e n).slots[n] := by
    intro xs
    induction xs with
    | nil => exact fun _ _ mem => absurd mem List.not_mem_nil
    | cons x xs ih =>
      intro d nodup mem
      obtain ⟨fresh, nodup⟩ := List.nodup_cons.1 nodup
      by_cases own : n = x
      · subst own
        exact ⟨d, rfl, .refl d, behind xs _ fresh⟩
      · obtain ⟨e, slot, kept, judged⟩ := ih (g d x) nodup ((List.mem_cons.1 mem).resolve_left own)
        exact ⟨e, slot.trans (others d x n own), (aside d x).trans kept, judged⟩
  exact all _ d (List.nodup_finRange 8) (List.mem_finRange n)

theorem judgeRequests_slot (area : List Byte) (n : Fin 8) (d : Device) : ∃ e, e.slots[n] = d.slots[n] ∧ Aside d e ∧
    ((List.finRange 8).foldl (judgeRequest area) d).slots[n] = (judgeRequest area e n).slots[n] :=
  foldl_slot (judgeRequest_slots area) (judgeRequest_aside area) n d

theorem progressShadows_noted (n : Fin 8) (d : Device) :
    Noted d.slots[n] ((List.finRange 8).foldl progressShadow d).slots[n] := by
  generalize List.finRange 8 = xs
  induction xs generalizing d with
  | nil => exact .refl _
  | cons x xs ih =>
    have one : Noted d.slots[n] (progressShadow d x).slots[n] := by
      unfold progressShadow
      split
      · exact .refl _
      · by_cases own : n = x
        · subst own; exact owe_shadow_noted n d
        · rw [owe_shadow_slots x n d own]; exact .refl _
    obtain ⟨j, a, first⟩ := one
    obtain ⟨k, b, rest⟩ := ih (progressShadow d x)
    exact ⟨k, b, by rw [List.foldl_cons, rest, first]⟩

/-! ### The sequence of the settings -/

/-- What the request area's settings sequence and HOLD make of the rounds, and the settings read (R53, R54). -/
theorem takeSequence_does (area : List Byte) (d : Device) {e : Device} (h : e = takeSequence area d) :
    (∃ x b, e = { d with rounds := { d.rounds with
      hold := areaHold area, requested := some (areaSequence area), readPending := b }, dma := x }) ∧
    (d.rounds.requested = some (areaSequence area) → e.rounds.readPending = d.rounds.readPending) ∧
    (d.rounds.requested ≠ some (areaSequence area) →
      (live d isSettingsRead = true → e.rounds.readPending = true) ∧
      (live d isSettingsRead = false → e.rounds.readPending = d.rounds.readPending ∧
        (canAccess d = true → inWindow d.iface.bounds (boardAddr d 0x100) 1024 = true →
          inFlight e (boardAddr d 0x100) 1024 (.settingsRead (areaSequence area))))) := by
  rw [h]
  by_cases same : d.rounds.requested = some (areaSequence area)
  · have done : takeSequence area d = { d with rounds := { d.rounds with hold := areaHold area } } := by
      unfold takeSequence
      dsimp only
      rw [if_pos same]
    rw [done]
    exact ⟨⟨d.dma, d.rounds.readPending, by rw [← same]⟩, fun _ => rfl, fun other => absurd same other⟩
  · generalize hz : ({ d with rounds := { d.rounds with hold := areaHold area, requested := some (areaSequence area) } } : Device) = z
    have iface : z.iface = d.iface := by rw [← hz]
    have live_z : live z isSettingsRead = live d isSettingsRead := by rw [← hz]; rfl
    have done : takeSequence area d = if live z isSettingsRead then { z with rounds := { z.rounds with readPending := true } }
        else readSettings (areaSequence area) z := by
      unfold takeSequence
      dsimp only
      rw [if_neg same, ← hz]
    rw [done, live_z]
    cases waits : live d isSettingsRead with
    | true =>
      rw [if_pos rfl, ← hz]
      exact ⟨⟨_, _, rfl⟩, fun e => absurd e same, fun _ => ⟨fun _ => rfl, fun bad => absurd bad (by simp)⟩⟩
    | false =>
      rw [if_neg (by simp), readSettings]
      obtain ⟨x, frame⟩ := issue_frame (.settingsRead (areaSequence area)) (boardAddr z 0x100) 1024 [] false z
      refine ⟨⟨x, d.rounds.readPending, ?_⟩, fun e => absurd e same, fun _ => ⟨fun bad => absurd bad (by simp), fun _ => ⟨?_,
        fun can within => ?_⟩⟩⟩
      · rw [issueRead, frame, ← hz]
      · rw [(issueRead_keeps _ _ _ _).2.2.2.2.2.2.2.2.1, ← hz]
      · have addr : boardAddr z 0x100 = boardAddr d 0x100 := by rw [boardAddr, iface]; rfl
        rw [← addr]
        exact inFlight_issue (d := z) (by rw [canAccess, iface]; exact can) (by rw [addr, iface]; exact within)

/-! ### The consumed count -/

theorem readConsumed_does (d : Device) {e : Device} (h : e = readConsumed d) :
    (∃ b x, e = { d with journal := { d.journal with readPending := b }, dma := x }) ∧
    (live d isConsumedRead = true → e.journal.readPending = true) ∧
    (live d isConsumedRead = false → e.journal.readPending = d.journal.readPending ∧
      (canAccess d = true → inWindow d.iface.bounds (boardAddr d 0x18) 4 = true →
        inFlight e (boardAddr d 0x18) 4 .consumedRead)) := by
  rw [h, readConsumed]
  cases waits : live d isConsumedRead with
  | true =>
    rw [if_pos rfl]
    exact ⟨⟨_, _, rfl⟩, fun _ => rfl, fun bad => absurd bad (by simp)⟩
  | false =>
    rw [if_neg (by simp)]
    obtain ⟨x, frame⟩ := issue_frame .consumedRead (boardAddr d 0x18) 4 [] false d
    refine ⟨⟨d.journal.readPending, x, frame⟩, fun bad => absurd bad (by simp), fun _ => ⟨?_, fun can within =>
      inFlight_issue can within⟩⟩
    rw [issueRead, frame]

end Sys2Proof.Machine.Scans

/-! ## The scan read's completion (1.4) -/

namespace Sys2Proof.Machine.ScanReads
open Completions Halts Slots SlotWrites ScanParts Scans

/-! ### A scan completion, as a whole -/

/-- The devices a scan completion passes through. -/
theorem scanComplete_steps (area : List Byte) (d : Device) : ∃ e1 e2 e3 e4, e1 = takeSequence area d ∧ e2 = applyWants area e1 ∧
    e3 = (List.finRange 8).foldl (judgeRequest area) e2 ∧ e4 = (List.finRange 8).foldl progressShadow e3 ∧
    scanComplete area d = readConsumed e4 := ⟨_, _, _, _, rfl, rfl, rfl, rfl, rfl⟩

theorem applyWants_adding {q : AccessKind → Bool} (area : List Byte) (d : Device)
    (window : ∀ w c b, q (.channelWrite (.window w) c b) = false) (shadow : ∀ n c b, q (.channelWrite (.shadow n) c b) = false) :
    Adds q d (applyWants area d) := (wanted_adds area d window).trans (suspendBound_adds _ _ shadow)

theorem judgeRequests_adding {q : AccessKind → Bool} (area : List Byte) (d : Device)
    (shadow : ∀ n c b, q (.channelWrite (.shadow n) c b) = false) (descriptor : ∀ n, q (.descriptorRead n) = false) :
    Adds q d ((List.finRange 8).foldl (judgeRequest area) d) :=
  .foldl _ (fun d n => judgeRequest_adds area d n (shadow n) (descriptor n)) _ d

theorem progressShadows_adding {q : AccessKind → Bool} (d : Device) (shadow : ∀ n c b, q (.channelWrite (.shadow n) c b) = false) :
    Adds q d ((List.finRange 8).foldl progressShadow d) := by
  refine .foldl _ (fun d n => ?_) _ d
  unfold progressShadow
  split
  · exact .refl q d
  · exact owe_adds _ _ (shadow n)

/-- A scan completion adds settings reads, the accesses of its wants, shadow, descriptor and consumed accesses only. -/
theorem scanComplete_adding {q : AccessKind → Bool} (area : List Byte) (d : Device) (settings : ∀ x, q (.settingsRead x) = false)
    (wants : Adds q (takeSequence area d) (wanted area (takeSequence area d)))
    (shadow : ∀ n c b, q (.channelWrite (.shadow n) c b) = false)
    (descriptor : ∀ n, q (.descriptorRead n) = false) (consumed : q .consumedRead = false) : Adds q d (scanComplete area d) := by
  obtain ⟨e1, e2, e3, e4, h1, h2, h3, h4, h5⟩ := scanComplete_steps area d
  rw [← h1] at wants
  have sequence : Adds q d e1 := by rw [h1]; exact takeSequence_adds area d settings
  have applied : Adds q e1 e2 := by rw [h2, applyWants_eq]; exact wants.trans (suspendBound_adds _ _ shadow)
  have judged : Adds q e2 e3 := by rw [h3]; exact judgeRequests_adding area e2 shadow descriptor
  have shown : Adds q e3 e4 := by rw [h4]; exact progressShadows_adding e3 shadow
  rw [h5]
  exact (((sequence.trans applied).trans judged).trans shown).trans (readConsumed_adds e4 consumed)

theorem scanComplete_adds {q : AccessKind → Bool} (area : List Byte) (d : Device) (settings : ∀ x, q (.settingsRead x) = false)
    (window : ∀ w c b, q (.channelWrite (.window w) c b) = false) (shadow : ∀ n c b, q (.channelWrite (.shadow n) c b) = false)
    (descriptor : ∀ n, q (.descriptorRead n) = false) (consumed : q .consumedRead = false) : Adds q d (scanComplete area d) :=
  scanComplete_adding area d settings (wanted_adds area _ window) shadow descriptor consumed

/-- The fields a scan completion keeps, and what it makes of the rounds, the windows and the journal. -/
theorem scanComplete_frame (area : List Byte) (d : Device) {f : Device} (h : f = scanComplete area d) :
    f.now = d.now ∧ f.iface = d.iface ∧ f.identity = d.identity ∧ f.lead = d.lead ∧ f.follower = d.follower ∧
    f.journal = { d.journal with readPending := f.journal.readPending } ∧
    f.rounds = { d.rounds with
      hold := areaHold area, requested := some (areaSequence area), readPending := f.rounds.readPending } ∧
    ∀ w : Fin 4, f.windows[w] = d.windows[w].applyWant (wantClosed area w) (holdOff area w) := by
  obtain ⟨e1, e2, e3, e4, h1, h2, h3, h4, h5⟩ := scanComplete_steps area d
  obtain ⟨⟨x, b, sequence⟩, -⟩ := takeSequence_does area d h1
  obtain ⟨⟨c, y, consumed⟩, -⟩ := readConsumed_does e4 (e := f) (h.trans h5)
  obtain ⟨v, z, windows⟩ := wanted_frame area e1
  have bound : Aside (wanted area e1) e2 := by rw [h2, applyWants_eq]; exact suspendBound_aside _ _
  have judged : Aside e2 e3 := by rw [h3]; exact .foldl (judgeRequest_aside area) _ _
  have shown : Aside e3 e4 := by rw [h4]; exact .foldl progressShadow_aside _ _
  obtain ⟨now, iface, identity, windowsKept, rounds, lead, follower, journal⟩ := (bound.trans judged).trans shown
  have wants (w : Fin 4) := (wanted_windows area e1 w).1
  rw [windows] at now iface identity rounds lead follower journal
  rw [sequence] at now iface identity rounds lead follower journal
  rw [consumed]
  refine ⟨now, iface, identity, lead, follower, ?_, ?_, fun w => ?_⟩
  · show ({ e4.journal with readPending := c } : Journal) = { d.journal with readPending := c }
    rw [journal]
  · show e4.rounds = { d.rounds with
      hold := areaHold area, requested := some (areaSequence area), readPending := e4.rounds.readPending }
    rw [rounds]
  · show e4.windows[w] = _
    rw [windowsKept, wants w, sequence]

/-- The reads a scan completion brings. -/
theorem scanComplete_reads (area : List Byte) (d : Device) : scanReads d (scanComplete area d) area := by
  obtain ⟨e1, e2, e3, e4, h1, h2, h3, h4, h5⟩ := scanComplete_steps area d
  obtain ⟨-, same, other⟩ := takeSequence_does area d h1
  obtain ⟨⟨c, y, consumed⟩, waits, reads⟩ := readConsumed_does e4 rfl
  have rounds : (readConsumed e4).rounds = e1.rounds := by
    rw [consumed]
    show e4.rounds = e1.rounds
    rw [h4, (Aside.foldl progressShadow_aside _ e3).rounds, h3, (Aside.foldl (judgeRequest_aside area) _ e2).rounds, h2,
      (applyWants_keeps area e1).2.2.2.2.2.1]
  have journal : e4.journal = d.journal := by
    rw [h4, (Aside.foldl progressShadow_aside _ e3).journal, h3, (Aside.foldl (judgeRequest_aside area) _ e2).journal, h2,
      (applyWants_keeps area e1).2.2.2.2.2.2.2.2.2.2.2.2.2]
    obtain ⟨x, b, sequence⟩ := (takeSequence_does area d h1).1
    rw [sequence]
  have before {q : AccessKind → Bool} (window : ∀ w c b, q (.channelWrite (.window w) c b) = false)
      (shadow : ∀ n c b, q (.channelWrite (.shadow n) c b) = false) (descriptor : ∀ n, q (.descriptorRead n) = false) :
      Adds q e1 e4 := by
    rw [h4, h3, h2]
    exact ((applyWants_adding area e1 window shadow).trans (judgeRequests_adding area _ shadow descriptor)).trans
      (progressShadows_adding _ shadow)
  have all : Adds isConsumedRead d e4 := by
    refine Adds.trans ?_ (before (fun _ _ _ => rfl) (fun _ _ _ => rfl) (fun _ => rfl))
    rw [h1]; exact takeSequence_adds area d (fun _ => rfl)
  have after : Adds (fun _ => false) e1 (scanComplete area d) := by
    rw [h5]
    exact (before (fun _ _ _ => rfl) (fun _ _ _ => rfl) (fun _ => rfl)).trans (readConsumed_adds _ rfl)
  rw [← h5] at rounds waits reads
  unfold scanReads
  rw [rounds]
  refine ⟨same, fun changed => ?_, fun behind => waits (by rw [all.live_eq]; exact behind), fun free => ?_⟩
  · obtain ⟨pending, issued⟩ := other changed
    exact ⟨pending, fun free => ⟨(issued free).1, fun can within => inFlight_after ((issued free).2 can within) after⟩⟩
  · obtain ⟨kept, read⟩ := reads (by rw [all.live_eq]; exact free)
    rw [all.canAccess, all.iface, all.boardAddr] at read
    exact ⟨kept.trans (by rw [journal]), read⟩

/-- The windows that a scan completion changes have their status write due. -/
theorem scanComplete_windowDue (area : List Byte) (d : Device) (w : Fin 4)
    (h : (scanComplete area d).windows[w] ≠ d.windows[w]) : windowDue d (scanComplete area d) w := by
  obtain ⟨e1, e2, e3, e4, h1, h2, h3, h4, h5⟩ := scanComplete_steps area d
  obtain ⟨⟨x, b, sequence⟩, -⟩ := takeSequence_does area d h1
  have windows : (scanComplete area d).windows[w] = (wanted area e1).windows[w] := by
    rw [(scanComplete_frame area d rfl).2.2.2.2.2.2.2, (wanted_windows area e1 w).1, sequence]
  have same : e1.windows = d.windows := by rw [sequence]
  have due := (wanted_windows area e1 w).2 (by rw [← windows, same]; exact h)
  have after : Adds (fun _ => false) (wanted area e1) (scanComplete area d) := by
    rw [h5, h4, h3, h2, applyWants_eq]
    exact (((suspendBound_adds _ _ (fun _ _ _ => rfl)).trans (judgeRequests_adding area _ (fun _ _ _ => rfl) (fun _ => rfl))).trans
      (progressShadows_adding _ (fun _ _ _ => rfl))).trans (readConsumed_adds _ rfl)
  refine (due.after after windows).before ?_
  rw [h1]
  exact takeSequence_adds area d (fun _ => rfl)

/-- What a scan completion makes of a slot: the sequence it has judged, the outcome, the state and the descriptor. -/
theorem scanComplete_slot (area : List Byte) (d : Device) (n : Fin 8) {f : Device} (h : f = scanComplete area d) {st : SlotState}
    (suspended : suspends area d n → st = .suspended) (stays : ¬suspends area d n → st = d.slots[n].state) :
    f.slots[n].lastSeq = requestSequence area n ∧
    (requestSequence area n = d.slots[n].lastSeq → f.slots[n].state = st ∧ f.slots[n].outcome = d.slots[n].outcome) ∧
    (requestSequence area n ≠ d.slots[n].lastSeq →
      f.slots[n].outcome = (if requestTaken st (requestKind area n) then .taken else .ignored) ∧
      f.slots[n].state = judgedState d.iface.mode st (requestKind area n)) ∧
    ((f.slots[n].state = .waiting ∨ f.slots[n].state = .suspended) → f.slots[n].desc = d.slots[n].desc) := by
  obtain ⟨e1, e2, e3, e4, h1, h2, h3, h4, h5⟩ := scanComplete_steps area d
  obtain ⟨⟨x, b, sequence⟩, -⟩ := takeSequence_does area d h1
  have same : suspends area e1 n ↔ suspends area d n := by rw [sequence]; exact Iff.rfl
  have slot1 : e1.slots[n] = d.slots[n] := by rw [sequence]
  have noted2 := applyWants_slot area e1 n (st := st) (fun k => suspended (same.1 k))
    (fun k => (stays (fun j => k (same.2 j))).trans (by rw [slot1]))
  rw [← h2, slot1] at noted2
  obtain ⟨state2, -, -, last2, outcome2, -, desc2, -⟩ := noted2.fields
  obtain ⟨e, slot, aside, judged⟩ := judgeRequests_slot area n e2
  rw [← h3] at judged
  have mode : e.iface.mode = d.iface.mode := by rw [aside.iface, h2, (applyWants_keeps area e1).2.2.2.1, sequence]
  have noted4 := progressShadows_noted n e3
  rw [← h4, judged] at noted4
  have slots : f.slots[n] = e4.slots[n] := by rw [h, h5, readConsumed_slots]
  obtain ⟨state4, -, -, last4, outcome4, -, desc4, -⟩ := noted4.fields
  rw [slots, state4, last4, outcome4, desc4]
  refine ⟨judgeRequest_lastSeq area n e, fun eq => ?_, fun changed => ?_, fun waits => ?_⟩
  · rw [judgeRequest_same (by rw [slot, last2]; exact eq), slot]
    exact ⟨state2, outcome2⟩
  · obtain ⟨outcome, state, -⟩ := judgeRequest_judges (area := area) (n := n) (d := e) (by rw [slot, last2]; exact changed)
    rw [outcome, state, slot, state2, mode]
    exact ⟨rfl, rfl⟩
  · rw [← desc2, ← slot]
    by_cases changed : requestSequence area n = e.slots[n].lastSeq
    · rw [judgeRequest_same changed]
    · exact (judgeRequest_judges changed).2.2 waits

/-- What a suspension by a scan completion leaves of a probe of the slot. -/
theorem scanComplete_voids {area : List Byte} {d : Device} {r : Fin 16} {p : Probe} (h : d.probes.records[r] = some p)
    (launched : p.state ≠ .evaluating) (suspended : suspends area d p.slot) {f : Device} (hf : f = scanComplete area d) :
    f.probes.records[r] = none ∧
    ((p.state = .armed ∨ p.state = .listening) → d.launch.contexts[p.ctx].state = .on →
      f.launch.contexts[p.ctx].state = .stopping ∧
      .stop d.launch.contexts[p.ctx].point (some p.ctx) ∈ f.launch.issued) ∧
    (∀ v, circuitEntry d p.slot p.circuit = ⟨.inFlight, v⟩ →
      circuitEntry f p.slot p.circuit = ⟨.queued, min (v + 1) 255⟩) := by
  obtain ⟨e1, e2, e3, e4, h1, h2, h3, h4, h5⟩ := scanComplete_steps area d
  obtain ⟨⟨x, b, sequence⟩, -⟩ := takeSequence_does area d h1
  have stands : Stands e2 f := by
    rw [hf, h5, h4, h3]
    exact ((Stands.foldl (judgeRequest_stands area) _ e2).trans (.foldl progressShadow_stands _ _)).trans (readConsumed_stands _)
  have voids := applyWants_voids (area := area) (d := e1) (r := r) (p := p) (by rw [sequence]; exact h) launched
    (by rw [sequence]; exact suspended)
  rw [← h2] at voids
  obtain ⟨gone, stops, entry⟩ := voids
  have launch : e1.launch = d.launch := by rw [sequence]
  have entries : circuitEntry e1 p.slot p.circuit = circuitEntry d p.slot p.circuit := circuitEntry_congr (by rw [sequence]) _ _
  rw [launch] at stops
  rw [entries] at entry
  refine ⟨stands.gone gone, fun sounds on => ⟨stands.stopping _ (stops sounds on).1, stands.issued _ (stops sounds on).2⟩,
    fun v is => ?_⟩
  rw [stands.entry _ _ (by rw [entry v is]; simp), entry v is]

end Sys2Proof.Machine.ScanReads

/-! ## SCAN_READ_DONE (1.4) -/

namespace Sys2Proof.Machine.ScanDone
open Completions Halts Slots SlotWrites ScanParts Scans ScanReads StepLaws

/-! ### A void -/

/-- What a void leaves of the probe's record, context and tone (R35). -/
theorem voidProbe_leaves {d : Device} {r : Fin 16} {p : Probe} (h : d.probes.records[r] = some p)
    (launched : p.state ≠ .evaluating) : r ∉ (voidProbe r d).probes.order ∧
      (voidProbe r d).launch.contexts[p.ctx].owner ≠ some r ∧
      (p.state ≠ .grace → (voidProbe r d).tones[p.tone] =
        .quarantined ⟨d.rounds.number, some r, .voided, p.lastListen, false⟩) := by
  have steps : voidProbe r d = freeRecord r (requeue p.slot p.circuit (releaseOwner p.ctx r (voidTone r p d))) := by
    unfold voidProbe
    rw [h]
    dsimp only
    rw [if_neg launched]
  have requeued (e : Device) : (requeue p.slot p.circuit e).launch = e.launch ∧ (requeue p.slot p.circuit e).tones = e.tones := by
    unfold requeue
    dsimp only
    split <;> simp [setCircuit]
  rw [steps]
  refine ⟨by simp [freeRecord], ?_, fun notGrace => ?_⟩
  · have launch : (freeRecord r (requeue p.slot p.circuit (releaseOwner p.ctx r (voidTone r p d)))).launch =
        (releaseOwner p.ctx r (voidTone r p d)).launch := by simp [requeued]
    rw [launch]
    show (contextAt (releaseOwner p.ctx r (voidTone r p d)) p.ctx).owner ≠ some r
    rw [contextAt_releaseOwner]
    split
    · simp
    · next other => exact fun own => other ⟨rfl, own⟩
  · have tones : (freeRecord r (requeue p.slot p.circuit (releaseOwner p.ctx r (voidTone r p d)))).tones = (voidTone r p d).tones := by
      simp [requeued]
    have holds : p.state.holdsTone = true := by
      cases state : p.state with
      | grace => exact absurd state notGrace
      | evaluating => exact absurd state launched
      | _ => rfl
    rw [tones, voidTone, if_pos holds]
    exact (vec_set_get _ _ _ _).trans (if_pos rfl)

/-! ### The read's completion -/

/-- A scan taken is a scan completion, with the mark of a pending scan cleared and its read issued. -/
theorem scanTaken_frame (area : List Byte) (d : Device) {f : Device} (h : f = scanComplete area d) :
    ∃ x, scanTaken area d = { f with iface := { f.iface with scanPending := false }, dma := x } ∧
      Adds (fun _ => false) f { f with dma := x } ∧ (f.iface.scanPending = false → x = f.dma) ∧
      (f.iface.scanPending = true → canAccess f = true → inWindow f.iface.bounds (boardAddr f 0x100) 112 = true →
        inFlight { f with dma := x } (boardAddr f 0x100) 112 .scanRead) := by
  have taken : scanTaken area d = if f.iface.scanPending then
      issueScan { f with iface := { f.iface with scanPending := false } } else f := by rw [h]; rfl
  rw [taken]
  cases pending : f.iface.scanPending with
  | false =>
    refine ⟨f.dma, ?_, .refl _ f, fun _ => rfl, fun bad => absurd bad (by simp)⟩
    rw [if_neg (by simp), ← pending]
  | true =>
    rw [if_pos rfl, issueScan, issueRead]
    generalize hz : ({ f with iface := { f.iface with scanPending := false } } : Device) = z
    obtain ⟨x, frame⟩ := issue_frame .scanRead (boardAddr z 0x100) 112 [] false z
    have adds := issue_adds (q := fun _ => false) .scanRead (boardAddr z 0x100) 112 [] false z rfl
    have issued := inFlight_issue (k := .scanRead) (a := boardAddr z 0x100) (l := 112) (b := []) (o := false) (d := z)
    rw [frame] at adds issued ⊢
    rw [← hz] at adds issued ⊢
    exact ⟨x, rfl, ⟨rfl, adds.inFlight, adds.refused, adds.owed⟩, fun bad => absurd bad (by simp), fun _ can within =>
      issued can within⟩

/-- The reads brought stay in flight through a reaction that adds accesses and leaves the rounds and the journal. -/
theorem reads_after {q : AccessKind → Bool} {d f g : Device} {area : List Byte} (h : scanReads d f area) (adds : Adds q f g)
    (rounds : g.rounds = f.rounds) (journal : g.journal = f.journal) : scanReads d g area := by
  obtain ⟨same, other, waits, free⟩ := h
  unfold scanReads
  rw [rounds, journal]
  exact ⟨same, fun changed => ⟨(other changed).1, fun k => ⟨((other changed).2 k).1, fun can within =>
    inFlight_after (((other changed).2 k).2 can within) adds⟩⟩, waits, fun k => ⟨(free k).1, fun can within =>
    inFlight_after ((free k).2 can within) adds⟩⟩

/-- The state a suspension leaves, as SCAN_READ_DONE says it. -/
theorem suspended_state {area : List Byte} {d : Device} {n : Fin 8} {st : SlotState}
    (h : st = (if d.iface.mode = some .lead ∧ d.slots[n].state = .running ∧
      (∃ w : Fin 4, d.slots[n].desc.windowId = w.val ∧ d.windows[w].phase = .quiet ∧ wantClosed area w = false)
      then .suspended else d.slots[n].state)) :
    (suspends area d n → st = .suspended) ∧ (¬suspends area d n → st = d.slots[n].state) :=
  ⟨fun k => h.trans (if_pos k), fun k => h.trans (if_neg k)⟩

/-- Settles O18, by what a scan completion makes of each part of the device. -/
theorem scanReadDone : Obligations.ScanReadDone := by
  refine ⟨fun a b s h => ?_, fun d r p there launched => ?_, fun sel d r p there passes sounds on => ?_, voidProbes_stops⟩
  · obtain ⟨f, hf⟩ : ∃ f, f = scanComplete b (dropAccess s.dev a.tag) := ⟨_, rfl⟩
    obtain ⟨x, taken, adds, calm, pending⟩ := scanTaken_frame b (dropAccess s.dev a.tag) hf
    obtain ⟨now, iface, identity, lead, follower, journal, rounds, windows⟩ := scanComplete_frame b (dropAccess s.dev a.tag) hf
    have reads := scanComplete_reads b (dropAccess s.dev a.tag)
    have windowDues := scanComplete_windowDue b (dropAccess s.dev a.tag)
    have shadowDues := scanComplete_due b
    have adding := scanComplete_adds (q := isScanRead) b (dropAccess s.dev a.tag) (fun _ => rfl) (fun _ _ _ => rfl)
      (fun _ _ _ => rfl) (fun _ => rfl) rfl
    have slots (n : Fin 8) := fun {st : SlotState} => scanComplete_slot b (dropAccess s.dev a.tag) n hf (st := st)
    have voids {r : Fin 16} {p : Probe} := scanComplete_voids (area := b) (d := dropAccess s.dev a.tag) (r := r) (p := p) (f := f)
    rw [← hf] at reads windowDues adding
    have addr : boardAddr f 0x100 = boardAddr s.dev 0x100 := by rw [boardAddr, iface]; rfl
    refine ⟨scanTaken b (dropAccess s.dev a.tag), congrArg Host.Outcome.next (complete_landed h _), ?_⟩
    rw [taken]
    refine ⟨congrArg Rounds.hold rounds, congrArg Rounds.requested rounds, windows, fun n => ?_, rfl,
      fun wait can within => ?_, fun free => ?_, ?_, fun w changed => ?_, fun n change => ?_, fun n st state => ?_,
      fun r p w there launched lead running bound quiet open_ => ?_⟩
    · exact (slots n (suspended_state rfl).1 (suspended_state rfl).2).1
    · have issued := pending (by rw [iface]; exact wait) (by rw [canAccess, iface]; exact can)
        (by rw [addr, iface]; exact within)
      rw [addr] at issued
      exact issued
    · rw [calm (by rw [iface]; exact free)]
      exact adding.live_eq
    · exact reads_after (g := { f with dma := x }) reads adds rfl rfl
    · exact windowDue.after (f := { f with dma := x }) (windowDues w changed) adds rfl
    · have due := shadowDues n (dropAccess s.dev a.tag) (by rw [← hf]; exact change)
      rw [← hf] at due
      exact shadowDue.after (f := { f with dma := x }) due adds (same_slot _) (adds.owed _)
    · obtain ⟨-, same, changed, -⟩ := slots n (suspended_state state).1 (suspended_state state).2
      exact ⟨same, fun other => ⟨(changed other).1, ((changed other).2).trans rfl⟩⟩
    · exact voids there launched ⟨lead, running, w, bound, quiet, open_⟩ hf
  · obtain ⟨order, owner, tone⟩ := voidProbe_leaves there launched
    exact ⟨by rw [voidProbe_records there launched, if_pos rfl], order, owner, tone,
      fun q other => by rw [voidProbe_records there launched, if_neg other], (voidProbe_keeps r d).2.2.2.2.2.1⟩
  · exact ((voidProbes_voided there passes (by rcases sounds with e | e <;> rw [e] <;> simp)).2 sounds on).1

end Sys2Proof.Machine.ScanDone

/-! ## The writes a start owes at its end (1.2, 2.2) -/

namespace Sys2Proof.Machine.StartWrites
open Completions Halts Slots SlotWrites ScanParts Scans ScanReads

/-! ### Slots -/

theorem scanComplete_shadowStep (area : List Byte) (n : Fin 8) (d : Device) : ShadowStep n d (scanComplete area d) := by
  have judging : ∀ (d : Device) (m : Fin 8), Adds (fun _ => false) d (judgeRequest area d m) :=
    fun d m => judgeRequest_adds area d m (fun _ _ => rfl) rfl
  have sequence : ShadowStep n d (takeSequence area d) :=
    .inl ⟨takeSequence_adds area d (fun _ => by simp [ofChannel]), by rw [takeSequence_slots]⟩
  have a1 : Adds (fun _ => false) d (takeSequence area d) := takeSequence_adds area d (fun _ => rfl)
  have wants := sequence.trans (applyWants_shadowStep area n _) a1 (applyWants_adds area _)
  have a2 := a1.trans (applyWants_adds area (takeSequence area d))
  have judged := wants.trans (ShadowStep.foldl _ (judgeRequest_shadowStep area n) judging (List.finRange 8) _) a2
    (Adds.foldl _ judging _ _)
  have a3 := a2.trans (Adds.foldl _ judging (List.finRange 8) _)
  have shown := judged.trans (ShadowStep.foldl _ (progressShadow_shadowStep n) progressShadow_adds (List.finRange 8) _) a3
    (Adds.foldl _ progressShadow_adds _ _)
  have a4 := a3.trans (Adds.foldl _ progressShadow_adds (List.finRange 8) _)
  exact shown.trans (.inl ⟨readConsumed_adds _ (by simp [ofChannel]), congrArg (fun v : Vector Slot 8 => v[n]) (readConsumed_slots _)⟩) a4 (readConsumed_adds _ rfl)

theorem drainSlot_shadowStep {m : Fin 8} {r : Reason} {d : Device} (h : d.slots[m].state.drainable = true) (n : Fin 8) :
    ShadowStep n d (drainSlot m r d) := by
  by_cases own : n = m
  · subst own
    exact .inr ((drainSlot_enters n r d h).1.after (.refl _ _) (same_slot _) False.elim)
  · exact .inl ⟨drainSlot_adds m r d (fun c b => by simp [ofChannel, Ne.symm own]), drainSlot_slots m n r d own⟩

/-- A slot judged, moved or behind with its verdicts has its shadow write due, whatever follows. -/
theorem shadowDue_of_steps {area : List Byte} {n : Fin 8} {d e f : Device} (he : e = scanComplete area d)
    (step : ShadowStep n e f) (adds : Adds (fun _ => false) e f)
    (h : requestSequence area n ≠ d.slots[n].lastSeq ∨ f.slots[n].state ≠ d.slots[n].state ∨
      d.slots[n].verdicts ≠ d.slots[n].shadowVerdicts) : shadowDue d f n (.shadow n ∈ f.dma.owed) := by
  have scan : ShadowStep n d e := by rw [he]; exact scanComplete_shadowStep area n d
  have scanning : Adds (fun _ => false) d e := by
    rw [he]; exact scanComplete_adds area d (fun _ => rfl) (fun _ _ _ => rfl) (fun _ _ _ => rfl) (fun _ => rfl) rfl
  rcases scan.trans step scanning adds with ⟨_, still⟩ | due
  · have earlier : requestSequence area n ≠ d.slots[n].lastSeq ∨ (scanComplete area d).slots[n].state ≠ d.slots[n].state ∨
        d.slots[n].verdicts ≠ d.slots[n].shadowVerdicts := by
      rcases h with judged | moved | behind
      · exact .inl judged
      · rw [still] at moved; exact absurd rfl moved
      · exact .inr (.inr behind)
    have due := scanComplete_due area n d earlier
    rw [← he] at due
    exact ShadowStep.after due step scanning adds
  · exact due

/-! ### Windows -/

/-- A window status write with a flag of a shadow write: there is none. -/
def flagged : AccessKind → Bool
  | .channelWrite (.window _) c b => c || b
  | _ => false

theorem owe_window_flagged (w : Fin 4) (d : Device) : Adds flagged d (owe (.window w) d) := by
  unfold owe oweAs
  split
  · split
    · exact ⟨rfl, ⟨[], by simp, by simp⟩, ⟨[], by simp, by simp⟩, fun c m => by simp [m]⟩
    · exact issue_adds _ _ _ _ _ _ rfl
  · exact .refl _ d

theorem updateWindow_flagged (w : Fin 4) (x : Window) (d : Device) : Adds flagged d (updateWindow w x d) := by
  unfold updateWindow
  split
  · exact .refl _ d
  · exact (owe_window_flagged w _).start rfl rfl

theorem scanComplete_flagged (area : List Byte) (d : Device) : Adds flagged d (scanComplete area d) :=
  scanComplete_adding area d (fun _ => rfl) (Adds.foldl _ (fun d w => updateWindow_flagged w _ d) _ _) (fun _ _ _ => rfl)
    (fun _ => rfl) rfl

/-- A window whose want leaves it as it is brings no status write of it. -/
theorem wanted_unchanged {area : List Byte} {d : Device} {w : Fin 4}
    (h : d.windows[w].applyWant (wantClosed area w) (holdOff area w) = d.windows[w]) :
    Adds (ofChannel (.window w)) d (wanted area d) := by
  unfold wanted
  generalize List.finRange 4 = xs
  induction xs generalizing d with
  | nil => exact .refl _ d
  | cons x xs ih =>
    rw [List.foldl_cons]
    have one : (updateWindow x (d.windows[x].applyWant (wantClosed area x) (holdOff area x)) d).windows[w] = d.windows[w] ∧
        Adds (ofChannel (.window w)) d (updateWindow x (d.windows[x].applyWant (wantClosed area x) (holdOff area x)) d) := by
      by_cases own : w = x
      · subst own
        rw [updateWindow, if_pos h.symm]
        exact ⟨rfl, .refl _ d⟩
      · refine ⟨?_, updateWindow_adds x _ d (fun c b => by simp [ofChannel, Ne.symm own])⟩
        rw [updateWindow_windows, vec_set_get, if_neg own]
    exact one.2.trans (ih (by rw [one.1]; exact h))

/-- The four window status writes owed. -/
def oweWindows (d : Device) : Device := (List.finRange 4).foldl (fun d w => owe (.window w) d) d

theorem oweWindows_aside (d : Device) : Aside d (oweWindows d) := .foldl (fun d w => owe_aside (.window w) d) _ d

theorem oweWindows_slots (d : Device) : (oweWindows d).slots = d.slots := foldl_keeps (·.slots) _ (by simp) _ d

theorem oweWindows_adds {q : AccessKind → Bool} (d : Device) (h : ∀ w c b, q (.channelWrite (.window w) c b) = false) :
    Adds q d (oweWindows d) := .foldl _ (fun d w => owe_adds (.window w) d (h w)) _ d

theorem oweWindows_due (d : Device) (w : Fin 4) : windowDue d (oweWindows d) w := by
  have all : ∀ (xs : List (Fin 4)) (d : Device), w ∈ xs → windowDue d (xs.foldl (fun d w => owe (.window w) d) d) w := by
    intro xs
    induction xs with
    | nil => exact fun _ mem => absurd mem List.not_mem_nil
    | cons x xs ih =>
      intro d mem
      rw [List.foldl_cons]
      by_cases own : w = x
      · subst own
        have here : windowDue d (owe (.window w) d) w := by
          unfold windowDue
          rw [(owe_keeps (.window w) d).2.2.2.2.2.2.1]
          exact owe_due (.window w) d
        exact here.after (.foldl _ (fun d v => owe_adds (.window v) d (fun _ _ => rfl)) xs _)
          (by rw [(Aside.foldl (fun d v => owe_aside (.window v) d) xs _).windows])
      · exact (ih _ ((List.mem_cons.1 mem).resolve_left own)).before
          (owe_adds (.window x) d (fun c b => by simp [ofChannel, Ne.symm own]))
  exact all _ d (List.mem_finRange w)

/-- A window's status write is due after a scan completion and the four writes owed, whether its want changed it or not. -/
theorem windowDue_of_scan {area : List Byte} {d e f : Device} (he : e = scanComplete area d) (w : Fin 4)
    (adds : Adds (fun _ => false) (oweWindows e) f) (windows : f.windows = e.windows) : windowDue d f w := by
  have owing : Adds (fun _ => false) e (oweWindows e) := oweWindows_adds e (fun _ _ _ => rfl)
  have same : f.windows[w] = (oweWindows e).windows[w] := by rw [windows, (oweWindows_aside e).windows]
  have wants := (scanComplete_frame area d he).2.2.2.2.2.2.2 w
  by_cases unchanged : d.windows[w].applyWant (wantClosed area w) (holdOff area w) = d.windows[w]
  · refine ((oweWindows_due e w).after adds same).before ?_
    rw [he]
    refine scanComplete_adding area d (fun _ => by simp [ofChannel]) (wanted_unchanged ?_) (fun _ _ _ => by simp [ofChannel])
      (fun _ => by simp [ofChannel]) (by simp [ofChannel])
    obtain ⟨⟨x, b, sequence⟩, -⟩ := takeSequence_does area d rfl
    rw [sequence]
    exact unchanged
  · have due := scanComplete_windowDue area d w (by rw [← he, wants]; exact unchanged)
    rw [← he] at due
    exact due.after (owing.trans adds) (by rw [windows])

end Sys2Proof.Machine.StartWrites

/-! ## The end of a start (1.2, step 7) -/

namespace Sys2Proof.Machine.StartEnds
open Completions Halts Slots SlotWrites ScanParts Scans ScanReads ScanDone StartWrites LeadRounds

/-! ### The device that enters RUNNING -/

/-- What step 7 of a start has made of the device before its request area is judged: RUNNING with its identity and its ring, the
link apart. -/
structure Entered (st : Start) (i : Identity) (d a : Device) : Prop where
  now : a.now = d.now
  iface : a.iface = { d.iface with
    state := .running, start := none, fresh := false, mode := some i.mode, scanTimer := some (d.now + 100), scanPending := false }
  identity : a.identity = some i
  windows : a.windows = d.windows
  slots : a.slots = d.slots
  journal : a.journal = { d.journal with
    ring := some ⟨i.journalBase, i.journalSize⟩, usable := true, consumed := word st.header 0x18, memory := [] }
  number : a.rounds.number = d.rounds.number
  inForce : a.rounds.inForce = d.rounds.inForce
  staged : a.rounds.staged = d.rounds.staged
  requested : a.rounds.requested = d.rounds.requested
  readPending : a.rounds.readPending = d.rounds.readPending
  live : ∀ q : AccessKind → Bool, (∀ p c b, q (.channelWrite (.peer p) c b) = false) → live a q = live d q

theorem live_releaseStartAccesses (q : AccessKind → Bool) (d : Device) : live (releaseStartAccesses d) q = live d q := by
  have each (xs : List Access) : (xs.map (fun a => { a with ofStart := false })).any (fun a => !a.discarded && q a.kind) =
      xs.any (fun a => !a.discarded && q a.kind) := by rw [List.any_map]; rfl
  simp only [live, List.any_append]
  rw [← each d.dma.inFlight]
  rfl

/-- The device that has entered RUNNING, its link apart. -/
abbrev entering (st : Start) (i : Identity) (d : Device) : Device := releaseStartAccesses (enterRunning i st.header d)

theorem entered_entering (st : Start) (i : Identity) (d : Device) : Entered st i d (entering st i d) :=
  ⟨rfl, rfl, rfl, rfl, rfl, rfl, rfl, rfl, rfl, rfl, rfl, fun q _ => live_releaseStartAccesses q _⟩

theorem startLeadLink_adds {q : AccessKind → Bool} (d : Device) (h : ∀ p c b, q (.channelWrite (.peer p) c b) = false) :
    Adds q d (startLeadLink d) := ((owePeers_due d.lead.peers _).1 q h).start rfl rfl

theorem entered_lead (st : Start) (i : Identity) (d : Device) : Entered st i d (startLeadLink (entering st i d)) := by
  obtain ⟨now, iface, identity, windows, slots, journal, number, inForce, staged, requested, readPending, live⟩ :=
    entered_entering st i d
  generalize entering st i d = e at *
  obtain ⟨nowE, -, -, ifaceE, identityE, slotsE, -, windowsE, roundsE, -, -, -, -, -, -, -, -, -, -, journalE⟩ :=
    owePeers_keeps e.lead.peers { e with lead := { e.lead with peers := mapVec (fun _ p => p.atLeadStart) e.lead.peers } }
  exact ⟨nowE.trans now, ifaceE.trans iface, identityE.trans identity, windowsE.trans windows, slotsE.trans slots,
    journalE.trans journal, (congrArg Rounds.number roundsE).trans number, (congrArg Rounds.inForce roundsE).trans inForce,
    (congrArg Rounds.staged roundsE).trans staged, (congrArg Rounds.requested roundsE).trans requested,
    (congrArg Rounds.readPending roundsE).trans readPending, fun q h => ((startLeadLink_adds e h).live_eq).trans (live q h)⟩

theorem entered_follower (st : Start) (i : Identity) (d : Device) : Entered st i d (startFollower (entering st i d)) :=
  ⟨rfl, rfl, rfl, rfl, rfl, rfl, rfl, rfl, rfl, rfl, rfl, fun q _ => live_releaseStartAccesses q _⟩

section
variable {st : Start} {i : Identity} {d a : Device}

theorem Entered.canAccess (h : Entered st i d a) : canAccess a = true := canAccess_of_running (by rw [h.iface])

theorem Entered.bounds (h : Entered st i d a) : a.iface.bounds = d.iface.bounds := by rw [h.iface]

theorem Entered.boardAddr (h : Entered st i d a) : boardAddr a = boardAddr d := by
  unfold Machine.boardAddr; rw [h.bounds]

/-- A write due after RUNNING was entered was due before. -/
theorem Entered.writeDue {y : Device} {ch : Channel} {addr : Nat} {data : List Byte} {l : Prop} (h : Entered st i d a)
    (same : Machine.live a (ofChannel ch) = Machine.live d (ofChannel ch)) (due : writeDue a y ch addr data l) :
    writeDue d y ch addr data l := by
  intro _
  have may := due h.canAccess
  rwa [same, h.bounds] at may

end

/-! ### Both modes -/

/-- A write in flight whose like was not in flight before a reaction has been added by it. -/
theorem added_of_live {q r : AccessKind → Bool} {d e : Device} {x : Access} (h : live d q = false) (adds : Adds r d e)
    (mem : x ∈ e.dma.inFlight) (counts : x.discarded = false) (kind : q x.kind = true) : r x.kind = false := by
  obtain ⟨xs, more, fresh⟩ := adds.inFlight
  rw [more] at mem
  rcases List.mem_append.1 mem with old | new
  · have there : live d q = true :=
      List.any_eq_true.2 ⟨x, List.mem_append_left _ old, by rw [counts, kind]; rfl⟩
    rw [h] at there
    cases there
  · exact fresh x new

/-- A window's status write due after RUNNING was entered: owed behind one in flight, or issued without a flag. -/
theorem windowStatus_of_due {st : Start} {i : Identity} {d a y : Device} {w : Fin 4} (entered : Entered st i d a)
    (due : windowDue a y w) (flags : Adds flagged a y) :
    (live d (ofChannel (.window w)) = true → .window w ∈ y.dma.owed) ∧
    (live d (ofChannel (.window w)) = false →
      inWindow d.iface.bounds (boardAddr d (0x118 + 16 * w.val)) 8 = true →
      ∃ x ∈ y.dma.inFlight, x.kind = .channelWrite (.window w) false false ∧ x.discarded = false ∧
        x.addr = boardAddr d (0x118 + 16 * w.val) ∧ x.data = windowStatusBytes y.windows[w]) := by
  have same := entered.live (ofChannel (.window w)) (fun _ _ _ => by simp [ofChannel])
  rw [windowDue, entered.boardAddr] at due
  obtain ⟨owed, issued⟩ := due entered.canAccess
  rw [same, entered.bounds] at issued
  rw [same] at owed
  refine ⟨owed, fun free within => ?_⟩
  obtain ⟨x, mem, ⟨c, b, kind⟩, addr, -, data, counts⟩ := issued free (by rw [BoardBytes.length_windowStatusBytes]; exact within)
  have clear := added_of_live (q := ofChannel (.window w)) (same.trans free) flags mem counts (by simp [kind, ofChannel])
  rw [kind] at clear
  obtain ⟨rfl, rfl⟩ := Bool.or_eq_false_iff.1 clear
  exact ⟨x, mem, kind, counts, addr, data.resolve_right id⟩

/-- The reads a scan completion brings after RUNNING was entered are those of the device before. -/
theorem scanReads_entered {st : Start} {i : Identity} {d a y : Device} {area : List Byte} (entered : Entered st i d a)
    (reads : scanReads a y area) : scanReads d y area := by
  have settings := entered.live isSettingsRead (fun _ _ _ => rfl)
  have consumed := entered.live isConsumedRead (fun _ _ _ => rfl)
  have journal : a.journal.readPending = d.journal.readPending := by rw [entered.journal]
  unfold scanReads at reads ⊢
  rw [entered.requested, entered.readPending, settings, consumed, journal, entered.bounds, entered.boardAddr] at reads
  obtain ⟨same, other, waits, free⟩ := reads
  exact ⟨same, fun changed => ⟨(other changed).1, fun k => ⟨((other changed).2 k).1, fun _ =>
    ((other changed).2 k).2 entered.canAccess⟩⟩, waits, fun k => ⟨(free k).1, fun _ => (free k).2 entered.canAccess⟩⟩

/-- What a start's end in either mode leaves, `y` being the device once the windows' writes are owed and the campaigns have been
moved. -/
theorem startedBy_of {st : Start} {i : Identity} {d a e y : Device} (entered : Entered st i d a)
    (he : e = scanComplete st.request a) (aside : Aside (oweWindows e) y)
    (sequences : ∀ n : Fin 8, y.slots[n].lastSeq = (oweWindows e).slots[n].lastSeq)
    (steps : ∀ n, ShadowStep n (oweWindows e) y)
    (adds : ∀ q : AccessKind → Bool, (∀ n c b, q (.channelWrite (.shadow n) c b) = false) → Adds q (oweWindows e) y) :
    startedBy st i d y := by
  obtain ⟨now, iface, identity, -, -, journal, rounds, windows⟩ := scanComplete_frame st.request a he
  have all : Aside e y := (oweWindows_aside e).trans aside
  have owing : Adds (fun _ => false) e y := (oweWindows_adds e (fun _ _ _ => rfl)).trans (adds _ (fun _ _ _ => rfl))
  refine ⟨?_, ?_, ?_, ?_, ?_, ?_, ?_, ?_, ?_, fun w => ?_, fun n => ?_, ?_⟩
  · rw [all.iface, iface, entered.iface]
  · rw [all.identity, identity, entered.identity]
  · rw [all.now, now, entered.now]
  · rw [all.journal]
    rw [entered.journal] at journal
    exact journal
  · rw [all.rounds, rounds]; exact entered.number
  · rw [all.rounds, rounds]; exact entered.inForce
  · rw [all.rounds, rounds]; exact entered.staged
  · rw [all.rounds, rounds]
  · rw [all.rounds, rounds]
  · refine ⟨by rw [all.windows, windows, entered.windows], windowStatus_of_due entered ?_ ?_⟩
    · exact windowDue_of_scan he w (adds _ (fun _ _ _ => rfl)) all.windows
    · rw [he] at adds
      exact ((scanComplete_flagged st.request a).trans (.foldl _ (fun d w => owe_window_flagged w d) _ _)).trans
        (adds _ (fun _ _ _ => rfl))
  · have scanned := scanComplete_slot st.request a n he (suspended_state rfl).1 (suspended_state rfl).2
    refine ⟨?_, fun change => ?_⟩
    · rw [sequences, oweWindows_slots]
      exact scanned.1
    · have step : ShadowStep n e y := by
        refine ShadowStep.trans (.inl ⟨oweWindows_adds e (fun _ _ _ => by simp [ofChannel]), ?_⟩) (steps n)
          (oweWindows_adds e (fun _ _ _ => rfl)) (adds _ (fun _ _ _ => rfl))
        rw [oweWindows_slots]
      have due := shadowDue_of_steps he step owing (by rw [entered.slots]; exact change)
      unfold shadowDue at due ⊢
      rw [← entered.boardAddr]
      exact entered.writeDue (entered.live _ (fun _ _ _ => by simp [ofChannel])) due
  · have reads := scanComplete_reads st.request a
    rw [← he] at reads
    exact scanReads_entered entered (reads_after reads owing all.rounds all.journal)

/-! ### The slots -/

/-- The state a request area leaves of a slot, and its descriptor. -/
theorem requests_slot {st : Start} {i : Identity} {d a e : Device} (entered : Entered st i d a)
    (he : e = scanComplete st.request a) {n : Fin 8} {x : SlotState} (h : stateAfterRequests i.mode st.request d n x) :
    e.slots[n].state = x ∧ ((x = .waiting ∨ x = .suspended) → e.slots[n].desc = d.slots[n].desc) := by
  obtain ⟨x0, first, last⟩ := h
  have mode : a.iface.mode = some i.mode := by rw [entered.iface]
  have same : suspends st.request a n ↔ (i.mode = .lead ∧ d.slots[n].state = .running ∧
      (∃ w : Fin 4, d.slots[n].desc.windowId = w.val ∧ d.windows[w].phase = .quiet ∧ wantClosed st.request w = false)) := by
    unfold suspends
    rw [mode, entered.slots, entered.windows, Option.some_inj]
  obtain ⟨-, still, changed, desc⟩ := scanComplete_slot st.request a n he (st := x0)
    (fun k => first.trans (if_pos (same.1 k)))
    (fun k => (first.trans (if_neg (mt same.2 k))).trans (by rw [entered.slots]))
  rw [entered.slots] at still changed desc
  have state : e.slots[n].state = x := by
    by_cases sequence : requestSequence st.request n = d.slots[n].lastSeq
    · rw [(still sequence).1, last, if_pos (.inl sequence)]
    · rw [(changed sequence).2, mode, last]
      cases taken : requestTaken x0 (requestKind st.request n) with
      | false => rw [judgedState_ignored taken, if_pos (.inr rfl)]
      | true =>
        rw [judgedState_taken taken, if_neg (not_or.2 ⟨sequence, by simp⟩)]
        cases requestKind st.request n with
        | submit => simp [takenState]
        | _ => rfl
  exact ⟨state, fun waits => desc (by rw [state]; exact waits)⟩

theorem resumeAtStart_others (d : Device) (m n : Fin 8) (h : n ≠ m) : (resumeAtStart d m).slots[n] = d.slots[n] := by
  unfold resumeAtStart
  split
  · exact owe_setSlot_slots m n _ d h
  · rfl

theorem resumeAtStart_aside (d : Device) (m : Fin 8) : Aside d (resumeAtStart d m) := by
  unfold resumeAtStart
  split
  · exact (setSlot_aside m _ d).trans (owe_aside _ _)
  · exact .refl d

theorem resumeAtStart_shadowStep (d : Device) (m n : Fin 8) : ShadowStep n d (resumeAtStart d m) := by
  unfold resumeAtStart
  split
  · exact owe_shadowStep n m _ d
  · exact .refl n d

theorem resumeAtStart_adds {q : AccessKind → Bool} (h : ∀ n c b, q (.channelWrite (.shadow n) c b) = false) (d : Device)
    (m : Fin 8) : Adds q d (resumeAtStart d m) := by
  unfold resumeAtStart
  split
  · exact moveSlot_adds m _ d (h m)
  · exact .refl q d

theorem resumeAtStart_noted (d : Device) (n : Fin 8) : Noted { d.slots[n] with state :=
    if (d.slots[n].state = .waiting ∨ d.slots[n].state = .suspended) ∧ admitsCampaign d d.slots[n] = true
    then .running else d.slots[n].state } (resumeAtStart d n).slots[n] := by
  unfold resumeAtStart
  have test : ((d.slots[n].state == .waiting || d.slots[n].state == .suspended) && admitsCampaign d d.slots[n]) = true ↔
      (d.slots[n].state = .waiting ∨ d.slots[n].state = .suspended) ∧ admitsCampaign d d.slots[n] = true := by simp
  by_cases resumes : (d.slots[n].state = .waiting ∨ d.slots[n].state = .suspended) ∧ admitsCampaign d d.slots[n] = true
  · rw [if_pos resumes, if_pos (test.2 resumes)]
    exact moveSlot_noted n .running d
  · rw [if_neg resumes, if_neg (mt test.1 resumes)]
    exact .refl _

theorem drainable_of_waitsOrRuns {st : SlotState} (h : st.waitsOrRuns = true) : st.drainable = true := by
  simp only [SlotState.waitsOrRuns, Bool.or_eq_true, beq_iff_eq] at h
  rcases h with (h | h) | h <;> rw [h] <;> rfl

theorem drainAtFollowStart_others (d : Device) (m n : Fin 8) (h : n ≠ m) : (drainAtFollowStart d m).slots[n] = d.slots[n] := by
  unfold drainAtFollowStart
  split
  · exact drainSlot_slots m n _ d h
  · rfl

theorem drainAtFollowStart_aside (d : Device) (m : Fin 8) : Aside d (drainAtFollowStart d m) := by
  unfold drainAtFollowStart
  split
  · exact drainSlot_aside m _ d
  · exact .refl d

theorem drainAtFollowStart_shadowStep (d : Device) (m n : Fin 8) : ShadowStep n d (drainAtFollowStart d m) := by
  unfold drainAtFollowStart
  split
  · next waits => exact drainSlot_shadowStep (drainable_of_waitsOrRuns waits) n
  · exact .refl n d

theorem drainAtFollowStart_adds {q : AccessKind → Bool} (h : ∀ n c b, q (.channelWrite (.shadow n) c b) = false) (d : Device)
    (m : Fin 8) : Adds q d (drainAtFollowStart d m) := by
  unfold drainAtFollowStart
  split
  · exact drainSlot_adds m _ d (h m)
  · exact .refl q d

theorem drainAtFollowStart_noted (d : Device) (n : Fin 8) : Noted (if d.slots[n].state.waitsOrRuns
    then { d.slots[n] with state := .draining, reason := .aborted } else d.slots[n]) (drainAtFollowStart d n).slots[n] := by
  unfold drainAtFollowStart
  split
  · next waits => exact drainSlot_noted (drainable_of_waitsOrRuns waits)
  · exact .refl _

end Sys2Proof.Machine.StartEnds

/-! ## The write that completes a start (1.2) -/

namespace Sys2Proof.Machine.StartDone
open Completions Halts Slots SlotWrites ScanParts Scans ScanReads ScanDone StartWrites StartEnds LeadRounds

/-! ### A lead -/

/-- The campaigns that a lead's start runs again. -/
def resumed (d : Device) : Device := (List.finRange 8).foldl resumeAtStart d

theorem resumed_aside (d : Device) : Aside d (resumed d) := .foldl resumeAtStart_aside _ d

/-- The device of a lead's start before its first round. -/
def leadStarted (st : Start) (i : Identity) (d : Device) : Device :=
  resumed (oweWindows (scanComplete st.request (startLeadLink (entering st i d))))

theorem startedBy_lead (st : Start) (i : Identity) (d : Device) : startedBy st i d (leadStarted st i d) := by
  refine startedBy_of (entered_lead st i d) rfl (resumed_aside _) (fun n => ?_)
    (fun n => .foldl _ (fun d m => resumeAtStart_shadowStep d m n) (resumeAtStart_adds fun _ _ _ => rfl) _ _)
    (fun q h => .foldl _ (resumeAtStart_adds h) _ _)
  obtain ⟨z, slot, -, moved⟩ := foldl_slot resumeAtStart_others resumeAtStart_aside n
    (oweWindows (scanComplete st.request (startLeadLink (entering st i d))))
  rw [leadStarted, resumed, moved, (resumeAtStart_noted z n).fields.2.2.2.1, slot]

theorem resumed_state {d : Device} (n : Fin 8) : (resumed d).slots[n].state =
    if (d.slots[n].state = .waiting ∨ d.slots[n].state = .suspended) ∧ (d.slots[n].desc.windowId = 7 ∨
      ∃ w : Fin 4, d.slots[n].desc.windowId = w.val ∧ d.windows[w].phase = .quiet) then .running else d.slots[n].state := by
  obtain ⟨z, slot, kept, moved⟩ := foldl_slot resumeAtStart_others resumeAtStart_aside n d
  rw [resumed, moved, (resumeAtStart_noted z n).fields.1, slot]
  exact if_congr (and_congr_right fun _ => by rw [admitsCampaign_iff, kept.windows]) rfl rfl

/-- The peers of a lead's start, before their status writes are owed. -/
theorem startLeadLink_peers (d : Device) (p : Fin 16) :
    (startLeadLink d).lead.peers[p] = { d.lead.peers[p] with
      state := if d.lead.peers[p].configured then .unknown else d.lead.peers[p].state
      silence := if d.lead.peers[p].configured then 0 else d.lead.peers[p].silence
      report := none } := by
  have peers : (startLeadLink d).lead.peers = mapVec (fun _ p => p.atLeadStart) d.lead.peers := by simp [startLeadLink]
  rw [peers, mapVec_get, Peer.atLeadStart]
  split <;> rfl

theorem startLeadLink_due {d : Device} (lead : d.iface.mode = some .lead) {p : Fin 16}
    (h : peerStatusBytes (startLeadLink d).lead.peers[p] ≠ peerStatusBytes d.lead.peers[p]) :
    peerDue d (startLeadLink d) p False := PeerFrames.owePeers_peerDue lead (.of_eq rfl rfl) h

theorem startedLead_lead {st : Start} {i : Identity} (lead : i.mode = .lead) (d : Device) :
    startedLead st d (leadStarted st i d) := by
  obtain ⟨a, ha⟩ : ∃ a, a = startLeadLink (entering st i d) := ⟨_, rfl⟩
  obtain ⟨e, he⟩ : ∃ e, e = scanComplete st.request a := ⟨_, rfl⟩
  obtain ⟨y, hy⟩ : ∃ y, y = resumed (oweWindows e) := ⟨_, rfl⟩
  have started : leadStarted st i d = y := by rw [hy, he, ha]; rfl
  have entered : Entered st i d a := by rw [ha]; exact entered_lead st i d
  obtain ⟨-, -, -, leadE, followerE, -, -, -⟩ := scanComplete_frame st.request a he
  have aside : Aside e y := by rw [hy]; exact (oweWindows_aside e).trans (resumed_aside _)
  have adds : Adds (fun _ => false) a y := by
    rw [hy, he]
    exact ((scanComplete_adds st.request a (fun _ => rfl) (fun _ _ _ => rfl) (fun _ _ _ => rfl) (fun _ => rfl) rfl).trans
      (oweWindows_adds _ fun _ _ _ => rfl)).trans (.foldl _ (resumeAtStart_adds fun _ _ _ => rfl) _ _)
  have link : y.lead = a.lead := aside.lead.trans leadE
  have peers (p : Fin 16) : a.lead.peers[p] = { d.lead.peers[p] with
      state := if d.lead.peers[p].configured then .unknown else d.lead.peers[p].state
      silence := if d.lead.peers[p].configured then 0 else d.lead.peers[p].silence
      report := none } := by rw [ha]; exact startLeadLink_peers (entering st i d) p
  rw [started]
  refine ⟨fun n x after => ?_, fun p => ⟨by rw [link, peers], fun changed => ?_⟩, ?_, ?_⟩
  · obtain ⟨state, desc⟩ := requests_slot entered he (by rw [lead]; exact after)
    rw [hy, resumed_state, oweWindows_slots, (resumed_aside _).windows, state]
    exact if_congr (and_congr_right fun waits => by rw [desc waits]) rfl rfl
  · rw [link, ha] at changed
    have due := startLeadLink_due (d := entering st i d) (by rw [← lead]; rfl) changed
    rw [← ha] at due
    have later := due.after adds (by rw [link]) id
    unfold peerDue at later ⊢
    rw [← (entered_entering st i d).boardAddr]
    exact (entered_entering st i d).writeDue (live_releaseStartAccesses _ _) later
  · rw [link, ha]; simp [startLeadLink]; rfl
  · rw [aside.follower, followerE, ha]; simp [startLeadLink]; rfl

/-! ### A follower -/

/-- The device of a follower's completed start. -/
def followerStarted (st : Start) (i : Identity) (d : Device) : Device :=
  (List.finRange 8).foldl drainAtFollowStart (oweWindows (scanComplete st.request (startFollower (entering st i d))))

theorem drainAtFollowStart_sequence (d : Device) (n : Fin 8) : (drainAtFollowStart d n).slots[n].lastSeq = d.slots[n].lastSeq := by
  rw [(drainAtFollowStart_noted d n).fields.2.2.2.1]
  split <;> rfl

theorem startedBy_follower (st : Start) (i : Identity) (d : Device) : startedBy st i d (followerStarted st i d) := by
  refine startedBy_of (entered_follower st i d) rfl (.foldl drainAtFollowStart_aside _ _) (fun n => ?_)
    (fun n => .foldl _ (fun d m => drainAtFollowStart_shadowStep d m n) (drainAtFollowStart_adds fun _ _ _ => rfl) _ _)
    (fun q h => .foldl _ (drainAtFollowStart_adds h) _ _)
  obtain ⟨z, slot, -, moved⟩ := foldl_slot drainAtFollowStart_others drainAtFollowStart_aside n
    (oweWindows (scanComplete st.request (startFollower (entering st i d))))
  rw [followerStarted, moved, drainAtFollowStart_sequence, slot]

theorem waitsOrRuns_iff (st : SlotState) : st.waitsOrRuns = true ↔ st = .waiting ∨ st = .running ∨ st = .suspended := by
  simp [SlotState.waitsOrRuns, or_assoc]

theorem startedFollower_follower {st : Start} {i : Identity} (follow : i.mode = .follow) (d : Device) :
    startedFollower st d (followerStarted st i d) := by
  obtain ⟨a, ha⟩ : ∃ a, a = startFollower (entering st i d) := ⟨_, rfl⟩
  obtain ⟨e, he⟩ : ∃ e, e = scanComplete st.request a := ⟨_, rfl⟩
  obtain ⟨y, hy⟩ : ∃ y, y = (List.finRange 8).foldl drainAtFollowStart (oweWindows e) := ⟨_, rfl⟩
  have started : followerStarted st i d = y := by rw [hy, he, ha]; rfl
  have entered : Entered st i d a := by rw [ha]; exact entered_follower st i d
  obtain ⟨-, -, -, leadE, followerE, -, rounds, -⟩ := scanComplete_frame st.request a he
  have aside : Aside e y := by rw [hy]; exact (oweWindows_aside e).trans (.foldl drainAtFollowStart_aside _ _)
  rw [started]
  refine ⟨fun n x after => ?_, ?_, ?_, ?_, ?_, ?_⟩
  · obtain ⟨state, -⟩ := requests_slot entered he (by rw [follow]; exact after)
    obtain ⟨z, slot, -, moved⟩ := foldl_slot drainAtFollowStart_others drainAtFollowStart_aside n (oweWindows e)
    have noted := drainAtFollowStart_noted z n
    rw [slot, oweWindows_slots, state, ← moved, ← hy] at noted
    refine ⟨fun waits => ?_, fun waiting running suspended => ?_⟩
    · rw [if_pos ((waitsOrRuns_iff x).2 waits)] at noted
      exact ⟨noted.fields.1, noted.fields.2.1⟩
    · rw [if_neg (by rw [waitsOrRuns_iff]; simp [waiting, running, suspended])] at noted
      exact noted.fields.1.trans state
  · rw [aside.rounds, rounds, ha]; rfl
  · rw [aside.rounds, rounds, ha]; rfl
  · rw [aside.rounds, rounds, ha]; rfl
  · rw [aside.follower, followerE, ha]; rfl
  · rw [aside.lead, leadE, ha]; rfl

/-! ### The completion -/

theorem completeStart_lead {st : Start} {i : Identity} (header : identity? st.header = some i) (lead : i.mode = .lead)
    (d : Device) : completeStart st d = activateLead (leadStarted st i d) := by
  unfold completeStart
  rw [header]
  dsimp only
  rw [startMode1, startMode2, if_pos lead, if_pos lead]
  rfl

theorem completeStart_follower {st : Start} {i : Identity} (header : identity? st.header = some i) (follow : i.mode = .follow)
    (d : Device) : completeStart st d = followerStarted st i d := by
  have other : i.mode ≠ .lead := by rw [follow]; simp
  unfold completeStart
  rw [header]
  dsimp only
  rw [startMode1, startMode2, if_neg other, if_neg other]
  rfl

theorem leadRoundStart_number (d : Device) : (leadRoundStart d).rounds.number = d.rounds.number + 1#32 := by
  rw [(leadRoundStart_timer d).1]
  exact (scheduled_rounds d).1

/-- The first round of a lead's start: at once with settings in force, or with a staged copy that is settled. -/
theorem activateLead_does {y : Device} (leading : y.leading = true) {d : Device} (hd : d = activateLead y) :
    d.iface = y.iface ∧ d.identity = y.identity ∧
    (y.rounds.inForce.isSome → d = leadRoundStart y ∧ d.rounds.number = y.rounds.number + 1#32) ∧
    (y.rounds.inForce = none → ∀ z, z = { y with rounds := { y.rounds with awaitFirst := true } } →
      (settled y = true → d = leadRoundStart z ∧ d.rounds.number = y.rounds.number + 1#32) ∧
      (settled y = false → d = z ∧ d.rounds.awaitFirst = true ∧ d.rounds.number = y.rounds.number)) := by
  rw [activateLead] at hd
  cases force : y.rounds.inForce with
  | some x =>
    rw [force, if_pos (show (some x).isSome = true from rfl)] at hd
    rw [hd]
    exact ⟨(leadRoundStart_keeps y).2.2.1, (leadRoundStart_keeps y).2.2.2.1, fun _ => ⟨rfl, leadRoundStart_number y⟩,
      fun bad => absurd bad (by simp)⟩
  | none =>
    rw [force, if_neg (by simp)] at hd
    generalize hz : ({ y with rounds := { y.rounds with awaitFirst := true } } : Device) = z at hd
    have first : firstRound z = if settled y then leadRoundStart z else z := by
      have test : (z.leading && z.rounds.awaitFirst && settled z) = settled y := by
        rw [← hz]
        show (y.leading && true && settled y) = settled y
        rw [leading]; rfl
      rw [firstRound, test]
    rw [first] at hd
    have number : z.rounds.number = y.rounds.number := by rw [← hz]
    cases done : settled y with
    | true =>
      rw [done, if_pos rfl] at hd
      rw [hd, (leadRoundStart_keeps z).2.2.1, (leadRoundStart_keeps z).2.2.2.1, leadRoundStart_number, number]
      refine ⟨by rw [← hz], by rw [← hz], fun bad => absurd bad (by simp), fun _ w hw => ?_⟩
      rw [hw]
      exact ⟨fun _ => ⟨rfl, rfl⟩, fun bad => absurd bad (by simp)⟩
    | false =>
      rw [done, if_neg (by simp)] at hd
      rw [hd]
      refine ⟨by rw [← hz], by rw [← hz], fun bad => absurd bad (by simp), fun _ w hw => ?_⟩
      rw [hw]
      exact ⟨fun bad => absurd bad (by simp), fun _ => ⟨rfl, by rw [← hz], number⟩⟩

/-- Settles O15, by the mode of the identity. -/
theorem startCompletes : Obligations.StartCompletes := by
  refine ⟨fun a st i c s starting header done => ?_, fun a st s starting h more => ?_⟩
  · have run : exec c s = .next { s with board := landed s.board a true, dev := settle (completeStart st (dropAccess s.dev a.tag)) } := by
      have current : (dropAccess s.dev a.tag).iface.start = some st := starting
      rcases done with ⟨h, stale, rfl⟩ | ⟨h, last, rfl⟩
      · have taken := complete_landed h (fun _ => withStart startHeaderWritten)
        rw [withStart, current] at taken
        dsimp only at taken
        rw [startHeaderWritten, if_neg (by rw [show (dropAccess s.dev a.tag).iface.fresh = false from stale]; simp)] at taken
        exact congrArg Host.Outcome.next taken
      · have taken := complete_landed h (fun _ => withStart startShadowWritten)
        rw [withStart, current] at taken
        dsimp only at taken
        rw [startShadowWritten, last, if_neg (by simp)] at taken
        exact congrArg Host.Outcome.next taken
    generalize hd0 : dropAccess s.dev a.tag = d0 at run ⊢
    have inForce : d0.rounds.inForce = s.dev.rounds.inForce := by rw [← hd0]; rfl
    have number : d0.rounds.number = s.dev.rounds.number := by rw [← hd0]; rfl
    have now : d0.now = s.dev.now := by rw [← hd0]; rfl
    cases mode : i.mode with
    | lead =>
      rw [completeStart_lead header mode] at run
      have common := startedBy_lead st i d0
      have startedL := startedLead_lead (st := st) mode d0
      generalize leadStarted st i d0 = y at run common startedL
      have ⟨iface, identity, _, _, numberY, inForceY, _⟩ := common
      obtain ⟨ifaceD, identityD, force, free⟩ := activateLead_does (y := y) (by
        unfold Device.leading Device.running; rw [iface, mode]; rfl) rfl
      rw [inForceY, numberY, number, inForce] at force
      rw [inForceY, numberY, number, inForce] at free
      refine ⟨y, activateLead y, run, common, ?_, ?_, ?_, ?_, ?_, ?_, fun bad => absurd bad (by simp), fun _ => ⟨startedL, force, free⟩⟩
      · rw [ifaceD, iface]
      · rw [ifaceD, iface]
      · rw [ifaceD, iface]
      · rw [ifaceD, iface]; exact congrArg some mode
      · rw [ifaceD, iface, now]
      · rw [identityD, identity]
    | follow =>
      rw [completeStart_follower header mode] at run
      have common := startedBy_follower st i d0
      have startedF := startedFollower_follower (st := st) mode d0
      generalize followerStarted st i d0 = y at run common startedF
      have ⟨iface, identity, _⟩ := common
      refine ⟨y, y, run, common, ?_, ?_, ?_, ?_, ?_, identity, fun _ => ⟨startedF, rfl⟩, fun bad => absurd bad (by simp)⟩
      · rw [iface]
      · rw [iface]
      · rw [iface]
      · rw [iface]; exact congrArg some mode
      · rw [iface, now]
  · have taken := complete_landed h (fun _ => withStart startShadowWritten)
    rw [withStart, show (dropAccess s.dev a.tag).iface.start = some st from starting] at taken
    dsimp only at taken
    rw [startShadowWritten, if_pos more] at taken
    exact congrArg Host.Outcome.next taken

end Sys2Proof.Machine.StartDone
